-- ==== Sys2Proof/Word.lean ====
section
/-! DEFINITION. The words and the numbered names the manual counts with. -/

namespace Sys2Proof

/-- One byte of a frame or a message on either link. -/
abbrev Byte := BitVec 8

/-- A lane of the bank, 0 to 15 (00_scope.md, "Numbering"). -/
abbrev LaneNo := Fin 16

/-- A zone of the bank, 0 to 15 (00_scope.md, "Numbering"). -/
abbrev ZoneNo := Fin 16

/-- A gate bank of the venue, 0 to 31 (00_scope.md, "Numbering"). -/
abbrev BankNo := Fin 32

/-- A set with members 0 to 15: zones, templates or lanes (R189: bit m stands for member m). -/
abbrev Set16 := BitVec 16

end Sys2Proof
end

