-- ==== Sys2Proof/Syntax.lean ====
section
/-! DEFINITION. The commands of the block: one constructor of `Instr` for each row of spec/opcode_table.json, with what each
carries. A management request carries nothing here: its fields stand in the payload of the Request frame at the head of the
Request Queue (R173), which a REQUEST_FRAME command brought. -/

namespace Sys2Proof

/-- The kind of a ticket key (R12, R13). -/
inductive KeyKind where
  | barcode | card
  deriving DecidableEq, Repr

/-- A ticket key: a kind and a value, the value up to 80 bits for a card (R12, R13). -/
structure Key where
  kind : KeyKind
  value : Nat
  deriving DecidableEq, Repr

/-- What a lane unit delivers as one presentation (R1): the characters or the UID bytes as read. -/
inductive Presentation where
  | barcode (payload : List Byte)
  | card (uid : List Byte)
  | collision
  deriving DecidableEq, Repr

/-- The direction of a rotation or of a Grant (R195). -/
inductive Direction where
  | entry | exit
  deriving DecidableEq, Repr

/-- A lamp override (R74). -/
inductive LampOverride where
  | off | on | blink
  deriving DecidableEq, Repr

/-- A lane's direction override (R74). -/
inductive DirOverride where
  | none | entry | exit | freeExit | closed
  deriving DecidableEq, Repr

/-- The image a Mode command carries and a Confirm report returns (R91, R195). -/
structure ControlImage where
  green : LampOverride
  red : LampOverride
  amber : LampOverride
  override : DirOverride
  power : Bool
  combine : Bool
  deriving DecidableEq, Repr

/-- The thirteen kinds of trunk frame (R190). -/
inductive FrameKind where
  | request | reply | tally | event | status | audit | query | answer
  | entryNotice | exitNotice | withdrawNotice | reconcileNotice | wake
  deriving DecidableEq, Repr

/-- What a party on the trunk puts into a frame it sends; the kind, the payload length and the frame check follow
from the command and the layout (R164, R189). -/
structure FrameFields where
  dst : Byte
  src : Byte
  tag : Byte
  payload : List Byte
  deriving DecidableEq, Repr

/-- The commands of the block, one per row of spec/opcode_table.json. -/
inductive Instr where
  /-- POWER_ON (R163) -/
  | powerOn
  /-- REQUEST_FRAME (R173): a Request frame arrives on the Trunk Link -/
  | requestFrame (f : FrameFields)
  | identify
  | assignBank
  | setEvent
  | setClock
  | setSchedule
  | setBankMode
  | bankReset
  | setTableGeometry
  | upsertRecords
  | fillSlots
  | revokeRecords
  | purgeRecords
  | readRecord
  | clearTable
  | sweepEnd
  | setProfileCount
  | writeProfile
  | writeTemplate
  | setLaneProfileChoice
  | setLaneControl
  | laneParameterAccess
  | laneAccessTimeout
  | laneLinkTest
  | setLinkHeader
  | setZoneQuota
  | resetZoneCounts
  | readZones
  | setPeer
  | setReporting
  | setEventLevels
  | setWakePattern
  | readLog
  | readStatus
  | readErrors
  | clearErrors
  | clearEvents
  | clearCounts
  | unknownRequest
  | replyPlace
  /-- ADMISSION_QUERY (R105): a Query frame arrives -/
  | admissionQuery (f : FrameFields)
  /-- ANSWER (R107): an Answer frame arrives -/
  | answer (f : FrameFields)
  | entryNotice (f : FrameFields)
  | exitNotice (f : FrameFields)
  | withdrawNotice (f : FrameFields)
  | reconcileNotice (f : FrameFields)
  | wakeFrame (f : FrameFields)
  /-- QUERY_DEADLINE_EXPIRY (R109): the deadline of the query of a lane -/
  | queryDeadlineExpiry (lane : LaneNo)
  /-- REMOTE_HOLD_DEADLINE (R114): the deadline of the remote hold on a key -/
  | remoteHoldDeadline (key : Key)
  /-- LAPSED_ENTRY_EXPIRY (R110): the expiry of the Lapsed List entry of a tag -/
  | lapsedEntryExpiry (tag : Byte)
  | laneCycleStart
  | automaticHeader
  | triggeredHeader
  /-- the commands of a lane's slot (R124) -/
  | poll (lane : LaneNo)
  | grantCommand (lane : LaneNo)
  | refuseCommand (lane : LaneNo)
  | referCommand (lane : LaneNo)
  | lampCommand (lane : LaneNo)
  | modeCommand (lane : LaneNo)
  | parameterCommand (lane : LaneNo)
  | repeatCommand (lane : LaneNo)
  | testCommand (lane : LaneNo)
  /-- the good reports in a lane's slot, each with its report number (R125) -/
  | nothingReport (lane : LaneNo) (number : Fin 16)
  | presentationReport (lane : LaneNo) (number : Fin 16) (p : Presentation)
  | passageReport (lane : LaneNo) (number : Fin 16) (d : Direction)
  | reverseReport (lane : LaneNo) (number : Fin 16)
  | forcedReport (lane : LaneNo) (number : Fin 16) (d : Direction)
  | buttonReport (lane : LaneNo) (number : Fin 16)
  | faultReport (lane : LaneNo) (number : Fin 16)
  | helloReport (lane : LaneNo) (number : Fin 16) (identity : BitVec 32)
  | confirmReport (lane : LaneNo) (number : Fin 16) (image : ControlImage)
  | parameterAnswer (lane : LaneNo) (number : Fin 16) (value : BitVec 16)
  | testEcho (lane : LaneNo) (number : Fin 16) (word : BitVec 16)
  | missingReply (lane : LaneNo)
  /-- GARBLED_REPLY (R125, R195): the bytes received in the slot -/
  | garbledReply (lane : LaneNo) (bytes : List Byte)
  | slotLoss (lane : LaneNo)
  | mateMarkClear (lane : LaneNo)
  | linkTestEnd
  | passWindowExpiry (lane : LaneNo)
  | refusalDisplayExpiry (lane : LaneNo)
  | clockAdvance
  | surgeUpdate
  | tallyHoldExpiry
  | tallyFrameBuild
  | auditFrameBuild
  | eventHoldoffExpiry
  | eventFramePlace
  | statusIntervalExpiry
  | statusReportPlace
  | trunkFrameSend
  /-- DAMAGED_FRAME (R165): the bytes of a frame as received -/
  | damagedFrame (bytes : List Byte)
  /-- UNWANTED_FRAME (R168): a frame of any kind that no block takes -/
  | unwantedFrame (kind : FrameKind) (f : FrameFields)
  deriving DecidableEq, Repr

end Sys2Proof
end

