-- ==== Sys2Proof/Config.lean ====
section
/-! DEFINITION. What an implementation fixes: the capacities the manual states, and the values it leaves open. -/

namespace Sys2Proof.Config

/-- The Request Queue holds up to 8 requests (R173). -/
def requestQueueSize : Nat := 8
/-- The Peer Queue holds 32 frames (R170). -/
def peerQueueSize : Nat := 32
/-- The Report Queue holds 16 frames (R170). -/
def reportQueueSize : Nat := 16
/-- The Reply Queue holds 8 frames (R170). -/
def replyQueueSize : Nat := 8
/-- The Lapsed List holds up to 16 entries (R110). -/
def lapsedListSize : Nat := 16
/-- The Reconcile List holds up to 256 entries (R119). -/
def reconcileListSize : Nat := 256
/-- The Policy Store has 48 units (R4). -/
def policyUnits : Nat := 48
/-- The log ring has 8,192 record places (R139). -/
def logPlaces : Nat := 8192
/-- The high mark of the log (R142). -/
def logHighMark : Nat := 6144
/-- The refuse threshold of the log (R142). -/
def logRefuseThreshold : Nat := 8160
/-- Event time runs from 0 to 863,999 tenths of a second (R151). -/
def dayTenths : Nat := 864000
/-- The largest value of a Barcode key (R12). -/
def barcodeKeyMax : Nat := 99999999999999
/-- The six bucket counts of the Entitlement Table (R16). -/
def bucketCounts : List Nat := [1024, 2048, 4096, 8192, 16384, 32768]

/-- FREE VALUE: a byte whose value the manual does not give (R189, R192, R193: bytes "not examined", the value of an
absent key; R81 with R35: the used count of a notice for a purged STAFF record). `draw` is the state's counter of free
values and `site` tells the bytes of one draw apart. Log entry 1. -/
opaque freeByte (draw site : Nat) : Byte

/-- FREE VALUE: the silicon revision number that Identify answers (R176); the manual does not give it. Log entry 2. -/
opaque siliconRevision : Byte

/-- FREE VALUE: the family name that Identify answers (R176); the manual does not spell it. Log entry 2. -/
opaque familyName : List Byte

/-- FREE VALUE: the part name that Identify answers (R176); the manual does not spell it. Log entry 2. -/
opaque partName : List Byte

end Sys2Proof.Config
end

