-- ==== Sys2Proof/Machine/State.lean ====
section
/-! DEFINITION. The state of the AC416, block by block, and its value right after power-on. -/

namespace Sys2Proof.Machine

/-! ## Names -/

/-- The five bank modes (R155). -/
inductive BankMode where
  | service | opened | closing | standby | deep
  deriving DecidableEq, Repr

/-- The mode a closing bank may end in: the after-close modes of R153 and the requested dormant modes of R157. -/
inductive RestMode where
  | service | standby | deep
  deriving DecidableEq, Repr

/-- The lane states (R74). -/
inductive LaneState where
  | closed | idle | querying | opened | refusing
  deriving DecidableEq, Repr

/-- The slot link states (R128). -/
inductive SlotLink where
  | absent | joining | active | lost
  deriving DecidableEq, Repr

/-- The kinds of ticket (R18). -/
inductive TicketClass where
  | single | returning | group | staff
  deriving DecidableEq, Repr

/-- A lane's direction (R75). -/
inductive LaneDirection where
  | entry | exit | freeExit | closed
  deriving DecidableEq, Repr

/-- The reasons of a refusal (R40, R190). -/
inductive Reason where
  | logFull | malformed | multipleCards | noFormat | badCheck | unknown | revoked | wrongEvent | tooEarly | tooLate
  | wrongGate | inPassage | alreadyIn | spent | cooldown | zoneFull | homeUnreachable
  deriving DecidableEq, Repr

/-- The outcomes of an admission record (R138). -/
inductive Outcome where
  | entry | exit | unmatchedExit | refused | referred | withdrawn | backedOut | tailgate | conflict | holdLapsed
  | lateEntry | laneLost
  deriving DecidableEq, Repr

/-- The verdicts of a decision (R51, R54). -/
inductive Verdict where
  | grant | refuse | refer
  deriving DecidableEq, Repr

/-- Who decided to let the holder in (R53). -/
inductive Authority where
  | byBank | remote | degraded
  deriving DecidableEq, Repr

/-- The 24 event causes, in the order of their numbers (R180). -/
inductive Cause where
  | presence | attention | laneCommandDone | jam | tailgate | conflict | zoneFull | holdLapsed | peerDown | peerUp
  | surgeOn | surgeOff | logHigh | logFull | auditDone | laneAccessDone | scheduleOpen | scheduleClose | modeChange
  | clockWrap | errorSerious | errorAdvisory | testDone | wake
  deriving DecidableEq, Repr

/-- The 14 error kinds, in the order of R185 (R189 numbers them so). -/
inductive ErrorKind where
  | frameCheck | laneReply | lateAnswer | orphanAnswer | peerTxDrop | rxDrop | reconcileDrop
  | oversize | malformedFrame | unknownRequest | tableFull | logOverrun | laneLostInPassage | templateVoid
  deriving DecidableEq, Repr

/-- The flag sources of the Bank Word (R131). -/
inductive FlagSource where
  | zero | one | bankOpen | closing | surge | degraded | anyZoneFull | logFull | cycleParity
  deriving DecidableEq, Repr

/-- The peer states (R98). -/
inductive PeerState where
  | up | suspect | down
  deriving DecidableEq, Repr

/-- The statuses of a reply (R174). -/
inductive ReplyStatus where
  | ok | clamped | busy | refused | unknownRequest
  deriving DecidableEq, Repr

/-- The causes of a refused request (R174, R190). -/
inductive RefusalCause where
  | none | badValue | noRoom | wrongMode | holdsPresent | notAssigned | clockUnset | pending | failed
  deriving DecidableEq, Repr

/-- The arbiter modes (R172). -/
inductive ArbiterMode where
  | roundRobin | weighted | reportOff
  deriving DecidableEq, Repr

/-- The two queues the arbiter chooses between below the Peer Queue (R172). -/
inductive ServedQueue where
  | report | reply
  deriving DecidableEq, Repr

/-- The log full policies (R141). -/
inductive LogPolicy where
  | refuse | overwrite
  deriving DecidableEq, Repr

/-! ## Policy Store: lane profiles and Format Templates -/

/-- The contents of a lane profile (R75). Sets are bit sets: reasons by reason code, classes by class code. -/
structure Profile where
  direction : LaneDirection
  zones : Set16
  templates : Set16
  cards : Bool
  /-- pass window, in tenths of a second -/
  passWindow : Nat
  /-- refusal display time, in tenths of a second -/
  display : Nat
  /-- re-entry cooldown, in seconds -/
  cooldown : Nat
  refer : BitVec 17
  offline : BitVec 4
  deriving DecidableEq, Repr

/-- The default contents of a lane profile (R75). -/
def Profile.default : Profile :=
  { direction := .closed, zones := 0, templates := 0, cards := false, passWindow := 80, display := 15, cooldown := 60,
    refer := 0, offline := 0 }

/-- The contents of a Loaded Format Template (R2). -/
structure Template where
  lenMin : Nat
  lenMax : Nat
  marker : List Byte
  markerAt : Nat
  eventAt : Nat
  eventLen : Nat
  serialAt : Nat
  serialLen : Nat
  checkAt : Nat
  checkLen : Nat
  deriving DecidableEq, Repr

/-- The Policy Store (R4): the profile count NP, the profiles 0 to NP - 1 and the templates, `none` an Unloaded one.
A profile at or above NP has no contents and stands here as the default. -/
structure Policy where
  np : Nat
  profiles : Vector Profile 8
  templates : Vector (Option Template) 16
  deriving DecidableEq, Repr

/-! ## Entitlement Table -/

/-- A record's window: the span of the day in which entry is allowed (R18). -/
structure Window where
  opens : Nat
  closes : Nat
  deriving DecidableEq, Repr

/-- Where and when the latest entry or exit took place, and the zone of the latest entry (R18). The time is absent only
after a notice that carried an absent event time (R196). -/
structure Last where
  time : Option Nat
  bank : BankNo
  lane : LaneNo
  zone : Option ZoneNo
  deriving DecidableEq, Repr

/-- The states a hold can have as its prior state (R19): every state but HELD and REVOKED. -/
inductive Resting where
  | unused | inside | outside | spent
  deriving DecidableEq, Repr

/-- The one holder of a HELD record, with the part of the hold that only its kind has (R19). -/
inductive Holder where
  | lane (lane : LaneNo) (zone : Option ZoneNo)
  | remote (bank : BankNo) (lane : LaneNo) (deadline : Nat)
  deriving DecidableEq, Repr

/-- The hold part (R19). `revokePending` is the pending revoke reason, present while revoke-pending is set. -/
structure Hold where
  holder : Holder
  prior : Resting
  revokePending : Option (Fin 16)
  deriving DecidableEq, Repr

/-- A record's state with the parts that state carries: the hold part exactly while HELD, the revoke reason while REVOKED or
revoke-pending (R20). -/
inductive RecordState where
  | resting (r : Resting)
  | held (h : Hold)
  | revoked (reason : Fin 16)
  deriving DecidableEq, Repr

/-- A record of the Entitlement Table (R18). -/
structure Record where
  key : Key
  cls : TicketClass
  allowance : Nat
  used : Nat
  home : BankNo
  zones : Set16
  multiEvent : Bool
  window : Option Window
  state : RecordState
  last : Option Last
  provisional : Bool
  deriving DecidableEq, Repr

/-- The Entitlement Table (R16): the geometry and the occupied slots, by rising slot number; a slot not listed is FREE.
`sweeping` says that a sweep runs (R31). -/
structure Table where
  buckets : Nat
  probe : Nat
  slots : List (Nat × Record)
  sweeping : Bool
  deriving DecidableEq, Repr

/-! ## Zone Counter -/

/-- A zone entry (R61). -/
structure Zone where
  quota : Nat
  entered : Nat
  held : Nat
  scanOuts : Nat
  deriving DecidableEq, Repr

/-! ## Lane sequencers -/

/-- The result of a decision, from the verdict until the lane's operation ends (R54, R74). -/
structure DecisionResult where
  verdict : Verdict
  authority : Option Authority
  cls : Option TicketClass
  zone : Option ZoneNo
  provisional : Bool
  held : Bool
  deriving DecidableEq, Repr

/-- What the sequencer keeps of the decision while its query runs: the presented event code and the class found.
(Log entry 8.) -/
structure QueryContext where
  code : Option Nat
  cls : TicketClass
  deriving DecidableEq, Repr

/-- The profile in force: a copy of a profile with the index it was adopted from (R74). -/
structure Adopted where
  index : Fin 8
  profile : Profile
  deriving DecidableEq, Repr

/-- The mate mark of a wide lane: the head whose passage report is still due, and the reports its slot has carried since
(R89). -/
structure MateMark where
  head : LaneNo
  reports : Nat
  deriving DecidableEq, Repr

/-- The seven counts of a lane (R95). -/
structure LaneCounts where
  presentations : Nat
  grants : Nat
  refusals : Nat
  refers : Nat
  busyDiscards : Nat
  tailgates : Nat
  freeExits : Nat
  deriving DecidableEq, Repr

/-- A lane sequencer (R74). `override` and `power` are the ones in force; the requested ones, with the lamp overrides, stand
in the control image (R91). A timer is its expiry on the part's own time base, `none` while stopped. `reservation` is the
zone of the standing reservation (R62). -/
structure Lane where
  state : LaneState
  choice : Fin 8
  inForce : Option Adopted
  profileMissing : Bool
  override : DirOverride
  power : Bool
  control : ControlImage
  confirmed : Option ControlImage
  commanding : Bool
  key : Option Key
  result : Option DecisionResult
  reservation : Option ZoneNo
  query : Option QueryContext
  passTimer : Option Nat
  displayTimer : Option Nat
  mate : Option MateMark
  counts : LaneCounts
  deriving DecidableEq, Repr

/-- The combine setting of a pair of lanes (R88). -/
structure Pair where
  requested : Bool
  inForce : Bool
  deriving DecidableEq, Repr

/-! ## Lane Link -/

/-- A verdict command as queued (R79): Grant with its direction and pass window, Refuse and Refer with the display time. -/
inductive VerdictCommand where
  | grant (d : Direction) (window : Nat)
  | refuse (display : Nat)
  | refer (display : Nat)
  deriving DecidableEq, Repr

/-- What a Lamp command shows (R195). -/
inductive Display where
  | ready | closed
  deriving DecidableEq, Repr

/-- The command a slot carries (R124). `mode none` is the Mode command with the reset indication. -/
inductive SlotCommand where
  | poll (join : Bool)
  | verdict (v : VerdictCommand)
  | lamp (d : Display)
  | mode (image : Option ControlImage)
  | parameter (number : Nat) (write : Bool) (value : BitVec 16)
  | again
  | test (word : BitVec 16)
  deriving DecidableEq, Repr

/-- A slot of the Lane Link (R124 to R129), with the commands waiting in it (R79). `sent` is the command of the slot in
progress, whose reply is awaited; `undelivered` marks a waiting verdict as one that is due again (R126). -/
structure Slot where
  link : SlotLink
  failureRun : Nat
  joinRun : Nat
  repeatCount : Nat
  repeatDue : Bool
  lastNumber : Option (Fin 16)
  identity : Option (BitVec 32)
  resetDue : Bool
  verdict : Option VerdictCommand
  undelivered : Bool
  parameterDue : Bool
  modeDue : Bool
  lamp : Option Display
  outstanding : Option SlotCommand
  sent : Option SlotCommand
  mismatches : Nat
  deriving DecidableEq, Repr

/-- The header settings (R130). -/
structure HeaderSettings where
  count : Nat
  words : Vector (BitVec 16) 7
  bankWord : Bool
  select : Vector FlagSource 8
  rising : BitVec 8
  falling : BitVec 8
  offset : Nat
  deriving DecidableEq, Repr

/-- A link test set up or in progress (R134). `begun` is set from the first cycle that starts after the request. -/
structure LinkTest where
  count : Nat
  word : BitVec 16
  begun : Bool
  deriving DecidableEq, Repr

/-- The Lane Link Controller. The cycle has reached slot `next` (16 after the last slot); `awaiting` says that this slot's
command is sent and its reply window open; `gapHeader` that the gap before it has held a header; `autoDone` that this cycle's
automatic header is sent, and `autoAt` the slot it stands before. `stopping` says that the link stops when the slot in
progress ends (R136). `line` is the last message the AC416 sent. -/
structure Link where
  running : Bool
  stopping : Bool
  parity : Bool
  cycleStart : Nat
  period : Nat
  next : Nat
  awaiting : Bool
  gapHeader : Bool
  autoDone : Bool
  autoAt : Nat
  trigger : Bool
  settings : HeaderSettings
  pendingSettings : Option HeaderSettings
  slots : Vector Slot 16
  test : Option LinkTest
  cyclesRun : Nat
  line : List Byte
  deriving DecidableEq, Repr

/-! ## Peer Coordinator -/

/-- A Peer Table entry (R98). -/
structure Peer where
  present : Bool
  state : PeerState
  timeouts : Nat
  deriving DecidableEq, Repr

/-- A Query Table entry (R104). -/
structure Query where
  tag : Byte
  lane : LaneNo
  home : BankNo
  key : Key
  zone : Option ZoneNo
  deadline : Nat
  deriving DecidableEq, Repr

/-- The lapsed verdict of a query given up (R109, R110). -/
inductive LapsedVerdict where
  | grant | refuse | aborted
  deriving DecidableEq, Repr

/-- A Lapsed List entry (R110). -/
structure Lapsed where
  tag : Byte
  lane : LaneNo
  home : BankNo
  key : Key
  verdict : LapsedVerdict
  expiry : Nat
  deriving DecidableEq, Repr

/-- A Reconcile List entry (R119). -/
structure Reconcile where
  key : Key
  home : BankNo
  time : Option Nat
  lane : LaneNo
  used : Nat
  zone : Option ZoneNo
  deriving DecidableEq, Repr

/-- The Peer Coordinator (R98, R102, R104, R110, R119); the query timeout in milliseconds, the remote hold time in seconds. -/
structure Peers where
  entries : Vector Peer 32
  downAfter : Nat
  queryTimeout : Nat
  remoteHold : Nat
  nextTag : Byte
  queries : List Query
  lapsed : List Lapsed
  reconcile : List Reconcile
  deriving DecidableEq, Repr

/-! ## Admission Log and Drain -/

/-- An admission record as its writer hands it to the log (R138). -/
structure Admission where
  time : Option Nat
  bank : BankNo
  lane : LaneNo
  outcome : Outcome
  reason : Option Reason
  cls : Option TicketClass
  key : Option Key
  zone : Option ZoneNo
  used : Option Nat
  provisional : Bool
  deriving DecidableEq, Repr

/-- A kept record: its sequence number, the moment of its writing (R145) and its fields. -/
structure Entry where
  seq : Nat
  written : Nat
  admission : Admission
  deriving DecidableEq, Repr

/-- A coalescing set (R144); the hold time in milliseconds. -/
structure Coalescing where
  batch : Nat
  hold : Nat
  deriving DecidableEq, Repr

/-- A running audit transfer (R147): its position, the numbers left of its span, and its counts. -/
structure Audit where
  position : Nat
  left : Nat
  sent : Nat
  missing : Nat
  deriving DecidableEq, Repr

/-- The Admission Log and Drain (R139, R144 to R148). `kept` holds the kept records, oldest first; the kept count is its
length and the last `undrained` of them are undrained. `due` is the outcome of the last drain test: a tally frame is due. -/
structure Log where
  nextSeq : Nat
  kept : List Entry
  undrained : Nat
  lost : Nat
  unlogged : Nat
  policy : LogPolicy
  calm : Coalescing
  surge : Coalescing
  due : Bool
  audit : Option Audit
  auditSent : Nat
  auditMissing : Nat
  deriving DecidableEq, Repr

/-! ## Event and Error Unit -/

/-- The values of an event cause (R180). -/
structure CauseEntry where
  pending : Bool
  count : Nat
  detail : Option Nat
  deriving DecidableEq, Repr

/-- The values of an error kind (R185). -/
structure ErrorEntry where
  detected : Bool
  count : Nat
  masked : Bool
  deriving DecidableEq, Repr

/-- What the First Error capture holds (R186). -/
structure FirstError where
  kind : ErrorKind
  time : Option Nat
  lane : Option LaneNo
  deriving DecidableEq, Repr

/-- The entry of the header log (R186). -/
structure HeaderLog where
  kind : ErrorKind
  bytes : List Byte
  deriving DecidableEq, Repr

/-- The Event and Error Unit (R180 to R188). `holdoff` and `statusTimer` are expiries on the part's own time base;
`statusDue` says that a status report is due, `statusRest` holds the next part number and the bytes of a report whose first
part is placed. Whether an event frame is waiting shows in the Report Queue. -/
structure Evu where
  causes : Vector CauseEntry 24
  levels : Vector Nat 12
  reportThreshold : Nat
  wakeThreshold : Nat
  wanted : Bool
  holdoff : Option Nat
  holdoffTime : Nat
  errors : Vector ErrorEntry 14
  firstError : Option FirstError
  headerLog : Option HeaderLog
  statusInterval : Nat
  statusTimer : Option Nat
  statusDue : Bool
  statusRest : Option (Nat × List Byte)
  deriving DecidableEq, Repr

/-! ## Bank Clock and Mode Unit -/

/-- The schedule (R153). -/
structure Schedule where
  opening : Nat
  closing : Nat
  armed : Bool
  afterClose : RestMode
  deriving DecidableEq, Repr

/-- The surge estimator (R161, R162); `due` is the next whole second of the part's own time base. -/
structure Surge where
  estimate : Nat
  count : Nat
  flag : Bool
  on : Nat
  off : Nat
  due : Nat
  deriving DecidableEq, Repr

/-- The Bank Clock and Mode Unit. `clock` is `none` while Unset; `tick` is the moment of its next advance. `requested` is the
requested dormant mode of a closing bank. `entering` marks a dormant entry under way, whose own causes release nothing (R158). -/
structure Bcm where
  clock : Option Nat
  tick : Nat
  code : Option Nat
  schedule : Schedule
  mode : BankMode
  requested : Option RestMode
  entering : Bool
  surge : Surge
  wakeOffset : Nat
  wakePattern : List Byte
  deriving DecidableEq, Repr

/-! ## Trunk Port and Management Engine -/

/-- The payload of a waiting frame: its bytes, or the list an event frame reads as it is sent (R183). -/
inductive Body where
  | bytes (payload : List Byte)
  | eventList
  deriving DecidableEq, Repr

/-- A frame in a transmit queue; its Source is added as it is sent (R168). -/
structure TxFrame where
  dst : Byte
  kind : FrameKind
  tag : Byte
  body : Body
  deriving DecidableEq, Repr

/-- The Trunk Port (R166, R167, R170 to R172). `line` is the last frame the link began to send. -/
structure Trunk where
  maxPayload : Nat
  taken : Nat
  foreign : Nat
  unwanted : Nat
  peerQ : List TxFrame
  reportQ : List TxFrame
  replyQ : List TxFrame
  reportTag : Byte
  arbiter : ArbiterMode
  weight : Nat
  reportCount : Nat
  lastServed : Option ServedQueue
  line : List Byte
  deriving DecidableEq, Repr

/-- A request in the Request Queue (R173), with the first 16 bytes of its frame for the header log (R174). -/
structure Request where
  src : Byte
  tag : Byte
  payload : List Byte
  lead : List Byte
  deriving DecidableEq, Repr

/-- What the reply to a request in execution is addressed by (R174). -/
structure ReplyHead where
  dst : Byte
  tag : Byte
  code : Nat
  deriving DecidableEq, Repr

/-- The parts of a reply still to be placed (R174). -/
structure ReplyRest where
  head : ReplyHead
  status : ReplyStatus
  cause : RefusalCause
  part : Nat
  rest : List Byte
  deriving DecidableEq, Repr

/-- The Lane Parameter Access in flight (R94). `slots` counts the lane's slots carried since the Parameter command was
first sent, `none` before that. -/
structure Access where
  lane : LaneNo
  number : Nat
  write : Bool
  value : BitVec 16
  slots : Option Nat
  deriving DecidableEq, Repr

/-- What the Management Engine is doing (R173). `sweeping` keeps the probe limit that a clamped Set Table Geometry applied. -/
inductive MgePhase where
  | idle
  | sweeping (head : ReplyHead) (clamped : Option Nat)
  | accessing (head : ReplyHead) (a : Access)
  | replying (r : ReplyRest)
  deriving DecidableEq, Repr

/-- The Management Engine: its phase and the Request Queue (R173). -/
structure Mge where
  phase : MgePhase
  queue : List Request
  deriving DecidableEq, Repr

/-! ## The whole machine -/

/-- The state of the AC416 and of the queue of commands waiting for it. `now` is the part's own time base in milliseconds;
`draws` counts the free values drawn (log entry 1); `bank` is the bank number, `none` while unassigned (R169). -/
structure State where
  pending : List Instr
  now : Nat
  draws : Nat
  bank : Option BankNo
  trunk : Trunk
  mge : Mge
  policy : Policy
  table : Table
  zones : Vector Zone 16
  lanes : Vector Lane 16
  pairs : Vector Pair 8
  link : Link
  peers : Peers
  log : Log
  evu : Evu
  bcm : Bcm
  deriving DecidableEq, Repr

/-- Why the machine stops with a fault: never. The manual names no condition that stops the part, and no command of the
table stops in this model, so the type has no constructor (safe). -/
inductive Fault where
  deriving DecidableEq, Repr

/-- Why a command is refused. -/
inductive Refusal where
  /-- Raised by `exec` for a command of the table that has no meaning in the model. No arm raises it: every command has
  its meaning. Safe: it stops where the hardware goes on. -/
  | notModelled (mnemonic : String)
  deriving DecidableEq, Repr

/-! ## Reset: the state after power-on -/

/-- The control image at power-on (R74, R91). -/
def ControlImage.initial : ControlImage :=
  { green := .off, red := .off, amber := .off, override := .none, power := true, combine := false }

/-- A lane's counts, all 0 (R95). -/
def LaneCounts.zero : LaneCounts :=
  { presentations := 0, grants := 0, refusals := 0, refers := 0, busyDiscards := 0, tailgates := 0, freeExits := 0 }

/-- A lane sequencer at power-on (R74). -/
def Lane.initial : Lane :=
  { state := .closed, choice := 0, inForce := none, profileMissing := false, override := .none, power := true,
    control := ControlImage.initial, confirmed := none, commanding := false, key := none, result := none,
    reservation := none, query := none, passTimer := none, displayTimer := none, mate := none, counts := LaneCounts.zero }

/-- A slot at power-on (R137). No report has been taken, so the first good reply is a new report (log entry 45). -/
def Slot.initial : Slot :=
  { link := .absent, failureRun := 0, joinRun := 0, repeatCount := 0, repeatDue := false, lastNumber := none,
    identity := none, resetDue := false, verdict := none, undelivered := false, parameterDue := false, modeDue := false,
    lamp := none, outstanding := none, sent := none, mismatches := 0 }

/-- The header settings at power-on (R130, R131). -/
def HeaderSettings.initial : HeaderSettings :=
  { count := 2, words := Vector.replicate 7 0, bankWord := true,
    select := #v[.bankOpen, .closing, .surge, .degraded, .anyZoneFull, .logFull, .cycleParity, .zero],
    rising := 0, falling := 0, offset := 0 }

/-- The Lane Link Controller at power-on: the first cycle starts at power-on (R123, R137). -/
def Link.initial : Link :=
  { running := true, stopping := false, parity := false, cycleStart := 0, period := 4, next := 0, awaiting := false,
    gapHeader := false, autoDone := false, autoAt := 0, trigger := false, settings := HeaderSettings.initial,
    pendingSettings := none, slots := Vector.replicate 16 Slot.initial, test := none, cyclesRun := 0, line := [] }

/-- The Peer Coordinator at power-on (R122). -/
def Peers.initial : Peers :=
  { entries := Vector.replicate 32 { present := false, state := .down, timeouts := 0 }, downAfter := 3,
    queryTimeout := 150, remoteHold := 12, nextTag := 0, queries := [], lapsed := [], reconcile := [] }

/-- The log at power-on (R150). -/
def Log.initial : Log :=
  { nextSeq := 0, kept := [], undrained := 0, lost := 0, unlogged := 0, policy := .refuse,
    calm := { batch := 8, hold := 500 }, surge := { batch := 32, hold := 2000 }, due := false, audit := none,
    auditSent := 0, auditMissing := 0 }

/-- The Event and Error Unit at power-on (R181, R188). -/
def Evu.initial : Evu :=
  { causes := Vector.replicate 24 { pending := false, count := 0, detail := none },
    levels := #v[3, 3, 2, 1, 2, 6, 2, 5, 5, 6, 2, 5], reportThreshold := 4, wakeThreshold := 2, wanted := false,
    holdoff := none, holdoffTime := 100,
    errors := Vector.replicate 14 { detected := false, count := 0, masked := false }, firstError := none,
    headerLog := none, statusInterval := 10, statusTimer := some 10000, statusDue := false, statusRest := none }

/-- The Bank Clock and Mode Unit at power-on (R163). -/
def Bcm.initial : Bcm :=
  { clock := none, tick := 0, code := none,
    schedule := { opening := 0, closing := 0, armed := false, afterClose := .service }, mode := .service,
    requested := none, entering := false,
    surge := { estimate := 0, count := 0, flag := false, on := 20, off := 12, due := 1000 },
    wakeOffset := 0, wakePattern := [0, 0] }

/-- The Trunk Port at power-on (R179). -/
def Trunk.initial : Trunk :=
  { maxPayload := 512, taken := 0, foreign := 0, unwanted := 0, peerQ := [], reportQ := [], replyQ := [], reportTag := 0,
    arbiter := .roundRobin, weight := 4, reportCount := 0, lastServed := none, line := [] }

/-- The Entitlement Table at power-on (R16, R38). -/
def Table.initial : Table := { buckets := 16384, probe := 2, slots := [], sweeping := false }

/-- A zone entry at power-on (R61). -/
def Zone.initial : Zone := { quota := 0, entered := 0, held := 0, scanOuts := 0 }

/-- The Policy Store at power-on: NP is 4, every profile the default, every template Unloaded (R2, R4). -/
def Policy.initial : Policy :=
  { np := 4, profiles := Vector.replicate 8 Profile.default, templates := Vector.replicate 16 none }

/-- The machine right after power-on (R163 and the power-on values of every chapter): no bank number, every queue empty, the
Management Engine idle. At power-on every CLOSED lane has its profile in force "none" (R74). -/
def State.reset : State :=
  { pending := [], now := 0, draws := 0, bank := none, trunk := Trunk.initial, mge := { phase := .idle, queue := [] },
    policy := Policy.initial, table := Table.initial, zones := Vector.replicate 16 Zone.initial,
    lanes := Vector.replicate 16 Lane.initial, pairs := Vector.replicate 8 { requested := false, inForce := false },
    link := Link.initial, peers := Peers.initial, log := Log.initial, evu := Evu.initial, bcm := Bcm.initial }

end Sys2Proof.Machine
end

