-- ==== Sys2Proof/Machine/Ops.lean ====
section
/-! DEFINITION. The shared operations on numbers, bytes, numbered tables and the time base. -/

namespace Sys2Proof.Machine

/-! ## Numbered tables -/

/-- The table with entry `i` changed by `f`, every other entry as it was. -/
def upd {α : Type} {n : Nat} (v : Vector α n) (i : Fin n) (f : α → α) : Vector α n :=
  v.set i.val (f (v.get i)) i.isLt

/-- The table with every entry changed by `f`. -/
def updAll {α : Type} {n : Nat} (v : Vector α n) (f : α → α) : Vector α n := v.map f

/-- The lanes in order, 0 to 15 (R123). -/
def allLanes : List LaneNo := List.finRange 16
/-- The zones in order, 0 to 15 (R63). -/
def allZones : List ZoneNo := List.finRange 16
/-- The banks in order, 0 to 31 (R98). -/
def allBanks : List BankNo := List.finRange 32
/-- The pairs of lanes in order, 0 to 7 (R88). -/
def allPairs : List (Fin 8) := List.finRange 8

/-- Do `f` for each lane in turn. -/
def State.eachLane (f : LaneNo → State → State) (s : State) : State := allLanes.foldl (fun t l => f l t) s

def State.lane (s : State) (l : LaneNo) : Lane := s.lanes.get l
def State.slot (s : State) (l : LaneNo) : Slot := s.link.slots.get l
def State.zone (s : State) (z : ZoneNo) : Zone := s.zones.get z
def State.peer (s : State) (b : BankNo) : Peer := s.peers.entries.get b

def State.modLane (l : LaneNo) (f : Lane → Lane) (s : State) : State := { s with lanes := upd s.lanes l f }
def State.modLink (f : Link → Link) (s : State) : State := { s with link := f s.link }
def State.modSlot (l : LaneNo) (f : Slot → Slot) (s : State) : State :=
  { s with link := { s.link with slots := upd s.link.slots l f } }
def State.modTable (f : Table → Table) (s : State) : State := { s with table := f s.table }
def State.modPeers (f : Peers → Peers) (s : State) : State := { s with peers := f s.peers }
def State.modLog (f : Log → Log) (s : State) : State := { s with log := f s.log }
def State.modEvu (f : Evu → Evu) (s : State) : State := { s with evu := f s.evu }
def State.modBcm (f : Bcm → Bcm) (s : State) : State := { s with bcm := f s.bcm }
def State.modTrunk (f : Trunk → Trunk) (s : State) : State := { s with trunk := f s.trunk }
def State.modMge (f : Mge → Mge) (s : State) : State := { s with mge := f s.mge }
def State.modPolicy (f : Policy → Policy) (s : State) : State := { s with policy := f s.policy }

/-! ## Numbers -/

/-- A value clamped to a range (R174: values on a range are clamped). -/
def clamp (lo hi v : Nat) : Nat := if v < lo then lo else if hi < v then hi else v

/-- A saturating count of 0 to 65,535, raised by 1. -/
def sat16 (n : Nat) : Nat := if n < 65535 then n + 1 else 65535

/-- A saturating count of 0 to 255, raised by 1. -/
def sat8 (n : Nat) : Nat := if n < 255 then n + 1 else 255

def toLane (n : Nat) : Option LaneNo := if h : n < 16 then some ⟨n, h⟩ else none
def toZone (n : Nat) : Option ZoneNo := if h : n < 16 then some ⟨n, h⟩ else none
def toBank (n : Nat) : Option BankNo := if h : n < 32 then some ⟨n, h⟩ else none

/-! ## Time -/

/-- The part's own time base has come at least to `t`: a timed event happens at its moment or later, never before. (Log
entry 3.) -/
def State.reach (t : Nat) (s : State) : State := { s with now := max s.now t }

/-- The event time, or none while the clock is Unset (R151). -/
def State.eventTime (s : State) : Option Nat := s.bcm.clock

/-- This bank's number where a record or notice carries it. A lane can be opened only in a bank with a number (R156), so
the value for an unassigned bank is never written by a run. (Log entry 12.) -/
def State.ownBank (s : State) : BankNo := s.bank.getD 0

/-! ## Bytes -/

/-- A number in `n` bytes, most significant byte first (00_scope.md, "Byte order"). -/
def be : Nat → Nat → List Byte
  | 0, _ => []
  | n + 1, v => BitVec.ofNat 8 (v / 256 ^ n) :: be n v

/-- The number that bytes carry, most significant byte first. -/
def ofBytes (bs : List Byte) : Nat := bs.foldl (fun a b => a * 256 + b.toNat) 0

/-- One byte. -/
def byte (n : Nat) : Byte := BitVec.ofNat 8 n

/-- A flag as a byte or a bit of one. -/
def bit (b : Bool) : Nat := if b then 1 else 0

/-- `n` bytes that the manual leaves open, of draw `draw`, from site `site` on. (Log entry 1.) -/
def openBytes (draw site : Nat) : Nat → List Byte
  | 0 => []
  | n + 1 => Config.freeByte draw site :: openBytes draw (site + 1) n

/-- The next draw of free values is another one. -/
def State.drawn (s : State) : State := { s with draws := s.draws + 1 }

/-- One bit of the frame check (R164): the polynomial x^16 + x^12 + x^5 + 1. -/
def crcBit (c : BitVec 16) : BitVec 16 := if c.msb then (c <<< 1) ^^^ 0x1021 else c <<< 1

/-- One byte of the frame check, most significant bit first (R164). -/
def crcByte (c : BitVec 16) (b : Byte) : BitVec 16 :=
  crcBit (crcBit (crcBit (crcBit (crcBit (crcBit (crcBit (crcBit (c ^^^ (b.zeroExtend 16 <<< 8)))))))))

/-- The frame check of a run of bytes: initial value all ones, no final inversion (R164). -/
def crc16 (bs : List Byte) : BitVec 16 := bs.foldl crcByte 0xFFFF

/-- A message with its 2-byte check (R164, R195). -/
def withCheck (bs : List Byte) : List Byte := bs ++ be 2 (crc16 bs).toNat

end Sys2Proof.Machine
end

