-- ==== Sys2Proof/Machine/Codes.lean ====
section
/-! DEFINITION. The code of every name on the two links (R189, R190, R193, R195), and the names that codes read. -/

namespace Sys2Proof.Machine

/-- Kind codes (R190). -/
def kindCode : FrameKind → Nat
  | .request => 1 | .reply => 2 | .tally => 3 | .event => 4 | .status => 5 | .audit => 6 | .query => 7 | .answer => 8
  | .entryNotice => 9 | .exitNotice => 10 | .withdrawNotice => 11 | .reconcileNotice => 12 | .wake => 13

def kindOf : Nat → Option FrameKind
  | 1 => some .request | 2 => some .reply | 3 => some .tally | 4 => some .event | 5 => some .status | 6 => some .audit
  | 7 => some .query | 8 => some .answer | 9 => some .entryNotice | 10 => some .exitNotice
  | 11 => some .withdrawNotice | 12 => some .reconcileNotice | 13 => some .wake | _ => none

/-- Record state codes (R190). -/
def restingCode : Resting → Nat
  | .unused => 0 | .inside => 2 | .outside => 3 | .spent => 4

def stateCode : RecordState → Nat
  | .resting r => restingCode r | .held _ => 1 | .revoked _ => 5

def restingOf : Nat → Option Resting
  | 0 => some .unused | 2 => some .inside | 3 => some .outside | 4 => some .spent | _ => none

/-- Class codes (R190). -/
def classCode : TicketClass → Nat
  | .single => 0 | .returning => 1 | .group => 2 | .staff => 3

def classOf : Nat → Option TicketClass
  | 0 => some .single | 1 => some .returning | 2 => some .group | 3 => some .staff | _ => none

/-- Reason codes (R190). -/
def reasonCode : Reason → Nat
  | .logFull => 0 | .malformed => 1 | .multipleCards => 2 | .noFormat => 3 | .badCheck => 4 | .unknown => 5
  | .revoked => 6 | .wrongEvent => 7 | .tooEarly => 8 | .tooLate => 9 | .wrongGate => 10 | .inPassage => 11
  | .alreadyIn => 12 | .spent => 13 | .cooldown => 14 | .zoneFull => 15 | .homeUnreachable => 16

def reasonOf : Nat → Option Reason
  | 0 => some .logFull | 1 => some .malformed | 2 => some .multipleCards | 3 => some .noFormat | 4 => some .badCheck
  | 5 => some .unknown | 6 => some .revoked | 7 => some .wrongEvent | 8 => some .tooEarly | 9 => some .tooLate
  | 10 => some .wrongGate | 11 => some .inPassage | 12 => some .alreadyIn | 13 => some .spent | 14 => some .cooldown
  | 15 => some .zoneFull | 16 => some .homeUnreachable | _ => none

/-- Outcome codes (R190). -/
def outcomeCode : Outcome → Nat
  | .entry => 0 | .exit => 1 | .unmatchedExit => 2 | .refused => 3 | .referred => 4 | .withdrawn => 5 | .backedOut => 6
  | .tailgate => 7 | .conflict => 8 | .holdLapsed => 9 | .lateEntry => 10 | .laneLost => 11

/-- Bank mode codes (R190). -/
def modeCode : BankMode → Nat
  | .service => 0 | .opened => 1 | .closing => 2 | .standby => 3 | .deep => 4

def modeOf : Nat → Option BankMode
  | 0 => some .service | 1 => some .opened | 2 => some .closing | 3 => some .standby | 4 => some .deep | _ => none

/-- The after-close modes take the Bank mode codes (R153, R193). -/
def restModeOf : Nat → Option RestMode
  | 0 => some .service | 3 => some .standby | 4 => some .deep | _ => none

/-- Reply status codes (R190). -/
def statusCode : ReplyStatus → Nat
  | .ok => 0 | .clamped => 1 | .busy => 2 | .refused => 3 | .unknownRequest => 4

/-- Refusal cause codes (R190). -/
def refusalCode : RefusalCause → Nat
  | .none => 0 | .badValue => 1 | .noRoom => 2 | .wrongMode => 3 | .holdsPresent => 4 | .notAssigned => 5
  | .clockUnset => 6 | .pending => 7 | .failed => 8

/-- The per-entry statuses of the list requests (R25 to R29). -/
inductive EntryStatus where
  | stored | replaced | tableFull | badWindow | held | outOfRange | duplicate | badValue | unknown | revoked | pending
  | purged
  deriving DecidableEq, Repr

/-- Per-entry status codes (R190). -/
def entryStatusCode : EntryStatus → Nat
  | .stored => 0 | .replaced => 1 | .tableFull => 2 | .badWindow => 3 | .held => 4 | .outOfRange => 5 | .duplicate => 6
  | .badValue => 7 | .unknown => 8 | .revoked => 9 | .pending => 10 | .purged => 11

/-- Lane state codes (R190). -/
def laneStateCode : LaneState → Nat
  | .closed => 0 | .idle => 1 | .querying => 2 | .opened => 3 | .refusing => 4

/-- Slot link state codes (R190). -/
def slotLinkCode : SlotLink → Nat
  | .absent => 0 | .joining => 1 | .active => 2 | .lost => 3

/-- Flag source codes (R190). -/
def flagCode : FlagSource → Nat
  | .zero => 0 | .one => 1 | .bankOpen => 2 | .closing => 3 | .surge => 4 | .degraded => 5 | .anyZoneFull => 6
  | .logFull => 7 | .cycleParity => 8

def flagOf : Nat → Option FlagSource
  | 0 => some .zero | 1 => some .one | 2 => some .bankOpen | 3 => some .closing | 4 => some .surge | 5 => some .degraded
  | 6 => some .anyZoneFull | 7 => some .logFull | 8 => some .cycleParity | _ => none

/-- Peer state codes of the status frame (R194). -/
def peerStateCode : PeerState → Nat
  | .up => 0 | .suspect => 1 | .down => 2

/-- Arbiter modes by their position in the list of R177 (R193). -/
def arbiterCode : ArbiterMode → Nat
  | .roundRobin => 0 | .weighted => 1 | .reportOff => 2

def arbiterOf : Nat → Option ArbiterMode
  | 0 => some .roundRobin | 1 => some .weighted | 2 => some .reportOff | _ => none

/-- Log full policies by their position in the list of R177 (R193). -/
def policyCode : LogPolicy → Nat
  | .refuse => 0 | .overwrite => 1

def policyOf : Nat → Option LogPolicy
  | 0 => some .refuse | 1 => some .overwrite | _ => none

/-- Present and Absent by their position in the list of R98 (R193). -/
def presenceOf : Nat → Option Bool
  | 0 => some true | 1 => some false | _ => none

/-- An indication, or a choice between set and clear (R193). -/
def indicationOf : Nat → Option Bool
  | 0 => some false | 1 => some true | _ => none

/-- Lane direction codes: those of the lane link image (R193, R195). -/
def laneDirectionCode : LaneDirection → Nat
  | .entry => 1 | .exit => 2 | .freeExit => 3 | .closed => 4

def laneDirectionOf : Nat → Option LaneDirection
  | 1 => some .entry | 2 => some .exit | 3 => some .freeExit | 4 => some .closed | _ => none

/-- Lamp override codes (R195). -/
def lampCode : LampOverride → Nat
  | .off => 0 | .on => 1 | .blink => 2

def lampOf : Nat → Option LampOverride
  | 0 => some .off | 1 => some .on | 2 => some .blink | _ => none

/-- Direction override codes (R195). -/
def overrideCode : DirOverride → Nat
  | .none => 0 | .entry => 1 | .exit => 2 | .freeExit => 3 | .closed => 4

def overrideOf : Nat → Option DirOverride
  | 0 => some .none | 1 => some .entry | 2 => some .exit | 3 => some .freeExit | 4 => some .closed | _ => none

/-- Direction codes of Grant, Passage and Forced (R195). -/
def directionCode : Direction → Nat
  | .entry => 0 | .exit => 1

def directionOf : Nat → Option Direction
  | 0 => some .entry | 1 => some .exit | _ => none

/-- Event cause numbers (R180). -/
def causeIndex : Cause → Fin 24
  | .presence => 0 | .attention => 1 | .laneCommandDone => 2 | .jam => 3 | .tailgate => 4 | .conflict => 5 | .zoneFull => 6
  | .holdLapsed => 7 | .peerDown => 8 | .peerUp => 9 | .surgeOn => 10 | .surgeOff => 11 | .logHigh => 12 | .logFull => 13
  | .auditDone => 14 | .laneAccessDone => 15 | .scheduleOpen => 16 | .scheduleClose => 17 | .modeChange => 18
  | .clockWrap => 19 | .errorSerious => 20 | .errorAdvisory => 21 | .testDone => 22 | .wake => 23

/-- Error kind numbers (R189). -/
def errorIndex : ErrorKind → Fin 14
  | .frameCheck => 0 | .laneReply => 1 | .lateAnswer => 2 | .orphanAnswer => 3 | .peerTxDrop => 4 | .rxDrop => 5
  | .reconcileDrop => 6 | .oversize => 7 | .malformedFrame => 8 | .unknownRequest => 9 | .tableFull => 10
  | .logOverrun => 11 | .laneLostInPassage => 12 | .templateVoid => 13

/-- The severity of an error kind (R185). -/
def ErrorKind.serious : ErrorKind → Bool
  | .frameCheck | .laneReply | .lateAnswer | .orphanAnswer | .peerTxDrop | .rxDrop | .reconcileDrop => false
  | .oversize | .malformedFrame | .unknownRequest | .tableFull | .logOverrun | .laneLostInPassage | .templateVoid => true

/-- The kinds whose frames are offered to the header log (R185). -/
def ErrorKind.logsHeader : ErrorKind → Bool
  | .oversize | .malformedFrame | .unknownRequest => true
  | .frameCheck | .laneReply | .lateAnswer | .orphanAnswer | .peerTxDrop | .rxDrop | .reconcileDrop
  | .tableFull | .logOverrun | .laneLostInPassage | .templateVoid => false

/-! ## Shared encodings (R189) -/

/-- A key: a kind byte and ten bytes of value. -/
def keyBytes (k : Key) : List Byte :=
  byte (match k.kind with | .barcode => 1 | .card => 2) :: be 10 k.value

/-- An optional key: kind 0 marks it absent, and its value bytes are then open. -/
def optKeyBytes (draw site : Nat) : Option Key → List Byte
  | some k => keyBytes k
  | none => 0 :: openBytes draw site 10

/-- An event time in 3 bytes, FFFFFF where absent or Unset. -/
def timeBytes : Option Nat → List Byte
  | some t => be 3 t
  | none => [0xFF, 0xFF, 0xFF]

/-- An optional one-byte field, FF where absent or none. -/
def optByte : Option Nat → Byte
  | some n => byte n
  | none => 0xFF

/-- The 6-byte image of a Mode command and a Confirm report (R195). -/
def imageBytes (c : ControlImage) : List Byte :=
  [byte (lampCode c.green), byte (lampCode c.red), byte (lampCode c.amber), byte (overrideCode c.override),
   byte (bit c.power), byte (bit c.combine)]

/-- A key read from its 11 bytes, none where the kind is not 1 or 2 (R196). -/
def readKey (bs : List Byte) : Option Key :=
  match bs with
  | k :: v =>
    if k = 1 then some ⟨.barcode, ofBytes (v.take 10)⟩ else if k = 2 then some ⟨.card, ofBytes (v.take 10)⟩ else none
  | [] => none

end Sys2Proof.Machine
end

