-- ==== Sys2Proof/Machine/Operands.lean ====
section
/-! DEFINITION. The fields of a management request, read from its payload: numbers, choices, optional fields, keys and record
images (R192, R193). A reader answers none where the payload ends before the field (R174). -/

namespace Sys2Proof.Machine

/-- A reader of fields: the bytes left come back with the field. -/
abbrev Reader := StateT (List Byte) Option

/-- n bytes as they stand. -/
def Reader.bytes (n : Nat) : Reader (List Byte) := fun bs =>
  if n ≤ bs.length then some (bs.take n, bs.drop n) else none

/-- A number of n bytes, most significant first. -/
def Reader.nat (n : Nat) : Reader Nat := do
  let bs ← Reader.bytes n
  return ofBytes bs

/-- n fields of one kind. -/
def Reader.many {α : Type} (r : Reader α) : Nat → Reader (List α)
  | 0 => return []
  | n + 1 => do
    let a ← r
    let rest ← Reader.many r n
    return a :: rest

/-- A length byte and that many bytes (R193). -/
def Reader.text : Reader (List Byte) := do
  let n ← Reader.nat 1
  Reader.bytes n

/-- A count byte and that many entries (R192). -/
def Reader.list {α : Type} (r : Reader α) : Reader (List α) := do
  let n ← Reader.nat 1
  Reader.many r n

/-- The m-th optional field of a presence mask (R193). -/
def Reader.given {α : Type} (mask m : Nat) (r : Reader α) : Reader (Option α) :=
  if mask.testBit m then some <$> r else pure none

/-- A key field: its kind byte and its value. -/
structure RawKey where
  kind : Nat
  value : Nat
  deriving DecidableEq, Repr

def Reader.key : Reader RawKey := do
  let kind ← Reader.nat 1
  let value ← Reader.nat 10
  return { kind := kind, value := value }

/-- The key of a key field, none for a kind that is neither Barcode nor Card (R189). -/
def RawKey.key (k : RawKey) : Option Key :=
  if k.kind = 1 then some ⟨.barcode, k.value⟩ else if k.kind = 2 then some ⟨.card, k.value⟩ else none

/-- A record image as its 32 bytes encode it (R192). -/
structure RawImage where
  key : RawKey
  cls : Nat
  allowance : Nat
  home : Nat
  zones : Nat
  flags : Nat
  opens : Nat
  closes : Nat
  state : Nat
  used : Nat
  reason : Nat
  lastTime : Nat
  lastBank : Nat
  lastLane : Nat
  lastZone : Nat
  deriving DecidableEq, Repr

def Reader.image : Reader RawImage := do
  let key ← Reader.key
  let cls ← Reader.nat 1
  let allowance ← Reader.nat 1
  let home ← Reader.nat 1
  let zones ← Reader.nat 2
  let flags ← Reader.nat 1
  let opens ← Reader.nat 3
  let closes ← Reader.nat 3
  let state ← Reader.nat 1
  let used ← Reader.nat 1
  let reason ← Reader.nat 1
  let lastTime ← Reader.nat 3
  let lastBank ← Reader.nat 1
  let lastLane ← Reader.nat 1
  let lastZone ← Reader.nat 1
  return { key, cls, allowance, home, zones, flags, opens, closes, state, used, reason, lastTime, lastBank, lastLane,
           lastZone }

/-! ## Values on a range -/

/-- A value after its clamp, with whether the clamp changed it (R174). -/
structure Clamped where
  value : Nat
  changed : Bool
  deriving DecidableEq, Repr

def clamped (lo hi v : Nat) : Clamped := { value := clamp lo hi v, changed := decide (clamp lo hi v ≠ v) }

/-- An optional field after its clamp: a field not given keeps the value in force. -/
def clampedOr (lo hi now : Nat) : Option Nat → Clamped
  | some v => clamped lo hi v
  | none => { value := now, changed := false }

/-- An optional choice: none where its code is outside its list (R196), the value in force where it is not given. -/
def chosenOr {α : Type} (codes : Nat → Option α) (now : α) : Option Nat → Option α
  | some c => codes c
  | none => some now

end Sys2Proof.Machine
end

