-- ==== Sys2Proof/Machine/Flags.lean ====
section
/-! DEFINITION. The flags of the bank: zone conditions (R61, R71), Degraded (R98), LogFull (R142), the flag sources of the
Bank Word (R131), and the triggers their changes make (R133). -/

namespace Sys2Proof.Machine

/-- A zone is closed while its Quota is 0 (R61). -/
def Zone.closed (z : Zone) : Bool := z.quota == 0

/-- A zone is full while its Quota is above 0 and Entered + Held has reached it (R61). -/
def Zone.full (z : Zone) : Bool := decide (0 < z.quota ∧ z.quota ≤ z.entered + z.held)

/-- A zone is open while Entered + Held is below its Quota (R61). -/
def Zone.hasRoom (z : Zone) : Bool := decide (z.entered + z.held < z.quota)

/-- AnyZoneFull is set while one or more of the 16 zones is full (R71). -/
def State.anyZoneFull (s : State) : Bool := allZones.any fun z => (s.zone z).full

/-- Degraded is set while a bank other than this one is configured Present and is Down (R98). -/
def State.degraded (s : State) : Bool :=
  allBanks.any fun b => (s.peer b).present && decide ((s.peer b).state = .down) && decide (s.bank ≠ some b)

/-- LogFull is set while 8,160 or more records are undrained (R142). -/
def State.logFull (s : State) : Bool := decide (Config.logRefuseThreshold ≤ s.log.undrained)

/-- The present value of a flag source (R131). -/
def State.flag (s : State) : FlagSource → Bool
  | .zero => false
  | .one => true
  | .bankOpen => decide (s.bcm.mode = .opened)
  | .closing => decide (s.bcm.mode = .closing)
  | .surge => s.bcm.surge.flag
  | .degraded => s.degraded
  | .anyZoneFull => s.anyZoneFull
  | .logFull => s.logFull
  | .cycleParity => s.link.parity

/-- Whether position `p` of the Bank Word makes a trigger for a change of its flag from `before` to `after` (R133). -/
def HeaderSettings.edgeAt (h : HeaderSettings) (p : Fin 8) (before after : FlagSource → Bool) : Bool :=
  (h.rising.getLsbD p.val && !before (h.select.get p) && after (h.select.get p)) ||
  (h.falling.getLsbD p.val && before (h.select.get p) && !after (h.select.get p))

/-- Whether a change of flags makes a trigger under the settings in force; none while the Bank Word is disabled (R133). -/
def HeaderSettings.edge (h : HeaderSettings) (before after : FlagSource → Bool) : Bool :=
  h.bankWord && (List.finRange 8).any fun p => h.edgeAt p before after

/-- The state `new`, reached from `old` by one operation on a flag, with a trigger pending where the change makes one
(R133). -/
def State.noteFlags (old new : State) : State :=
  if old.link.settings.edge old.flag new.flag then { new with link := { new.link with trigger := true } } else new

/-- Apply one operation that may change a flag (R133). -/
def State.flagging (f : State → State) (s : State) : State := s.noteFlags (f s)

/-- The low byte of the Bank Word: position p at bit p (R131, R195). -/
def State.bankWordLow (s : State) : BitVec 8 :=
  BitVec.ofNat 8 ((List.finRange 8).foldr (fun p a => a + bit (s.flag (s.link.settings.select.get p)) * 2 ^ p.val) 0)

/-- The Bank Word: the eight positions in its low byte, their complement in its high byte (R131). -/
def State.bankWord (s : State) : BitVec 16 := (~~~ s.bankWordLow) ++ s.bankWordLow

/-- A link test set up begins with the next cycle that starts (R134). -/
def LinkTest.begins (t : LinkTest) : LinkTest := { t with begun := true }

/-- The first cycle of a link that starts: at once, with parity 0 (R136), its automatic header before the slot of the start
offset in force (R132). A test set up before begins with it (R134). -/
def Link.started (now : Nat) (k : Link) : Link :=
  { k with running := true, parity := false, cycleStart := now, next := 0, awaiting := false, gapHeader := false,
           autoDone := false, autoAt := k.settings.offset, test := k.test.map LinkTest.begins }

/-- The lane link starts (R136). While the slot in progress at a stop has not ended, the start waits for that end. -/
def State.startLink (s : State) : State :=
  if s.link.running || s.link.stopping then s else s.flagging (State.modLink (Link.started s.now))

/-- The bank mode changes, its flags with it (R155); MODE_CHANGE is raised apart. -/
def State.setMode (m : BankMode) (s : State) : State :=
  s.flagging (State.modBcm fun b => { b with mode := m })

end Sys2Proof.Machine
end

