-- ==== Sys2Proof/Machine/Events.lean ====
section
/-! DEFINITION. The Event and Error Unit: raising event causes, the event report, errors, First Error and the header log
(R180 to R187), and the release of STANDBY by a cause (R159). -/

namespace Sys2Proof.Machine

/-- The level of a cause: causes 2k and 2k + 1 share one setting (R181). -/
def Evu.level (e : Evu) (c : Fin 24) : Nat := e.levels.get ⟨c.val / 2, by omega⟩

/-- A pending cause at this number would be listed in event frames: its level is below the report threshold and not 7
(R181). -/
def Evu.reportable (e : Evu) (c : Fin 24) : Bool := decide (e.level c < e.reportThreshold ∧ e.level c ≠ 7)

/-- The cause's level is below the wake threshold (R181). -/
def Evu.below (e : Evu) (c : Fin 24) : Bool := decide (e.level c < e.wakeThreshold)

/-- An event frame has entered the Report Queue and has not yet begun to be sent (R182). -/
def State.eventWaiting (s : State) : Bool := s.trunk.reportQ.any fun f => decide (f.body = .eventList)

/-- A cause is offered to the event report (R182). -/
def State.offer (c : Fin 24) (s : State) : State :=
  if s.evu.reportable c && !s.eventWaiting then s.modEvu fun e => { e with wanted := true } else s

/-- One raising of a cause (R180): its count rises, its detail is replaced, it becomes pending. -/
def CauseEntry.raised (d : Option Nat) (c : CauseEntry) : CauseEntry :=
  { pending := true, count := sat8 c.count, detail := d }

/-- A cause is raised and, where it becomes pending, offered to the event report (R180). -/
def State.raiseQuiet (c : Cause) (d : Option Nat) (s : State) : State :=
  let t := s.modEvu fun e => { e with causes := upd e.causes (causeIndex c) (CauseEntry.raised d) }
  if (s.evu.causes.get (causeIndex c)).pending then t else t.offer (causeIndex c)

/-- STANDBY is released to SERVICE: the lane link starts, WAKE and MODE_CHANGE are raised (R159). -/
def State.releaseStandby (s : State) : State :=
  ((s.setMode .service).startLink.raiseQuiet .wake none).raiseQuiet .modeChange none

/-- Whether raising this cause releases STANDBY: it becomes pending with a level below the wake threshold (R159), and it is
not a cause of the dormant entry itself (R158). -/
def State.releasedBy (c : Cause) (s : State) : Bool :=
  decide (s.bcm.mode = .standby) && !s.bcm.entering && !(s.evu.causes.get (causeIndex c)).pending &&
    s.evu.below (causeIndex c)

/-- An event cause is raised (R180), which may release STANDBY (R159). -/
def State.raise (c : Cause) (d : Option Nat) (s : State) : State :=
  if s.releasedBy c then (s.raiseQuiet c d).releaseStandby else s.raiseQuiet c d

/-- One occurrence on an error kind's entry (R185). -/
def ErrorEntry.occurred (e : ErrorEntry) : ErrorEntry := { e with detected := true, count := sat8 e.count }

/-- The cause that an unmasked occurrence raises, by its severity (R185). -/
def ErrorKind.cause (k : ErrorKind) : Cause := if k.serious then .errorSerious else .errorAdvisory

/-- The First Error capture takes the occurrence while it is armed (R186). -/
def State.capture (k : ErrorKind) (lane : Option LaneNo) (s : State) : State :=
  s.modEvu fun e => match e.firstError with
    | none => { e with firstError := some { kind := k, time := s.eventTime, lane := lane } }
    | some _ => e

/-- The header log takes the first 16 bytes of the frame while it is armed (R186). -/
def State.logHeader (k : ErrorKind) (bytes : List Byte) (s : State) : State :=
  s.modEvu fun e => match e.headerLog with
    | none => { e with headerLog := some { kind := k, bytes := bytes.take 16 } }
    | some _ => e

/-- An error occurs (R185): the flag and count, then the cause and the capture where it is unmasked, then the header log.
`lane` is the lane of a LANE_LOST_IN_PASSAGE, `bytes` the frame of a kind that logs its header. -/
def State.errorOccurs (k : ErrorKind) (lane : Option LaneNo) (bytes : List Byte) (s : State) : State :=
  let masked := (s.evu.errors.get (errorIndex k)).masked
  let s1 := s.modEvu fun e => { e with errors := upd e.errors (errorIndex k) ErrorEntry.occurred }
  let s2 := if masked then s1 else s1.raise k.cause (some (errorIndex k).val)
  let s3 := if k.serious && !masked then s2.capture k lane else s2
  if k.logsHeader then s3.logHeader k bytes else s3

end Sys2Proof.Machine
end

