-- ==== Sys2Proof/Machine/AdmissionLog.lean ====
section
/-! DEFINITION. The Admission Log: the ring, the writing of records, and the drain test (R139 to R145). -/

namespace Sys2Proof.Machine

/-- The place of the next record (R139). -/
def Log.write (g : Log) : Nat := g.nextSeq % Config.logPlaces
/-- The place of the oldest kept record (R139). -/
def Log.oldest (g : Log) : Nat := (g.write + Config.logPlaces - g.kept.length % Config.logPlaces) % Config.logPlaces
/-- The place of the oldest undrained record (R139). -/
def Log.drain (g : Log) : Nat := (g.write + Config.logPlaces - g.undrained % Config.logPlaces) % Config.logPlaces

/-- The undrained records, oldest first (R139). -/
def Log.undrainedEntries (g : Log) : List Entry := g.kept.drop (g.kept.length - g.undrained)

/-- The coalescing set in use (R144). -/
def State.setInUse (s : State) : Coalescing := if s.bcm.surge.flag then s.log.surge else s.log.calm

/-- The records a frame of this max payload can carry (R144). -/
def recordsPerFrame (maxPayload : Nat) : Nat := (maxPayload - 8) / 26

/-- The effective batch of the set in use (R144). -/
def State.effectiveBatch (s : State) : Nat := min s.setInUse.batch (recordsPerFrame s.trunk.maxPayload)

/-- A tally frame is due: records are undrained, and they reach the effective batch or the oldest has waited the hold time
(R145). -/
def State.tallyDue (s : State) : Bool :=
  decide (0 < s.log.undrained) &&
    (decide (s.effectiveBatch ≤ s.log.undrained) ||
      match s.log.undrainedEntries.head? with
      | some e => decide (e.written + s.setInUse.hold ≤ s.now)
      | none => false)

/-- The drain test (R145): whether a tally frame is due. -/
def State.drainTest (s : State) : State := s.modLog fun g => { g with due := s.tallyDue }

/-- The sequence number after one (R140). -/
def nextSequence (n : Nat) : Nat := (n + 1) % 2 ^ 32

/-- The events of an undrained count that has just risen to `n` (R142). -/
def State.reportLevel (n : Nat) (s : State) : State :=
  if n = Config.logHighMark then s.raise .logHigh none
  else if n = Config.logRefuseThreshold then s.raise .logFull none
  else s

/-- The ring after a record is added while the undrained count is below 8,192: a full ring loses its oldest record, which is
drained (R140). -/
def Log.append (e : Entry) (g : Log) : Log :=
  { g with nextSeq := nextSequence g.nextSeq,
           kept := (if g.kept.length < Config.logPlaces then g.kept else g.kept.tail) ++ [e],
           undrained := g.undrained + 1 }

/-- The ring after the oldest, undrained, record is overwritten (R141). -/
def Log.overwrite (e : Entry) (g : Log) : Log :=
  { g with nextSeq := nextSequence g.nextSeq, kept := g.kept.tail ++ [e], lost := sat16 g.lost }

/-- Write an admission record (R140, R141), with the events of R142 and the drain test of R145. -/
def State.writeLog (a : Admission) (s : State) : State :=
  let e : Entry := { seq := s.log.nextSeq, written := s.now, admission := a }
  if s.log.undrained < Config.logPlaces then
    ((s.flagging (State.modLog (Log.append e))).reportLevel (s.log.undrained + 1)).drainTest
  else
    match s.log.policy with
    | .refuse => (s.modLog fun g => { g with lost := sat16 g.lost }).errorOccurs .logOverrun none []
    | .overwrite => ((s.modLog (Log.overwrite e)).errorOccurs .logOverrun none []).drainTest

/-- A refusal for LOG_FULL is counted and not written (R41). -/
def State.countUnlogged (s : State) : State := s.modLog fun g => { g with unlogged := sat16 g.unlogged }

end Sys2Proof.Machine
end

