-- ==== Sys2Proof/Machine/Credentials.lean ====
section
/-! DEFINITION. The Credential Decoder and the arithmetic of keys and buckets (R1 to R15). -/

namespace Sys2Proof.Machine

/-- A digit character, with its value. That the digits are the bytes 30H to 39H is log entry 50. -/
def digitOf (b : Byte) : Option Nat :=
  if 0x30 ≤ b.toNat ∧ b.toNat ≤ 0x39 then some (b.toNat - 0x30) else none

/-- The legal characters: digits and capital letters (R1). That the capitals A to Z are the bytes 41H to 5AH is log entry 50. -/
def legalChar (b : Byte) : Bool := (digitOf b).isSome || decide (0x41 ≤ b.toNat ∧ b.toNat ≤ 0x5A)

/-- The decode result (R12): a key with the presented event code where there is one, or a reason. -/
inductive DecodeResult where
  | decoded (key : Key) (code : Option Nat)
  | failed (reason : Reason)
  deriving DecidableEq, Repr

/-- The usable template count for a profile count (R4). -/
def usableTemplates (np : Nat) : Nat := min 16 ((Config.policyUnits - 4 * np) / 2)

/-- The first of the four units of profile p (R4). -/
def profileUnit (p : Nat) : Nat := 4 * p

/-- The first of the two units of template t (R4). -/
def templateUnit (np t : Nat) : Nat := 4 * np + 2 * t

/-- The template at an index, none where it is Unloaded or has no place in the store (R6). -/
def Policy.template (p : Policy) (t : Fin 16) : Option Template :=
  if t.val < usableTemplates p.np then p.templates.get t else none

/-- The n payload characters from position o on. -/
def field (payload : List Byte) (o n : Nat) : List Byte := (payload.drop o).take n

/-- Whether a template wins for a payload: the length lies in its range and its marker matches (R9). -/
def Template.wins (t : Template) (payload : List Byte) : Bool :=
  decide (t.lenMin ≤ payload.length ∧ payload.length ≤ t.lenMax) &&
  (t.marker.isEmpty ||
    (decide (t.markerAt + t.marker.length ≤ payload.length) &&
      decide (field payload t.markerAt t.marker.length = t.marker)))

/-- The winning template: the first member of the accepted set, by index, that wins (R9). -/
def Policy.winner (p : Policy) (accepted : Set16) (payload : List Byte) : Option Template :=
  (List.finRange 16).findSome? fun t =>
    if accepted.getLsbD t.val then
      match p.template t with
      | some tpl => if tpl.wins payload then some tpl else none
      | none => none
    else none

/-- The digits of a field, none where it runs past the payload end or holds a letter (R10). -/
def digitsAt (payload : List Byte) (o n : Nat) : Option (List Nat) :=
  if o + n ≤ payload.length then (field payload o n).mapM digitOf else none

/-- A string of decimal digits as a number (R12). -/
def ofDigits (ds : List Nat) : Nat := ds.foldl (fun a d => a * 10 + d) 0

/-- The check value of a digit string: the sum of each digit times its weight (i mod 7) + 2, mod 97 (R11). -/
def checkValue (ds : List Nat) : Nat := ((ds.zipIdx.map fun x => x.1 * (x.2 % 7 + 2)).sum) % 97

/-- The digits of an optional field: none for a failure, the empty string where the template has no such field. -/
def optDigitsAt (payload : List Byte) (o n : Nat) : Option (List Nat) :=
  if n = 0 then some [] else digitsAt payload o n

/-- The fourth stage and the check value (R10, R11), giving the key (R12). -/
def Template.extract (t : Template) (payload : List Byte) : DecodeResult :=
  match optDigitsAt payload t.eventAt t.eventLen, digitsAt payload t.serialAt t.serialLen,
      optDigitsAt payload t.checkAt t.checkLen with
  | some ev, some serial, some chk =>
    if t.checkLen ≠ 0 ∧ ofDigits chk ≠ checkValue (ev ++ serial) then .failed .badCheck
    else .decoded ⟨.barcode, ofDigits serial⟩ (if t.eventLen = 0 then none else some (ofDigits ev))
  | _, _, _ => .failed .malformed

/-- The four stages of the Credential Decoder (R7 to R13). -/
def decodePresentation (p : Policy) (prof : Profile) : Presentation → DecodeResult
  | .barcode payload =>
    if payload.length < 4 ∨ 48 < payload.length ∨ !payload.all legalChar then .failed .malformed
    else match p.winner prof.templates payload with
      | none => .failed .noFormat
      | some t => t.extract payload
  | .card uid =>
    if uid.length ≠ 4 ∧ uid.length ≠ 7 ∧ uid.length ≠ 10 then .failed .malformed
    else if prof.cards then .decoded ⟨.card, ofBytes uid⟩ none else .failed .noFormat
  | .collision => .failed .multipleCards

/-- The hash of a key (R14). -/
def keyHash (k : Key) : Nat :=
  match k.kind with
  | .barcode => k.value % 65521
  | .card => (k.value % 65521 + 29959) % 65521

/-- The bucket index of a key under bucket count B (R14). -/
def bucketOf (B : Nat) (k : Key) : Nat := keyHash k % B

/-- The probe sequence of a key: P buckets from its bucket index, each taken mod B (R15). -/
def probeBuckets (B P : Nat) (k : Key) : List Nat := (List.range P).map fun i => (bucketOf B k + i) % B

end Sys2Proof.Machine
end

