-- ==== Sys2Proof/Machine/EntitlementTable.lean ====
section
/-! DEFINITION. The Entitlement Table: slots, lookup, insertion, and the operations hold, commit, revert and unheld entry
(R16, R21, R22, R32 to R35). -/

namespace Sys2Proof.Machine

/-! ## Slots -/

/-- The slots of a bucket: 4b to 4b + 3 (R16). -/
def bucketSlots (b : Nat) : List Nat := [4 * b, 4 * b + 1, 4 * b + 2, 4 * b + 3]

/-- The slots of a key's probe sequence in probe order (R15, R21). -/
def Table.probeSlots (t : Table) (k : Key) : List Nat := (probeBuckets t.buckets t.probe k).flatMap bucketSlots

/-- The record in a slot, none while it is FREE. -/
def slotIn (n : Nat) : List (Nat × Record) → Option Record
  | [] => none
  | (m, r) :: rest => if m = n then some r else slotIn n rest

def Table.slotAt (t : Table) (n : Nat) : Option Record := slotIn n t.slots

/-- The list of occupied slots with slot n holding r. -/
def putIn (n : Nat) (r : Record) : List (Nat × Record) → List (Nat × Record)
  | [] => [(n, r)]
  | (m, q) :: rest => if n < m then (n, r) :: (m, q) :: rest else if n = m then (n, r) :: rest else (m, q) :: putIn n r rest

/-- The list of occupied slots with slot n FREE. -/
def freeIn (n : Nat) (slots : List (Nat × Record)) : List (Nat × Record) := slots.filter fun x => decide (x.1 ≠ n)

def Table.put (n : Nat) (r : Record) (t : Table) : Table := { t with slots := putIn n r t.slots }
def Table.free (n : Nat) (t : Table) : Table := { t with slots := freeIn n t.slots }

/-- Lookup of a key over every slot of its probe sequence; "not found" while a sweep runs (R21, R31). -/
def Table.lookup (t : Table) (k : Key) : Option (Nat × Record) :=
  if t.sweeping then none
  else (t.probeSlots k).findSome? fun n =>
    match t.slotAt n with
    | some r => if r.key = k then some (n, r) else none
    | none => none

/-- The first FREE slot of a key's probe sequence (R22). -/
def Table.freeSlot (t : Table) (k : Key) : Option Nat := (t.probeSlots k).find? fun n => (t.slotAt n).isNone

/-- Some record is HELD (R17, R31). -/
def Table.anyHeld (t : Table) : Bool := t.slots.any fun x => match x.2.state with | .held _ => true | _ => false

/-- The canonical form of the table: slot numbers strictly rising. -/
def Table.sorted (t : Table) : Prop := (t.slots.map (·.1)).Pairwise (· < ·)

/-- The rules on a table while no sweep runs (R16): its form, every occupied slot in the table and in the probe sequence of
its record's key, and no two occupied slots with one key. -/
def Table.wf (t : Table) : Prop :=
  t.sorted ∧ (∀ x ∈ t.slots, x.1 < 4 * t.buckets ∧ x.1 ∈ t.probeSlots x.2.key) ∧
  (∀ x ∈ t.slots, ∀ y ∈ t.slots, x.2.key = y.2.key → x = y)

/-! ## What happens to a record -/

/-- Used raised by 1: capped at the allowance, for STAFF saturating at 255 (R18, R33, R35). -/
def Record.usedUp (r : Record) : Nat :=
  match r.cls with
  | .staff => sat8 r.used
  | _ => min r.allowance (r.used + 1)

/-- A hold on a record that is neither HELD nor REVOKED saves its state as the prior state (R32); any other record is left
as it is. -/
def Record.hold (h : Holder) (r : Record) : Record :=
  match r.state with
  | .resting p => { r with state := .held { holder := h, prior := p, revokePending := none } }
  | _ => r

/-- The state that a hold ends in: `target`, or REVOKED with the pending reason (R33, R34). -/
def Hold.ended (h : Hold) (target : Resting) : RecordState :=
  match h.revokePending with
  | some reason => .revoked reason
  | none => .resting target

/-- A commit ends a hold by recording the entry (R33). -/
def Record.commit (last : Last) (provisional : Bool) (r : Record) : Record :=
  match r.state with
  | .held h => { r with used := r.usedUp, last := some last, provisional := provisional, state := h.ended .inside }
  | _ => r

/-- A revert ends a hold without recording an entry (R34). -/
def Record.revert (r : Record) : Record :=
  match r.state with
  | .held h => { r with state := h.ended h.prior }
  | _ => r

/-- The unheld entry of a STAFF passage on the record as found (R35). -/
def Record.unheldEntry (time : Option Nat) (bank : BankNo) (lane : LaneNo) (r : Record) : Record :=
  { r with used := r.usedUp, last := some ⟨time, bank, lane, none⟩, provisional := false,
           state := match r.state with | .resting _ => .resting .inside | st => st }

/-- The record is HELD by this lane of the bank. -/
def Record.heldByLane (l : LaneNo) (r : Record) : Bool :=
  match r.state with
  | .held h => (match h.holder with | .lane m _ => decide (m = l) | .remote _ _ _ => false)
  | _ => false

/-- The record is HELD by this lane of another bank. -/
def Record.heldByRemote (b : BankNo) (l : LaneNo) (r : Record) : Bool :=
  match r.state with
  | .held h => (match h.holder with | .remote c m _ => decide (c = b ∧ m = l) | .lane _ _ => false)
  | _ => false

/-- The class lets the record be held and queried: every class but STAFF. -/
def TicketClass.isStaff : TicketClass → Bool
  | .staff => true
  | _ => false

/-- The results of a plain hold (R32). -/
inductive PlainHold where
  | taken | absent | held | revoked
  deriving DecidableEq, Repr

/-- What a plain hold on a key finds (R32). -/
def Table.plainHold (t : Table) (k : Key) : PlainHold :=
  match t.lookup k with
  | none => .absent
  | some (_, r) => match r.state with | .resting _ => .taken | .held _ => .held | .revoked _ => .revoked

def State.lookup (k : Key) (s : State) : Option (Nat × Record) := s.table.lookup k

/-- Replace the record in a slot. -/
def State.putRecord (n : Nat) (r : Record) (s : State) : State := s.modTable (Table.put n r)

end Sys2Proof.Machine
end

