-- ==== Sys2Proof/Machine/PeerLink.lean ====
section
/-! DEFINITION. The Peer Coordinator's sending side: the Peer Queue, query tags, queries, notices, the Lapsed List, the
Reconcile List, and the Peer Table's changes (R98 to R104, R110, R111, R119, R120, R191). -/

namespace Sys2Proof.Machine

/-- The Peer Queue has room (R170). -/
def State.peerRoom (s : State) : Bool := decide (s.trunk.peerQ.length < Config.peerQueueSize)

def State.pushPeer (f : TxFrame) (s : State) : State := s.modTrunk fun k => { k with peerQ := k.peerQ ++ [f] }

/-- An answer, or an Entry, Exit or Withdraw Notice, offered to the Peer Queue: dropped with PEER_TX_DROP where it is full
(R106, R111). -/
def State.offerPeer (f : TxFrame) (s : State) : State :=
  if s.peerRoom then s.pushPeer f else s.errorOccurs .peerTxDrop none []

/-! ## Payloads (R191) -/

def bankByte (b : BankNo) : Byte := byte b.val
def laneByte (l : LaneNo) : Byte := byte l.val
def zoneByte (z : Option ZoneNo) : Byte := optByte (z.map (·.val))

def queryPayload (k : Key) (l : LaneNo) (window cooldown : Nat) : List Byte :=
  keyBytes k ++ [laneByte l] ++ be 2 window ++ be 2 cooldown

def entryPayload (k : Key) (b : BankNo) (l : LaneNo) (t : Option Nat) (used : Byte) (provisional : Bool)
    (z : Option ZoneNo) : List Byte :=
  keyBytes k ++ [bankByte b, laneByte l] ++ timeBytes t ++ [used, byte (bit provisional), zoneByte z]

def exitPayload (k : Key) (b : BankNo) (l : LaneNo) (t : Option Nat) (st : Resting) : List Byte :=
  keyBytes k ++ [bankByte b, laneByte l] ++ timeBytes t ++ [byte (restingCode st)]

def withdrawPayload (k : Key) (b : BankNo) (l : LaneNo) : List Byte := keyBytes k ++ [bankByte b, laneByte l]

/-! ## Notices (R111) -/

def State.sendEntryNotice (k : Key) (l : LaneNo) (t : Option Nat) (used : Byte) (provisional : Bool) (z : Option ZoneNo)
    (s : State) : State :=
  s.offerPeer { dst := 32, kind := .entryNotice, tag := 0, body := .bytes (entryPayload k s.ownBank l t used provisional z) }

def State.sendExitNotice (k : Key) (l : LaneNo) (t : Option Nat) (st : Resting) (s : State) : State :=
  s.offerPeer { dst := 32, kind := .exitNotice, tag := 0, body := .bytes (exitPayload k s.ownBank l t st) }

def State.sendWithdrawNotice (home : BankNo) (k : Key) (l : LaneNo) (s : State) : State :=
  s.offerPeer { dst := bankByte home, kind := .withdrawNotice, tag := 0, body := .bytes (withdrawPayload k s.ownBank l) }

/-- The Reconcile Notice built from a Reconcile List entry (R120). -/
def reconcileFrame (own : BankNo) (e : Reconcile) : TxFrame :=
  { dst := bankByte e.home, kind := .reconcileNotice, tag := 0,
    body := .bytes (entryPayload e.key own e.lane e.time (byte e.used) true e.zone) }

/-- The walk of the reconcile send over the list, oldest first, with room for `room` frames: the frames queued and the
entries kept (R120). -/
def reconcileWalk (own home : BankNo) : Nat → List Reconcile → List TxFrame × List Reconcile
  | _, [] => ([], [])
  | room, e :: es =>
    if e.home = home then
      match room with
      | 0 => ([], e :: es)
      | n + 1 => ((reconcileFrame own e :: (reconcileWalk own home n es).1), (reconcileWalk own home n es).2)
    else ((reconcileWalk own home room es).1, e :: (reconcileWalk own home room es).2)

/-- The reconcile send for a bank (R120). -/
def State.reconcileSend (home : BankNo) (s : State) : State :=
  let w := reconcileWalk s.ownBank home (Config.peerQueueSize - s.trunk.peerQ.length) s.peers.reconcile
  (s.modTrunk fun k => { k with peerQ := k.peerQ ++ w.1 }).modPeers fun p => { p with reconcile := w.2 }

/-- Add an entry to the Reconcile List: a full list loses its oldest entry with RECONCILE_DROP (R119). -/
def State.addReconcile (e : Reconcile) (s : State) : State :=
  if s.peers.reconcile.length < Config.reconcileListSize then
    s.modPeers fun p => { p with reconcile := p.reconcile ++ [e] }
  else (s.modPeers fun p => { p with reconcile := p.reconcile.tail ++ [e] }).errorOccurs .reconcileDrop none []

/-! ## The Peer Table -/

/-- Change one Peer Table entry, with the triggers a change of Degraded makes (R98, R133). -/
def State.modPeer (b : BankNo) (f : Peer → Peer) (s : State) : State :=
  s.flagging (State.modPeers fun p => { p with entries := upd p.entries b f })

/-- A taken frame from a bank sets it Up (R100): PEER_UP where it was Down, and the reconcile send where it was not Up. -/
def State.hearPeer (b : BankNo) (s : State) : State :=
  let t := s.modPeer b fun p => { p with state := .up, timeouts := 0 }
  match (s.peer b).state with
  | .up => t
  | .suspect => t.reconcileSend b
  | .down => (t.raise .peerUp (some b.val)).reconcileSend b

/-- A Peer Table entry after a query timeout (R101). -/
def Peer.timedOut (limit : Nat) (p : Peer) : Peer :=
  { p with timeouts := min limit (p.timeouts + 1),
           state := match p.state with
             | .down => .down
             | _ => if p.timeouts + 1 < limit then .suspect else .down }

/-- A query timeout acts on its home's entry (R101). -/
def State.peerTimeout (b : BankNo) (s : State) : State :=
  let t := s.modPeer b (Peer.timedOut s.peers.downAfter)
  if (s.peer b).state ≠ .down ∧ (t.peer b).state = .down then t.raise .peerDown (some b.val) else t

/-! ## Queries -/

/-- A tag is held by a Query Table or Lapsed List entry (R102). -/
def Peers.tagHeld (p : Peers) (tag : Byte) : Bool :=
  (p.queries.any fun q => decide (q.tag = tag)) || (p.lapsed.any fun q => decide (q.tag = tag))

/-- The first tag, counting up from the next-tag value, that no list holds (R102). -/
def Peers.freshTag (p : Peers) : Byte :=
  (((List.range 256).map fun i => p.nextTag + BitVec.ofNat 8 i).find? fun t => !p.tagHeld t).getD p.nextTag

/-- The Query Table entry of a lane (R104). -/
def Peers.queryOf (p : Peers) (l : LaneNo) : Option Query := p.queries.find? fun q => decide (q.lane = l)

/-- The entry of a lane leaves the Query Table. -/
def State.dropQuery (l : LaneNo) (s : State) : State :=
  s.modPeers fun p => { p with queries := p.queries.filter fun q => decide (q.lane ≠ l) }

/-- Add a query to the Lapsed List: a full list loses its oldest entry (R110). -/
def State.addLapsed (q : Query) (v : LapsedVerdict) (s : State) : State :=
  let e : Lapsed := { tag := q.tag, lane := q.lane, home := q.home, key := q.key, verdict := v,
                      expiry := s.now + s.peers.remoteHold * 1000 }
  s.modPeers fun p =>
    { p with lapsed := (if p.lapsed.length < Config.lapsedListSize then p.lapsed else p.lapsed.tail) ++ [e] }

/-- The query of an aborted lane goes to the Lapsed List with verdict ABORTED (R92, R104). -/
def State.abortQuery (l : LaneNo) (s : State) : State :=
  match s.peers.queryOf l with
  | some q => (s.dropQuery l).addLapsed q .aborted
  | none => s

end Sys2Proof.Machine
end

