-- ==== Sys2Proof/Machine/ZoneCounter.lean ====
section
/-! DEFINITION. The Zone Counter: select, reserve, commit, release and the ScanOuts count (R61 to R72). -/

namespace Sys2Proof.Machine

/-- Change one zone entry, with the triggers a change of AnyZoneFull makes (R71, R133). -/
def State.modZone (z : ZoneNo) (f : Zone → Zone) (s : State) : State :=
  s.flagging fun t => { t with zones := upd t.zones z f }

/-- ZONE_FULL is raised with the zone where the zone is now full (R70). -/
def State.reportFull (z : ZoneNo) (s : State) : State :=
  if (s.zone z).full then s.raise .zoneFull (some z.val) else s

/-- The first candidate zone that is open, in ascending number (R63). -/
def State.selectZone (candidates : Set16) (s : State) : Option ZoneNo :=
  allZones.find? fun z => candidates.getLsbD z.val && (s.zone z).hasRoom

def Zone.reserved (z : Zone) : Zone := { z with held := z.held + 1 }

/-- Held falls by 1 and Entered rises by 1 (R64). A zone with no standing reservation has nothing to commit. -/
def Zone.committed (z : Zone) : Zone := if z.held = 0 then z else { z with held := z.held - 1, entered := z.entered + 1 }

/-- Held falls by 1 (R65). -/
def Zone.released (z : Zone) : Zone := { z with held := z.held - 1 }

/-- ScanOuts rises by 1, saturating (R66). -/
def Zone.scannedOut (z : Zone) : Zone := { z with scanOuts := sat16 z.scanOuts }

/-- Entered and ScanOuts become 0 (R68). -/
def Zone.countsReset (z : Zone) : Zone := { z with entered := 0, scanOuts := 0 }

/-- A reservation at a lane: Held of the zone rises and the lane keeps the zone (R62, R63). -/
def State.reserve (l : LaneNo) (z : ZoneNo) (s : State) : State :=
  ((s.modZone z Zone.reserved).reportFull z).modLane l fun n => { n with reservation := some z }

/-- The lane's reservation, if it holds one, is released (R65). -/
def State.release (l : LaneNo) (s : State) : State :=
  match (s.lane l).reservation with
  | some z => (s.modZone z Zone.released).modLane l fun n => { n with reservation := none }
  | none => s

/-- The lane's reservation, if it holds one, becomes an entry (R64). -/
def State.commitZone (l : LaneNo) (s : State) : State :=
  match (s.lane l).reservation with
  | some z => ((s.modZone z Zone.committed).reportFull z).modLane l fun n => { n with reservation := none }
  | none => s

/-- The condition code of a zone in the status frame: closed 0, open 1, full 2 (R194). -/
def Zone.condition (z : Zone) : Nat := if z.closed then 0 else if z.full then 2 else 1

end Sys2Proof.Machine
end

