-- ==== Sys2Proof/Machine/Lanes.lean ====
section
/-! DEFINITION. The lane sequencers: pairs, effective direction, queued commands, adoption, IDLE and CLOSED, and the end of
an operation without an entry (R74, R77 to R79, R82, R83, R88, R92, R93). -/

namespace Sys2Proof.Machine

/-! ## Pairs (R88) -/

def pairOf (l : LaneNo) : Fin 8 := ⟨l.val / 2, by omega⟩
def lowerLane (k : Fin 8) : LaneNo := ⟨2 * k.val, by omega⟩
def upperLane (k : Fin 8) : LaneNo := ⟨2 * k.val + 1, by omega⟩
def isUpper (l : LaneNo) : Bool := decide (l.val % 2 = 1)

/-- The pair of the lane is combined in force. -/
def State.combined (s : State) (l : LaneNo) : Bool := (s.pairs.get (pairOf l)).inForce

/-- The sequencer that a lane's head reports to: lane 2k while the pair is combined (R1, R89). -/
def State.sequencer (s : State) (l : LaneNo) : LaneNo := if s.combined l then lowerLane (pairOf l) else l

/-- The other head of a pair. -/
def otherHead (l : LaneNo) : LaneNo := if isUpper l then lowerLane (pairOf l) else upperLane (pairOf l)

/-- The slots that carry a lane's verdict and Lamp commands: its own, and slot 2k + 1 of a wide lane (R79, R89). -/
def State.slotsOf (s : State) (l : LaneNo) : List LaneNo :=
  if s.combined l && !isUpper l then [l, upperLane (pairOf l)] else [l]

/-! ## Direction and profile -/

/-- The effective direction of a lane (R74). -/
def Lane.direction (n : Lane) : LaneDirection :=
  if !n.power then .closed
  else match n.override with
    | .none => match n.inForce with | some a => a.profile.direction | none => .closed
    | .entry => .entry | .exit => .exit | .freeExit => .freeExit | .closed => .closed

/-- The profile in force; a lane without one is CLOSED and reads none of it. -/
def Lane.profile (n : Lane) : Profile := match n.inForce with | some a => a.profile | none => Profile.default

/-- The direction a lane's Grant opens (R54, R58). -/
def Lane.granted (n : Lane) : Direction := if n.direction = .exit then .exit else .entry

/-! ## Queued commands (R79) -/

/-- A verdict command replaces a waiting verdict command and cancels a waiting Lamp command. -/
def Slot.queueVerdict (v : VerdictCommand) (k : Slot) : Slot :=
  { k with verdict := some v, undelivered := false, lamp := none }
/-- An undelivered verdict is due again as though newly queued, and is marked as one (R126). -/
def Slot.requeueVerdict (v : VerdictCommand) (k : Slot) : Slot := { k.queueVerdict v with undelivered := true }
/-- A waiting verdict that was undelivered is discarded: its lane stands under it no longer (R126). A verdict not yet sent waits on
(log entry 13). -/
def Slot.endVerdict (k : Slot) : Slot := if k.undelivered then { k with verdict := none, undelivered := false } else k
/-- A later Lamp command replaces a waiting one. -/
def Slot.queueLamp (d : Display) (k : Slot) : Slot := { k with lamp := some d }

def State.queueVerdict (l : LaneNo) (v : VerdictCommand) (s : State) : State :=
  (s.slotsOf l).foldl (fun t k => t.modSlot k (Slot.queueVerdict v)) s
/-- The lane leaves OPEN or REFUSING: an undelivered verdict in its slots is discarded (R126). -/
def State.endVerdict (l : LaneNo) (s : State) : State :=
  (s.slotsOf l).foldl (fun t k => t.modSlot k Slot.endVerdict) s
def State.queueLamp (l : LaneNo) (d : Display) (s : State) : State :=
  (s.slotsOf l).foldl (fun t k => t.modSlot k (Slot.queueLamp d)) s
/-- A Mode command with the control image is queued (R91). One Mode command waits at most, and it carries the control image as it
stands when it is sent (`State.dueCommand`, log entry 51). -/
def State.queueMode (l : LaneNo) (s : State) : State := s.modSlot l fun k => { k with modeDue := true }

/-! ## Adoption (R77) -/

/-- What a lane takes into force from the store: its chosen profile, or none where the choice is at or above NP, and the
requested direction override and power. -/
def Lane.adopted (p : Policy) (n : Lane) : Lane :=
  { n with inForce := if n.choice.val < p.np then some { index := n.choice, profile := p.profiles.get n.choice } else none,
           profileMissing := decide (p.np ≤ n.choice.val),
           override := n.control.override, power := n.control.power }

def State.adopt (l : LaneNo) (s : State) : State := s.modLane l (Lane.adopted s.policy)

/-- The conditions under which a lane is IDLE rather than CLOSED (R78). -/
def State.mayIdle (s : State) (l : LaneNo) : Bool :=
  decide ((s.slot l).link = .active) && (s.lane l).inForce.isSome && decide ((s.lane l).direction ≠ .closed) &&
    !(s.combined l && isUpper l) && decide (s.bcm.mode = .opened)

/-- A lane with no operation: key, decision result, timers, reservation and query cleared. The mate mark stands (R89). -/
def Lane.cleared (st : LaneState) (n : Lane) : Lane :=
  { n with state := st, key := none, result := none, reservation := none, query := none, passTimer := none,
           displayTimer := none }

/-- The lane enters IDLE and queues the Ready display (R78), an undelivered verdict discarded (R126). -/
def State.enterIdle (l : LaneNo) (s : State) : State := ((s.modLane l (Lane.cleared .idle)).endVerdict l).queueLamp l .ready

/-- The lane enters CLOSED and queues the Closed display (R78), an undelivered verdict discarded (R126). -/
def State.enterClosed (l : LaneNo) (s : State) : State :=
  ((s.modLane l (Lane.cleared .closed)).endVerdict l).queueLamp l .closed

/-- The lane returns to IDLE where the conditions hold and enters CLOSED otherwise, taking what waits into force (R77,
R78). -/
def State.rest (l : LaneNo) (s : State) : State :=
  let t := s.adopt l
  if t.mayIdle l then t.enterIdle l else t.enterClosed l

/-- A CLOSED lane takes what waits into force and enters IDLE where the conditions hold (R77, R78): an adoption in CLOSED. -/
def State.tryIdle (l : LaneNo) (s : State) : State :=
  if (s.lane l).state = .closed then
    let t := s.adopt l
    if t.mayIdle l then t.enterIdle l else t
  else s

/-- A CLOSED lane enters IDLE where the conditions hold on what it has in force, and takes what waits into force as it does
so; where they fail it adopts nothing, since no adoption is due (R77, R78, log entry 15). -/
def State.offerIdle (l : LaneNo) (s : State) : State := if s.mayIdle l then s.tryIdle l else s

/-- A changed choice, profile, override or power reaches a lane: at once while CLOSED or IDLE (R77). That a changed override or power
reaches an IDLE lane at once is log entry 15. -/
def State.readopt (l : LaneNo) (s : State) : State :=
  match (s.lane l).state with
  | .closed => s.tryIdle l
  | .idle => s.rest l
  | _ => s

/-- A lane in IDLE or REFUSING is closed by the bank mode (R78). -/
def State.closeLane (l : LaneNo) (s : State) : State :=
  match (s.lane l).state with
  | .idle | .refusing => (s.adopt l).enterClosed l
  | _ => s

/-- Lane 2k, if IDLE, adopts at once as well (R88). -/
def State.readoptIdle (l : LaneNo) (s : State) : State := if (s.lane l).state = .idle then s.rest l else s

/-- One pair's requested combine setting is taken into force once both its lanes are IDLE or CLOSED (R88). -/
def State.settlePair (k : Fin 8) (s : State) : State :=
  let p := s.pairs.get k
  let quiet := fun l => decide ((s.lane l).state = .idle ∨ (s.lane l).state = .closed)
  if p.requested ≠ p.inForce ∧ quiet (lowerLane k) ∧ quiet (upperLane k) then
    let t := { s with pairs := upd s.pairs k fun q => { q with inForce := q.requested } }
    if p.requested then t.closeLane (upperLane k)
    else ((t.modLane (lowerLane k) fun n => { n with mate := none }).tryIdle (upperLane k)).readoptIdle (lowerLane k)
  else s

def State.settlePairs (s : State) : State := allPairs.foldl (fun t k => t.settlePair k) s

/-! ## The end of an operation without an entry -/

/-- Revert a record that this lane holds (R34). -/
def State.revertHeld (l : LaneNo) (k : Key) (s : State) : State :=
  match s.lookup k with
  | some (n, r) => if r.heldByLane l then s.putRecord n r.revert else s
  | none => s

/-- The admission record of an operation that ended without an entry (R82): the class of the record as found, or of the grant
where the record was not held. Its provisional flag is clear, whatever the authority (log entry 43). -/
def State.withoutRecord (l : LaneNo) (k : Key) (res : DecisionResult) (o : Outcome) (s : State) : Admission :=
  { time := s.eventTime, bank := s.ownBank, lane := l, outcome := o, reason := none,
    cls := match s.lookup k with | some (_, r) => some r.cls | none => res.cls,
    key := some k, zone := none, used := (s.lookup k).map fun x => x.2.used, provisional := false }

/-- The Withdraw Notice of a Remote grant that ended without an entry (R82, R111), to the record's home. -/
def State.withdrawRemote (l : LaneNo) (k : Key) (res : DecisionResult) (s : State) : State :=
  if res.authority = some .remote then
    match s.lookup k with
    | some (_, r) => s.sendWithdrawNotice r.home k l
    | none => s
  else s

/-- An entry lane's operation ends without an entry (R82): revert, release, log and Withdraw Notice. -/
def State.endWithout (l : LaneNo) (o : Outcome) (s : State) : State :=
  match (s.lane l).result, (s.lane l).key with
  | some res, some k =>
    let t := (if res.held then s.revertHeld l k else s).release l
    (t.writeLog (t.withoutRecord l k res o)).withdrawRemote l k res
  | _, _ => s.release l

/-- What an abort does to the operation in progress (R92): an OPEN entry lane ends as on expiry, an OPEN exit lane as in R83, a
query goes to the Lapsed List and its reservation is released. -/
def State.abortOperation (l : LaneNo) (o : Outcome) (s : State) : State :=
  match (s.lane l).state with
  | .opened => if (s.lane l).granted = .exit then s else s.endWithout l o
  | .querying => (s.abortQuery l).release l
  | _ => s

/-- The sequencer is aborted and the lane enters CLOSED (R92). Its profile, override and power in force are kept.
A lane that is CLOSED already does not enter CLOSED anew (log entry 39). -/
def State.abortLane (l : LaneNo) (o : Outcome) (s : State) : State :=
  let t := (s.abortOperation l o).modLane l fun n => { n with mate := none }
  if (s.lane l).state = .closed then t else t.enterClosed l

/-! ## Slots that leave their link state -/

/-- The commands waiting in a slot and the outstanding one are discarded (R129, R136, R137). -/
def Slot.dropped (k : Slot) : Slot :=
  { k with verdict := none, undelivered := false, parameterDue := false, modeDue := false, lamp := none, outstanding := none }

/-- A slot that leaves its link state: its commands are discarded and its runs are 0. The unit identity is kept (R128). -/
def Slot.left (st : SlotLink) (k : Slot) : Slot :=
  { k.dropped with link := st, failureRun := 0, joinRun := 0, repeatCount := 0, repeatDue := false }

/-- The lane command in progress ends without the event and the confirmed image becomes none (R91, R92). -/
def Lane.unconfirmed (n : Lane) : Lane := { n with commanding := false, confirmed := none }

/-- An entry lane is in OPEN, so that losing its unit is LANE_LOST_IN_PASSAGE (R93). -/
def State.entryOpen (s : State) (l : LaneNo) : Bool :=
  decide ((s.lane l).state = .opened) && decide ((s.lane l).granted = .entry)

/-- The sequencer of a lost unit is aborted (R93). -/
def State.loseLane (l : LaneNo) (s : State) : State :=
  let t := (s.modLane l Lane.unconfirmed).abortLane l .laneLost
  if s.entryOpen l then t.errorOccurs .laneLostInPassage (some l) [] else t

/-- A lane reset (R92, R137): the slot leaves for Absent with its commands cleared, PRESENCE where it was Active, the
sequencer is aborted and the Mode command with the reset indication is due. The copy of a wide lane's verdict in slot 2k + 1 waits
on where it was not yet sent (log entry 13), and an undelivered one goes with the operation (R126). -/
def State.resetLane (l : LaneNo) (s : State) : State :=
  let t := s.modSlot l fun k => { k.left .absent with resetDue := true }
  let u := if (s.slot l).link = .active then t.raise .presence (some l.val) else t
  (u.modLane l Lane.unconfirmed).abortLane l .withdrawn

end Sys2Proof.Machine
end

