-- ==== Sys2Proof/Machine/Replies.lean ====
section
/-! DEFINITION. The replies of the Management Engine: their payload, their parts, their placing (R173, R174, R192), and the end
of a Lane Parameter Access (R94). -/

namespace Sys2Proof.Machine

/-- The answer to a request: status, cause and contents (R174). -/
structure Reply where
  status : ReplyStatus
  cause : RefusalCause
  contents : List Byte
  deriving DecidableEq, Repr

def Reply.ok (contents : List Byte) : Reply := { status := .ok, cause := .none, contents := contents }
/-- REFUSED carries its cause and nothing changed. -/
def Reply.refuse (c : RefusalCause) : Reply := { status := .refused, cause := c, contents := [] }
/-- OK or CLAMPED. A CLAMPED reply carries the values applied. -/
def Reply.applied (clamped : Bool) (values : List Byte) : Reply :=
  if clamped then { status := .clamped, cause := .none, contents := values } else Reply.ok []
/-- OK or CLAMPED with contents that both carry. -/
def Reply.listed (clamped : Bool) (contents : List Byte) : Reply :=
  { status := if clamped then .clamped else .ok, cause := .none, contents := contents }
def Reply.busy : Reply := { status := .busy, cause := .none, contents := [] }

/-- The payload of one part of a reply (R192). -/
def replyPayload (r : ReplyRest) (chunk : List Byte) (last : Bool) : List Byte :=
  [byte r.head.code, byte (statusCode r.status), byte (refusalCode r.cause), byte (r.part % 128 + 128 * bit last)] ++ chunk

def State.pushReply (f : TxFrame) (s : State) : State := s.modTrunk fun k => { k with replyQ := k.replyQ ++ [f] }
def State.setPhase (p : MgePhase) (s : State) : State := s.modMge fun m => { m with phase := p }

/-- Place the parts of a reply in order while the Reply Queue has room; with the last part the request has completed (R173,
R174). Every part but the last is full: the max payload less the 4 bytes before the contents (DESIGN CHOICE, log entry 54). Each
round places one part, so the queue's size bounds the rounds. -/
def State.placeParts : Nat → ReplyRest → State → State
  | 0, r, s => s.setPhase (.replying r)
  | n + 1, r, s =>
    if s.trunk.replyQ.length < Config.replyQueueSize then
      let chunk := r.rest.take (s.trunk.maxPayload - 4)
      let more := r.rest.drop (s.trunk.maxPayload - 4)
      let t := s.pushReply { dst := r.head.dst, kind := .reply, tag := r.head.tag,
                             body := .bytes (replyPayload r chunk more.isEmpty) }
      if more.isEmpty then t.setPhase .idle else t.placeParts n { r with part := r.part + 1, rest := more }
    else s.setPhase (.replying r)

/-- The reply to a request is made and placed (R174). -/
def State.sendReply (h : ReplyHead) (r : Reply) (s : State) : State :=
  s.placeParts (Config.replyQueueSize + 1)
    { head := h, status := r.status, cause := r.cause, part := 0, rest := r.contents }

/-- A Lane Parameter Access ends (R94): OK with the value the unit reported, or REFUSED with cause FAILED; LANE_ACCESS_DONE is
raised with the lane whatever the result. A Parameter command of the access that still waits is dropped with it. -/
def State.endAccess (h : ReplyHead) (lane : LaneNo) (value : Option (BitVec 16)) (s : State) : State :=
  ((s.modSlot lane fun k => { k with parameterDue := false }).raise .laneAccessDone (some lane.val)).sendReply h
    (match value with | some v => Reply.ok (be 2 v.toNat) | none => Reply.refuse .failed)

/-- The access in flight at a lane, if there is one, ends FAILED (R94: loss of the unit). -/
def State.failAccess (lane : LaneNo) (s : State) : State :=
  match s.mge.phase with
  | .accessing h a => if a.lane = lane then s.endAccess h lane none else s
  | _ => s

end Sys2Proof.Machine
end

