-- ==== Sys2Proof/Machine/Modes.lean ====
section
/-! DEFINITION. Changes of bank mode: opening, closing, dormant entry, the stop of the lane link, the release of the dormant
modes, the schedule, and Bank Reset (R136, R154 to R160, R163). -/

namespace Sys2Proof.Machine

/-! ## The link test -/

/-- A test set up or in progress ends with TEST_DONE; the cycles run and mismatch counts are kept (R135). -/
def State.endTest (s : State) : State :=
  match s.link.test with
  | some _ => (s.modLink fun k => { k with test := none }).raise .testDone none
  | none => s

/-! ## The stop of the lane link (R136) -/

/-- One lane at the stop: PRESENCE and the abort of R93 for a slot that was Active. -/
def State.stopLane (l : LaneNo) (s : State) : State :=
  if (s.slot l).link = .active then (s.raise .presence (some l.val)).loseLane l else s

/-- A slot at the stop: Absent, its commands and a due lane reset discarded, its runs 0. -/
def Slot.stopped (k : Slot) : Slot := { k.left .absent with resetDue := false, sent := none }

/-- A lane command in progress ends as on the loss of the unit. -/
def Lane.stopped (n : Lane) : Lane := n.unconfirmed

/-- The Lane Parameter Access in flight, if there is one, ends FAILED. -/
def State.failAnyAccess (s : State) : State :=
  match s.mge.phase with
  | .accessing h a => s.endAccess h a.lane none
  | _ => s

/-- The link stops: no further slot or header is sent (R136). The lanes are taken by ascending number (log entry 48). -/
def State.haltLink (s : State) : State :=
  let t := s.eachLane State.stopLane
  let u := { t with lanes := updAll t.lanes Lane.stopped,
                    link := { t.link with running := false, stopping := false, awaiting := false, trigger := false,
                                          slots := updAll t.link.slots Slot.stopped } }
  u.failAnyAccess

def State.setEntering (b : Bool) (s : State) : State := s.modBcm fun x => { x with entering := b }

/-- The stop as part of a dormant entry: no cause that it raises releases the mode (R158). -/
def State.stopLink (s : State) : State := ((s.setEntering true).haltLink).setEntering false

/-! ## OPEN (R154, R156) -/

/-- The bank enters OPEN: the given causes and MODE_CHANGE are raised, and lanes enter IDLE where the conditions hold. -/
def State.enterOpen (causes : List Cause) (s : State) : State :=
  let t := (s.setMode .opened).modBcm fun b => { b with requested := none }
  let u := t.startLink.endTest
  let v := (causes ++ [Cause.modeChange]).foldl (fun (x : State) c => x.raise c none) u
  v.eachLane State.offerIdle

/-! ## Dormant entry (R158) -/

/-- Some event cause is pending with a level below the wake threshold. -/
def State.wakePending (s : State) : Bool :=
  (List.finRange 24).any fun c => (s.evu.causes.get c).pending && s.evu.below c

/-- Entering DEEP: the clock becomes Unset and the waiting requests are discarded without reply (R160). -/
def State.sinkDeep (s : State) : State :=
  (s.modBcm fun b => { b with clock := none }).modMge fun m => { m with queue := [] }

def RestMode.mode : RestMode → BankMode
  | .service => .service | .standby => .standby | .deep => .deep

/-- The bank enters STANDBY or DEEP: lanes close, the test ends, the link stops (after the slot in progress, where there is
one), and MODE_CHANGE is raised. No cause of the entry releases the mode (R158). -/
def State.enterDormant (target : RestMode) (s : State) : State :=
  let t := ((s.setEntering true).setMode target.mode).eachLane State.closeLane
  let u := t.endTest
  let v := if u.link.running then
      (if u.link.awaiting then u.modLink fun k => { k with stopping := true } else u.haltLink) else u
  let w := v.raise .modeChange none
  let x := if target = .deep then w.sinkDeep else w
  x.setEntering false

/-! ## CLOSING (R157) -/

def RestMode.depth : RestMode → Nat
  | .service => 0 | .standby => 1 | .deep => 2

/-- The deeper of the requested dormant mode and the after-close mode (R157). -/
def closingTarget (requested : Option RestMode) (afterClose : RestMode) : RestMode :=
  match requested with
  | some r => if afterClose.depth < r.depth then r else afterClose
  | none => afterClose

def State.allClosed (s : State) : Bool := allLanes.all fun l => decide ((s.lane l).state = .closed)

/-- CLOSING ends at the first moment every lane is CLOSED (R157). -/
def State.settleClosing (s : State) : State :=
  if s.bcm.mode = .closing ∧ s.allClosed then
    let target := closingTarget s.bcm.requested s.bcm.schedule.afterClose
    let t := s.modBcm fun b => { b with requested := none }
    if target = .service ∨ t.wakePending then (t.setMode .service).raise .modeChange none
    else t.enterDormant target
  else s

/-- What follows any change of lane states within the same step: pairs are taken into force (R88) and CLOSING may end
(R157). -/
def State.settle (s : State) : State := s.settlePairs.settleClosing

/-- The bank enters CLOSING from OPEN: IDLE and REFUSING lanes close (R157). -/
def State.enterClosing (causes : List Cause) (s : State) : State :=
  let t := (s.setMode .closing).modBcm fun b => { b with requested := none }
  let u := (causes ++ [Cause.modeChange]).foldl (fun (x : State) c => x.raise c none) t
  (u.eachLane State.closeLane).settle

/-! ## Leaving the dormant modes -/

/-- STANDBY is left for SERVICE by a request (R159). -/
def State.leaveStandby (s : State) : State :=
  (((s.setMode .service).startLink).raise .wake none).raise .modeChange none

/-- A matching Wake frame releases DEEP: SERVICE, the schedule disarmed, WAKE and MODE_CHANGE raised, the link started (R160). -/
def State.leaveDeep (s : State) : State :=
  let t := (s.setMode .service).modBcm fun b => { b with schedule := { b.schedule with armed := false } }
  ((t.startLink).raise .wake none).raise .modeChange none

/-! ## The schedule (R154) -/

/-- The clock has taken the value `t`: the armed schedule's opening or closing time may be reached. -/
def State.scheduleAt (t : Nat) (s : State) : State :=
  if !s.bcm.schedule.armed then s
  else if t = s.bcm.schedule.opening then
    match s.bcm.mode, s.bank with
    | .service, some _ => (s.enterOpen [.scheduleOpen]).settle
    | .standby, some _ => (s.enterOpen [.scheduleOpen, .wake]).settle
    | _, _ => s
  else if t = s.bcm.schedule.closing then
    if s.bcm.mode = .opened then s.enterClosing [.scheduleClose] else s
  else s

/-! ## Bank Reset (R96, R137, R163, R176) -/

/-- The verdict command of a lane's slot, waiting or outstanding, is discarded with its operation (R137). -/
def Slot.verdictDropped (k : Slot) : Slot :=
  { k with verdict := none, undelivered := false,
           outstanding := match k.outstanding with | some (.verdict _) => none | o => o }

/-- Abort every sequencer in turn; each lane adopts its profile at once (R96). The confirmed image is kept (log entry
33). -/
def State.abortAll (s : State) : State :=
  (s.eachLane fun l u => (u.modSlot l Slot.verdictDropped).abortLane l .withdrawn).eachLane State.adopt

/-- The mode becomes SERVICE with the events of R163. -/
def State.resetMode (s : State) : State :=
  let t := s.modBcm fun b => { b with requested := none }
  match t.bcm.mode with
  | .service => t
  | .standby => t.leaveStandby
  | _ => (t.setMode .service).raise .modeChange none

/-- The whole of a Bank Reset: the aborts, the mode, and the combine settings taken into force with every lane CLOSED (R96,
R176). -/
def State.doBankReset (s : State) : State := s.abortAll.resetMode.settlePairs

end Sys2Proof.Machine
end

