-- ==== Sys2Proof/Machine/Decision.lean ====
section
/-! DEFINITION. The admission decision: the nine checks, the authorities, the confirming hold, the exit grant, and what a
verdict leaves at the lane (R39 to R58, R80, R103). -/

namespace Sys2Proof.Machine

/-! ## The checks on a record (R43 to R49) -/

/-- The cooldown test on an OUTSIDE record (R49). A last or an event time that is absent passes. (Log entry 10.) -/
def cooldownTest (cooldown : Nat) (t : Option Nat) (last : Option Last) : Option Reason :=
  match t, last.bind (·.time) with
  | some now, some lt => if (now + Config.dayTenths - lt) % Config.dayTenths < 10 * cooldown then some .cooldown else none
  | _, _ => none

/-- The state test by class (R48), for a record that the fourth check let through. A STAFF record skips it. -/
def Record.stateTest (cooldown : Nat) (t : Option Nat) (r : Record) : Option Reason :=
  if r.cls.isStaff then none
  else match r.state with
    | .revoked _ => some .revoked
    | .held _ => some .inPassage
    | .resting .inside => if r.cls = .group ∧ r.used < r.allowance then none else some .alreadyIn
    | .resting .spent => some .spent
    | .resting .unused => if r.allowance ≤ r.used then some .spent else none
    | .resting .outside => if r.allowance ≤ r.used then some .spent else cooldownTest cooldown t r.last

/-- The fourth check: REVOKED, or HELD with revoke-pending set (R43). -/
def Record.isRevoked (r : Record) : Bool :=
  match r.state with
  | .revoked _ => true
  | .held h => h.revokePending.isSome
  | .resting _ => false

/-- The event code test (R44). -/
def Record.eventTest (bankCode presented : Option Nat) (r : Record) : Option Reason :=
  match presented with
  | some c => if !r.multiEvent ∧ bankCode ≠ some c then some .wrongEvent else none
  | none => none

/-- The window test (R45, R46). -/
def windowTest (t : Option Nat) (w : Option Window) : Option Reason :=
  match t, w with
  | some t, some w =>
    if w.opens < w.closes then
      if t < w.opens then some .tooEarly else if w.closes ≤ t then some .tooLate else none
    else if w.opens ≤ t ∨ t < w.closes then none
    else if w.opens - t ≤ t - w.closes then some .tooEarly else some .tooLate
  | _, _ => none

/-- The zones common to a record and a profile (R47). -/
def candidates (prof : Profile) (r : Record) : Set16 := r.zones &&& prof.zones

/-- Checks 4 to 8 on the record found, in order (R40): the reason of the first that fails. -/
def checkRecord (bankCode presented t : Option Nat) (prof : Profile) (r : Record) : Option Reason :=
  if r.isRevoked then some .revoked
  else match r.eventTest bankCode presented with
    | some e => some e
    | none => match windowTest t r.window with
      | some e => some e
      | none => if candidates prof r = 0 then some .wrongGate else r.stateTest prof.cooldown t

/-- The entry takes zone capacity: every entry but a STAFF one and a re-entry (R50). -/
def Record.charged (r : Record) : Bool :=
  !r.cls.isStaff && !(decide (r.state = .resting .outside) && decide (1 ≤ r.used))

/-- The first check fails (R41). -/
def State.logRefuses (s : State) : Bool := decide (s.log.policy = .refuse) && s.logFull

/-! ## Verdicts (R51, R52, R54, R80) -/

/-- The verdict of a reason under a refer set; a refusal that carries no reason is no member (R51, log entry 52). -/
def Profile.verdict (p : Profile) (reason : Option Reason) : Verdict :=
  match reason with
  | some e => if p.refer.getLsbD (reasonCode e) then .refer else .refuse
  | none => .refuse

/-- One more Refuse or Refer at the lane (R95). -/
def LaneCounts.refused (v : Verdict) (c : LaneCounts) : LaneCounts :=
  match v with
  | .refer => { c with refers := sat16 c.refers }
  | _ => { c with refusals := sat16 c.refusals }

/-- The lane with a verdict of Refuse or Refer; its display timer starts when the command is sent (R85). -/
def Lane.refusing (v : Verdict) (cls : Option TicketClass) (n : Lane) : Lane :=
  { n with state := .refusing, key := none, query := none, passTimer := none, displayTimer := none,
           result := some { verdict := v, authority := none, cls := cls, zone := none, provisional := false,
                            held := false } }

/-- The command of a Refuse or Refer verdict (R79). -/
def refusalCommand (v : Verdict) (display : Nat) : VerdictCommand :=
  match v with | .refer => .refer display | _ => .refuse display

/-- The verdict reaches the lane: the count, the command, and REFUSING, or CLOSED while the bank is not OPEN (R85). -/
def State.sendRefusal (l : LaneNo) (v : Verdict) (cls : Option TicketClass) (s : State) : State :=
  let t := (s.modLane l fun n => { n with counts := n.counts.refused v }).queueVerdict l
    (refusalCommand v (s.lane l).profile.display)
  if s.bcm.mode = .opened then t.modLane l (Lane.refusing v cls) else (t.adopt l).enterClosed l

/-- A refusal or referral with its admission record: the reservation is released, the record written, the verdict sent
(R52). The record takes the event time of its writing, at a query's end too (log entry 46); its provisional flag is clear (log
entry 43). -/
def State.refuse (l : LaneNo) (reason : Option Reason) (key : Option Key) (cls : Option TicketClass) (used : Option Nat)
    (s : State) : State :=
  let v := (s.lane l).profile.verdict reason
  let t := s.release l
  (t.writeLog { time := s.eventTime, bank := s.ownBank, lane := l,
                outcome := (match v with | .refer => .referred | _ => .refused), reason := reason, cls := cls, key := key,
                zone := none, used := used, provisional := false }).sendRefusal l v cls

/-- A refusal for LOG_FULL: counted, and not written (R41). -/
def State.refuseUnlogged (l : LaneNo) (s : State) : State :=
  s.countUnlogged.sendRefusal l ((s.lane l).profile.verdict (some .logFull)) none

/-- A refusal about a record that was found. -/
def State.refuseFound (l : LaneNo) (reason : Reason) (k : Key) (r : Record) (s : State) : State :=
  s.refuse l (some reason) (some k) (some r.cls) (some r.used)

/-- The lane with a Grant verdict: OPEN, its timer waiting for the Grant to be sent, its mate mark cleared (R54, R81, R89). -/
def Lane.opening (key : Option Key) (res : DecisionResult) (n : Lane) : Lane :=
  { n with state := .opened, key := key, result := some res, query := none, passTimer := none, displayTimer := none,
           mate := none, counts := { n.counts with grants := sat16 n.counts.grants } }

/-- A Grant verdict reaches the lane (R54). -/
def State.openLane (l : LaneNo) (key : Option Key) (res : DecisionResult) (s : State) : State :=
  let n := s.lane l
  (s.modLane l (Lane.opening key res)).queueVerdict l (.grant n.granted n.profile.passWindow)

/-- A Grant with a hold taken by this lane on the record in slot `i` (R32, R54, R56). -/
def State.grantHold (l : LaneNo) (k : Key) (i : Nat) (r : Record) (zone : Option ZoneNo) (a : Authority) (s : State) : State :=
  (s.putRecord i (r.hold (.lane l zone))).openLane l (some k)
    { verdict := .grant, authority := some a, cls := some r.cls, zone := zone,
      provisional := decide (a = .degraded), held := true }

/-- A Grant of a STAFF ticket, without a hold and without charge (R54, R57). -/
def State.grantStaff (l : LaneNo) (k : Key) (s : State) : State :=
  s.openLane l (some k)
    { verdict := .grant, authority := some .byBank, cls := some .staff, zone := none, provisional := false, held := false }

/-! ## The confirming hold (R57) -/

/-- The confirming hold: checks 3 to 8 again, the reservation kept. The answer says whether it granted. -/
def State.confirmHold (l : LaneNo) (k : Key) (code : Option Nat) (s : State) : State × Bool :=
  let prof := (s.lane l).profile
  match s.lookup k with
  | none => (s.refuse l (some .unknown) (some k) none none, false)
  | some (i, r) =>
    match checkRecord s.bcm.code code s.eventTime prof r with
    | some e => (s.refuseFound l e k r, false)
    | none =>
      if r.cls.isStaff then ((s.release l).grantStaff l k, true)
      else if prof.offline.getLsbD (classCode r.cls) then (s.grantHold l k i r (s.lane l).reservation .degraded, true)
      else (s.refuseFound l .homeUnreachable k r, false)

/-! ## The query (R55, R103) -/

/-- The lane waits for its query. -/
def Lane.querying (k : Key) (c : QueryContext) (n : Lane) : Lane :=
  { n with state := .querying, key := some k, query := some c, result := none, passTimer := none, displayTimer := none }

/-- The Admission Query is sent, and an undelivered verdict of the REFUSING that the lane leaves is discarded (R126); where the Peer
Queue is full the decision goes Degraded at once (R103). -/
def State.sendQuery (l : LaneNo) (k : Key) (code : Option Nat) (r : Record) (s : State) : State :=
  let prof := (s.lane l).profile
  let tag := s.peers.freshTag
  let t := s.modPeers fun p => { p with nextTag := tag + 1 }
  if s.peerRoom then
    (((t.pushPeer { dst := bankByte r.home, kind := .query, tag := tag,
                    body := .bytes (queryPayload k l prof.passWindow prof.cooldown) }).modPeers
        fun p => { p with queries := p.queries ++ [{ tag := tag, lane := l, home := r.home, key := k,
                                                     zone := (s.lane l).reservation,
                                                     deadline := s.now + p.queryTimeout }] }).modLane l
      (Lane.querying k { code := code, cls := r.cls })).endVerdict l
  else (t.confirmHold l k code).1

/-! ## The entry decision (R40, R53) -/

/-- The authority of a decision that passed all nine checks (R53). -/
def State.authority (r : Record) (s : State) : Authority :=
  if r.cls.isStaff then .byBank
  else if s.bank = some r.home then .byBank
  else if !(s.peer r.home).present then .byBank
  else match (s.peer r.home).state with
    | .up | .suspect => .remote
    | .down => .degraded

/-- The outcome of the authority chosen, with the reservation of the ninth check standing (R54 to R56). -/
def State.authorize (l : LaneNo) (k : Key) (code : Option Nat) (i : Nat) (r : Record) (s : State) : State :=
  let zone := (s.lane l).reservation
  match s.authority r with
  | .byBank => if r.cls.isStaff then s.grantStaff l k else s.grantHold l k i r zone .byBank
  | .remote => s.sendQuery l k code r
  | .degraded =>
    if (s.lane l).profile.offline.getLsbD (classCode r.cls) then s.grantHold l k i r zone .degraded
    else s.refuseFound l .homeUnreachable k r

/-- The ninth check: select and reserve for a charged entry (R50, R63). -/
def State.chargeAndAdmit (l : LaneNo) (k : Key) (code : Option Nat) (i : Nat) (r : Record) (s : State) : State :=
  if r.charged then
    match s.selectZone (candidates (s.lane l).profile r) with
    | some z => (s.reserve l z).authorize l k code i r
    | none => s.refuseFound l .zoneFull k r
  else s.authorize l k code i r

/-- Checks 3 to 9 on a decoded key. -/
def State.decideKey (l : LaneNo) (k : Key) (code : Option Nat) (s : State) : State :=
  match s.lookup k with
  | none => s.refuse l (some .unknown) (some k) none none
  | some (i, r) =>
    match checkRecord s.bcm.code code s.eventTime (s.lane l).profile r with
    | some e => s.refuseFound l e k r
    | none => s.chargeAndAdmit l k code i r

/-- The entry decision (R39, R40). -/
def State.entryDecision (l : LaneNo) (p : Presentation) (s : State) : State :=
  if s.logRefuses then s.refuseUnlogged l
  else match decodePresentation s.policy (s.lane l).profile p with
    | .failed e => s.refuse l (some e) none none none
    | .decoded k code => s.decideKey l k code

/-- The exit grant (R58). -/
def State.exitGrant (l : LaneNo) (p : Presentation) (s : State) : State :=
  s.openLane l (match decodePresentation s.policy (s.lane l).profile p with | .decoded k _ => some k | .failed _ => none)
    { verdict := .grant, authority := some .byBank, cls := none, zone := none, provisional := false, held := false }

/-! ## A presentation at a sequencer (R80) -/

/-- A presentation that runs a decision is counted by the lane and by the surge estimator, and stops the display timer (R80,
R161). The estimator counts it also where the lane's count is saturated and does not rise (DEDUCED, log entry 53). -/
def State.countPresentation (l : LaneNo) (s : State) : State :=
  (s.modLane l fun n => { n with displayTimer := none,
                                 counts := { n.counts with presentations := sat16 n.counts.presentations } }).modBcm
    fun b => { b with surge := { b.surge with count := sat16 b.surge.count } }

/-- A presentation discarded in QUERYING or OPEN. -/
def State.countBusy (l : LaneNo) (s : State) : State :=
  s.modLane l fun n => { n with counts := { n.counts with busyDiscards := sat16 n.counts.busyDiscards } }

/-- A presentation reaches the sequencer of lane `l` (R80). The effective direction decides between the entry decision and the exit
grant, also where an override differs from the lane direction of the profile in force, which R39 and R58 name (log entry 44). -/
def State.present (l : LaneNo) (p : Presentation) (s : State) : State :=
  match (s.lane l).state, (s.lane l).direction with
  | .idle, .entry | .refusing, .entry => (s.countPresentation l).entryDecision l p
  | .idle, .exit | .refusing, .exit => (s.countPresentation l).exitGrant l p
  | .querying, _ | .opened, _ => s.countBusy l
  | _, _ => s

end Sys2Proof.Machine
end

