-- ==== Sys2Proof/Machine/Passage.lean ====
section
/-! DEFINITION. The end of an operation by a passage, the exit update, rotations without a grant, the mate mark, and the
expiries of a lane's timers (R59, R81 to R86, R89). -/

namespace Sys2Proof.Machine

/-! ## Passage on an entry lane (R81) -/

/-- What the passage records about the ticket: class, used after and provisional flag, with the home where the record was
found. -/
structure Recorded where
  cls : Option TicketClass
  used : Option Nat
  provisional : Bool
  home : Option BankNo
  deriving DecidableEq, Repr

/-- Step 1 of R81 on the record as found: the commit of a held record (R33), the unheld entry of a STAFF one (R35). -/
def Record.passed (time : Option Nat) (bank : BankNo) (l : LaneNo) (res : DecisionResult) (r : Record) : Record :=
  if res.held then (if r.heldByLane l then r.commit ⟨time, bank, l, res.zone⟩ res.provisional else r)
  else r.unheldEntry time bank l

/-- What is logged of a passage: from the record as it stands after step 1, or from the grant where the record is gone. -/
def recordedOf (res : DecisionResult) : Option Record → Recorded
  | some r => { cls := some r.cls, used := some r.used, provisional := if res.held then res.provisional else false,
                home := some r.home }
  | none => { cls := res.cls, used := none, provisional := res.provisional, home := none }

/-- Step 1 of R81 in the table. -/
def State.recordPassage (l : LaneNo) (k : Key) (res : DecisionResult) (s : State) : State :=
  match s.lookup k with
  | some (i, r) => s.putRecord i (r.passed s.eventTime s.ownBank l res)
  | none => s

/-- The used byte of an Entry Notice; a ticket purged during its passage has no used count to send. (Log entry 1.) -/
def usedByte (draw : Nat) : Option Nat → Byte
  | some u => byte u
  | none => Config.freeByte draw 0

/-- Step 4 of R81. -/
def State.notifyEntry (l : LaneNo) (k : Key) (res : DecisionResult) (g : Recorded) (s : State) : State :=
  (s.sendEntryNotice k l s.eventTime (usedByte s.draws g.used) g.provisional res.zone).drawn

/-- Step 5 of R81: a Degraded grant whose home is not Up joins the Reconcile List (R119). -/
def State.noteReconcile (l : LaneNo) (k : Key) (res : DecisionResult) (g : Recorded) (s : State) : State :=
  match g.home, g.used with
  | some home, some used =>
    if res.authority = some .degraded ∧ (s.peer home).state ≠ .up then
      s.addReconcile { key := k, home := home, time := s.eventTime, lane := l, used := used, zone := res.zone }
    else s
  | _, _ => s

/-- The operation of an entry lane ends by passage (R81). -/
def State.endByPassage (l : LaneNo) (s : State) : State :=
  match (s.lane l).key, (s.lane l).result with
  | some k, some res =>
    let t := s.recordPassage l k res
    let g := recordedOf res ((t.lookup k).map (·.2))
    let u := (t.commitZone l).writeLog
      { time := s.eventTime, bank := s.ownBank, lane := l, outcome := .entry, reason := none, cls := g.cls,
        key := some k, zone := res.zone, used := g.used, provisional := g.provisional }
    ((u.notifyEntry l k res g).noteReconcile l k res g).rest l
  | _, _ => s.rest l

/-! ## Passage on an exit lane (R59) -/

/-- The new state of an EXIT, none where the exit is unmatched (R59). -/
def Record.exitState (r : Record) : Option Resting :=
  match r.cls, r.state with
  | .staff, .resting .inside => some .outside
  | .returning, .resting .inside => if r.used < r.allowance then some .outside else some .spent
  | .single, .resting .inside => some .spent
  | _, _ => none

/-- The zone of last, none where last is absent. -/
def Record.lastZone (r : Record) : Option ZoneNo := r.last.bind (·.zone)

/-- The record after an exit: the new state, and last with its zone kept (R59). -/
def Record.exited (st : Resting) (time : Option Nat) (bank : BankNo) (l : LaneNo) (r : Record) : Record :=
  { r with state := .resting st, last := some ⟨time, bank, l, r.lastZone⟩ }

/-- An UNMATCHED_EXIT record (R59, R84). Its provisional flag is clear, whatever the flag of a record found (log entry 43). -/
def State.logUnmatched (l : LaneNo) (key : Option Key) (r : Option Record) (s : State) : State :=
  s.writeLog { time := s.eventTime, bank := s.ownBank, lane := l, outcome := .unmatchedExit, reason := none,
               cls := r.map (·.cls), key := key, zone := none, used := r.map (·.used), provisional := false }

/-- ScanOuts of the zone of last rises, where that is a zone (R66). -/
def State.scanOut (z : Option ZoneNo) (s : State) : State :=
  match z with
  | some z => s.modZone z Zone.scannedOut
  | none => s

/-- An EXIT update on the record in slot `i` (R59). -/
def State.exitMatched (l : LaneNo) (k : Key) (i : Nat) (r : Record) (st : Resting) (s : State) : State :=
  let t := (s.putRecord i (r.exited st s.eventTime s.ownBank l)).scanOut r.lastZone
  (t.writeLog { time := s.eventTime, bank := s.ownBank, lane := l, outcome := .exit, reason := none, cls := some r.cls,
                key := some k, zone := r.lastZone, used := some r.used, provisional := r.provisional }).sendExitNotice
    k l s.eventTime st

/-- The exit update (R59). -/
def State.exitUpdate (l : LaneNo) (s : State) : State :=
  match (s.lane l).key with
  | none => s.logUnmatched l none none
  | some k =>
    match s.lookup k with
    | none => s.logUnmatched l (some k) none
    | some (i, r) =>
      match r.exitState with
      | some st => s.exitMatched l k i r st
      | none => s.logUnmatched l (some k) (some r)

/-! ## The end of an operation in the lane (R81 to R83) -/

/-- The operation ends by a passage in the granted direction (R81, R83). -/
def State.endPassed (l : LaneNo) (s : State) : State :=
  if (s.lane l).granted = .exit then (s.exitUpdate l).rest l else s.endByPassage l

/-- The operation ends without a passage (R82, R83). -/
def State.endUnpassed (l : LaneNo) (o : Outcome) (s : State) : State :=
  if (s.lane l).granted = .exit then s.rest l else (s.endWithout l o).rest l

/-! ## Rotations (R84, R86, R89) -/

/-- TAILGATE: the event, the record, its provisional flag clear (log entry 43), and the count (R84). -/
def State.tailgate (l : LaneNo) (s : State) : State :=
  let t := s.raise .tailgate (some l.val)
  (t.writeLog { time := s.eventTime, bank := s.ownBank, lane := l, outcome := .tailgate, reason := none, cls := none,
                key := none, zone := none, used := none, provisional := false }).modLane l
    fun n => { n with counts := { n.counts with tailgates := sat16 n.counts.tailgates } }

/-- One more free exit (R86). -/
def State.freeExit (l : LaneNo) (s : State) : State :=
  s.modLane l fun n => { n with counts := { n.counts with freeExits := sat16 n.counts.freeExits } }

/-- A rotation at a lane that is not OPEN (R84). -/
def State.ungranted (l : LaneNo) (d : Direction) (s : State) : State :=
  match (s.lane l).state, (s.lane l).direction, d with
  | .closed, _, .entry => if s.bcm.mode = .opened ∨ s.bcm.mode = .closing then s.tailgate l else s
  | .closed, _, .exit => s
  | .idle, .freeExit, .entry => s.tailgate l
  | .idle, .freeExit, .exit => s.freeExit l
  | _, .entry, .entry | _, .exit, .entry => s.tailgate l
  | _, .entry, .exit | _, .exit, .exit => s.logUnmatched l none none
  | _, _, _ => s

/-- The mate mark set to the other head as an operation of a wide lane ends by a rotation from `head` (R89). -/
def State.setMate (l head : LaneNo) (s : State) : State :=
  if s.combined l then s.modLane l fun n => { n with mate := some { head := otherHead head, reports := 0 } } else s

/-- The report comes from the marked head of a wide lane (R89). -/
def State.isMarked (s : State) (l head : LaneNo) : Bool :=
  s.combined l && (match (s.lane l).mate with | some m => decide (m.head = head) | none => false)

/-- A Passage or Forced report from `head` reaches the sequencer of lane `l` (R81 to R84, R89). -/
def State.rotation (l head : LaneNo) (d : Direction) (s : State) : State :=
  if s.isMarked l head then s.modLane l fun n => { n with mate := none }
  else if (s.lane l).state = .opened then
    (if d = (s.lane l).granted then s.endPassed l else s.endUnpassed l .backedOut).setMate l head
  else s.ungranted l d

/-- A Reverse report reaches the sequencer of lane `l` (R82, R83). -/
def State.reverse (l : LaneNo) (s : State) : State :=
  if (s.lane l).state = .opened then s.endUnpassed l .backedOut else s

/-! ## Timers (R82, R85) -/

/-- The pass window of a lane expires (R82, R83); a stopped timer does nothing (R81). -/
def State.passExpiry (l : LaneNo) (s : State) : State :=
  match (s.lane l).passTimer with
  | some t => if (s.lane l).state = .opened then (s.reach t).endUnpassed l .withdrawn else s
  | none => s

/-- The refusal display time of a lane runs out (R85). -/
def State.displayExpiry (l : LaneNo) (s : State) : State :=
  match (s.lane l).displayTimer with
  | some t => if (s.lane l).state = .refusing then (s.reach t).rest l else s
  | none => s

end Sys2Proof.Machine
end

