-- ==== Sys2Proof/Machine/PeerFrames.lean ====
section
/-! DEFINITION. Peer frames as taken: the payload check, the query answered, the answer matched, the notices applied, and the
deadlines of queries, remote holds and lapsed entries (R97, R100, R105 to R117, R196). -/

namespace Sys2Proof.Machine

/-! ## Payloads as read (R191, R196) -/

structure QueryFields where
  key : Key
  lane : LaneNo
  window : Nat
  cooldown : Nat
  deriving DecidableEq, Repr

/-- The verdicts of an answer (R190). -/
inductive AnswerVerdict where
  | grant | refuse | unavailable
  deriving DecidableEq, Repr

structure AnswerFields where
  key : Key
  verdict : AnswerVerdict
  reason : Option Reason
  used : Nat
  deriving DecidableEq, Repr

structure EntryFields where
  key : Key
  bank : BankNo
  lane : LaneNo
  time : Option Nat
  used : Nat
  provisional : Bool
  zone : Option ZoneNo
  deriving DecidableEq, Repr

structure ExitFields where
  key : Key
  bank : BankNo
  lane : LaneNo
  time : Option Nat
  state : Resting
  deriving DecidableEq, Repr

structure WithdrawFields where
  key : Key
  bank : BankNo
  lane : LaneNo
  deriving DecidableEq, Repr

/-- A value that a check of R196 lets through, or a failed check. -/
def Reader.checked {α : Type} (o : Option α) : Reader α := fun bs => o.map fun a => (a, bs)

/-- An optional byte: FF is absent (R189). -/
def optionalOf {α : Type} (codes : Nat → Option α) (n : Nat) : Option (Option α) :=
  if n = 255 then some none else (codes n).map some

/-- An event time: FFFFFF is absent, any other value above 863,999 fails (R189, R196). -/
def timeOf (n : Nat) : Option (Option Nat) :=
  if n = 0xFFFFFF then some none else if n < Config.dayTenths then some (some n) else none

/-- The states an answer may carry: the six state codes and FF (R196). -/
def answerStateOk (n : Nat) : Option Unit := if n ≤ 5 ∨ n = 255 then some () else none

/-- The new state of an Exit Notice: OUTSIDE or SPENT (R196). -/
def exitStateOf : Nat → Option Resting
  | 3 => some .outside | 4 => some .spent | _ => none

def answerVerdictOf : Nat → Option AnswerVerdict
  | 0 => some .grant | 1 => some .refuse | 2 => some .unavailable | _ => none

def answerVerdictCode : AnswerVerdict → Nat
  | .grant => 0 | .refuse => 1 | .unavailable => 2

def Reader.peerKey : Reader Key := do
  let k ← Reader.key
  Reader.checked k.key

def Reader.query : Reader QueryFields := do
  let key ← Reader.peerKey
  let lane ← Reader.checked (toLane (← Reader.nat 1))
  let window ← Reader.nat 2
  let cooldown ← Reader.nat 2
  return { key, lane, window, cooldown }

def Reader.answer : Reader AnswerFields := do
  let key ← Reader.peerKey
  let verdict ← Reader.checked (answerVerdictOf (← Reader.nat 1))
  let reason ← Reader.checked (optionalOf reasonOf (← Reader.nat 1))
  let _ ← Reader.checked (answerStateOk (← Reader.nat 1))
  let used ← Reader.nat 1
  return { key, verdict, reason, used }

def Reader.entry : Reader EntryFields := do
  let key ← Reader.peerKey
  let bank ← Reader.checked (toBank (← Reader.nat 1))
  let lane ← Reader.checked (toLane (← Reader.nat 1))
  let time ← Reader.checked (timeOf (← Reader.nat 3))
  let used ← Reader.nat 1
  let flags ← Reader.nat 1
  let zone ← Reader.checked (optionalOf toZone (← Reader.nat 1))
  return { key, bank, lane, time, used, provisional := flags.testBit 0, zone }

def Reader.exit : Reader ExitFields := do
  let key ← Reader.peerKey
  let bank ← Reader.checked (toBank (← Reader.nat 1))
  let lane ← Reader.checked (toLane (← Reader.nat 1))
  let time ← Reader.checked (timeOf (← Reader.nat 3))
  let state ← Reader.checked (exitStateOf (← Reader.nat 1))
  return { key, bank, lane, time, state }

def Reader.withdraw : Reader WithdrawFields := do
  let key ← Reader.peerKey
  let bank ← Reader.checked (toBank (← Reader.nat 1))
  let lane ← Reader.checked (toLane (← Reader.nat 1))
  return { key, bank, lane }

/-! ## A query answered at the home (R105, R106) -/

/-- Why the home refuses a query on the record found, none for a Grant (R105). -/
def Record.homeRefusal (cooldown : Nat) (t : Option Nat) (r : Record) : Option Reason :=
  if r.isRevoked then some .revoked
  else match r.state with
    | .held _ => some .inPassage
    | _ => r.stateTest cooldown t

/-- The deadline of a remote hold, from the moment it is taken (R106). -/
def State.remoteDeadline (window : Nat) (s : State) : Nat := s.now + max (s.peers.remoteHold * 1000) (window * 100 + 2000)

/-- The payload of an answer about a record found (R191). -/
def answerPayload (k : Key) (v : AnswerVerdict) (reason : Option Reason) (r : Record) : List Byte :=
  keyBytes k ++ [byte (answerVerdictCode v), optByte (reason.map reasonCode), byte (stateCode r.state), byte r.used]

/-- The payload of an answer without a record: the state is absent and the used byte open (R191, log entry 1). -/
def answerWithout (draw : Nat) (k : Key) (v : AnswerVerdict) (reason : Option Reason) : List Byte :=
  keyBytes k ++ [byte (answerVerdictCode v), optByte (reason.map reasonCode), 0xFF, Config.freeByte draw 0]

def State.sendAnswer (dst tag : Byte) (payload : List Byte) (s : State) : State :=
  s.offerPeer { dst := dst, kind := .answer, tag := tag, body := .bytes payload }

/-- A taken query is answered from this bank's copy (R105, R106). -/
def State.answerQuery (src : BankNo) (tag : Byte) (q : QueryFields) (s : State) : State :=
  let dst := bankByte src
  if s.table.sweeping then (s.sendAnswer dst tag (answerWithout s.draws q.key .unavailable none)).drawn
  else match s.lookup q.key with
    | none => (s.sendAnswer dst tag (answerWithout s.draws q.key .refuse (some .unknown))).drawn
    | some (i, r) =>
      match r.homeRefusal q.cooldown s.eventTime with
      | some e => s.sendAnswer dst tag (answerPayload q.key .refuse (some e) r)
      | none =>
        (s.putRecord i (r.hold (.remote src q.lane (s.remoteDeadline q.window)))).sendAnswer dst tag
          (answerPayload q.key .grant none r)

/-! ## An answer at the asking bank (R107, R108, R110) -/

/-- The used count an answer gives to an admission record: absent with Unavailable and with UNKNOWN (R191). -/
def AnswerFields.usedAfter (a : AnswerFields) : Option Nat :=
  match a.verdict, a.reason with
  | .unavailable, _ => none
  | .refuse, some .unknown => none
  | _, _ => some a.used

/-- The plain hold did not take the record: refused with the reason of its result, and a Withdraw Notice to the home
(R108). -/
def State.refuseHeld (q : Query) (e : Reason) (r : Option Record) (s : State) : State :=
  (s.refuse q.lane (some e) (some q.key) (r.map (·.cls)) (r.map (·.used))).sendWithdrawNotice q.home q.key q.lane

/-- A matching Grant answer (R108). -/
def State.grantAnswer (q : Query) (s : State) : State :=
  let cls := (s.lane q.lane).query.map (·.cls)
  match s.lookup q.key with
  | none => s.refuseHeld q .unknown none
  | some (i, r) =>
    match r.state with
    | .held _ => s.refuseHeld q .inPassage (some r)
    | .revoked _ => s.refuseHeld q .revoked (some r)
    | .resting _ =>
      (s.putRecord i (r.hold (.lane q.lane q.zone))).openLane q.lane (some q.key)
        { verdict := .grant, authority := some .remote, cls := cls, zone := q.zone, provisional := false, held := true }

/-- The presented event code that the lane's decision had (log entry 8). -/
def State.queryCode (l : LaneNo) (s : State) : Option Nat := (s.lane l).query.bind (·.code)

/-- An answer that matches a Query Table entry (R107). A Refuse answer without a reason refuses the lane, its record without a reason
(log entry 52). -/
def State.matchedAnswer (q : Query) (a : AnswerFields) (s : State) : State :=
  let t := s.dropQuery q.lane
  match a.verdict with
  | .grant => t.grantAnswer q
  | .refuse => t.refuse q.lane a.reason (some q.key) ((s.lane q.lane).query.map (·.cls)) a.usedAfter
  | .unavailable => (t.confirmHold q.lane q.key (s.queryCode q.lane)).1

/-- The CONFLICT of a late Refuse on a lapsed Grant (R110); its class, used and provisional flag are of log entry 24.
An answer without a reason leaves the record without one (log entry 52). -/
def State.lateConflict (e : Lapsed) (a : AnswerFields) (s : State) : State :=
  (s.writeLog { time := s.eventTime, bank := s.ownBank, lane := e.lane, outcome := .conflict, reason := a.reason,
                cls := (s.lookup e.key).map (·.2.cls), key := some e.key, zone := none, used := a.usedAfter,
                provisional := false }).raise .conflict (some e.lane.val)

/-- An answer that matches a Lapsed List entry (R110). -/
def State.lateAnswer (e : Lapsed) (a : AnswerFields) (s : State) : State :=
  let t := (s.modPeers fun p => { p with lapsed := p.lapsed.filter fun x => decide (x.tag ≠ e.tag) }).errorOccurs
    .lateAnswer none []
  match a.verdict, e.verdict with
  | .grant, .refuse | .grant, .aborted => t.sendWithdrawNotice e.home e.key e.lane
  | .refuse, .grant => t.lateConflict e a
  | _, _ => t

/-- A taken answer (R107). -/
def State.takeAnswer (src : BankNo) (tag : Byte) (a : AnswerFields) (s : State) : State :=
  match s.peers.queries.find? fun q => decide (q.tag = tag ∧ q.home = src ∧ q.key = a.key) with
  | some q => s.matchedAnswer q a
  | none =>
    match s.peers.lapsed.find? fun e => decide (e.tag = tag ∧ e.home = src ∧ e.key = a.key) with
    | some e => s.lateAnswer e a
    | none => s.errorOccurs .orphanAnswer none []

/-! ## Notices (R112 to R117) -/

/-- The record's last equals the notice's event time, bank and lane: the notice has been applied (R112). Absent times are
equal (log entry 37). -/
def Record.repeats (time : Option Nat) (b : BankNo) (l : LaneNo) (r : Record) : Bool :=
  match r.last with
  | some x => decide (x.time = time ∧ x.bank = b ∧ x.lane = l)
  | none => false

/-- This bank is the record's home. -/
def State.isHome (s : State) (r : Record) : Bool := decide (s.bank = some r.home)

/-- Used capped at the allowance, or at 255 for STAFF. -/
def Record.cap (r : Record) (n : Nat) : Nat := if r.cls.isStaff then min 255 n else min r.allowance n

/-- "Used from the notice" (R115). -/
def Record.usedFrom (home : Bool) (n : EntryFields) (r : Record) : Nat :=
  r.cap (if home then r.used + 1 else max r.used n.used)

/-- "Last set" (R115). -/
def EntryFields.last (n : EntryFields) : Last := { time := n.time, bank := n.bank, lane := n.lane, zone := n.zone }

/-- The rows of R115 that take the entry without a conflict. -/
def Record.accepts (r : Record) : Bool :=
  match r.state with
  | .resting .unused | .resting .outside => true
  | .resting .inside => r.cls.isStaff || (decide (r.cls = .group) && decide (r.used < r.allowance))
  | .resting .spent => r.cls.isStaff
  | .held _ | .revoked _ => false

/-- An entry made elsewhere applied to the record as found (R115). -/
def Record.enteredElsewhere (home : Bool) (n : EntryFields) (r : Record) : Record :=
  if r.accepts then
    { r with state := .resting .inside, used := if r.cls.isStaff then r.usedUp else r.usedFrom home n,
             last := some n.last, provisional := if home then false else n.provisional }
  else
    { r with used := r.usedUp, last := some n.last, provisional := if home then false else r.provisional }

/-- The admission record that a notice leaves (R115, R116), its event time absent while this bank's clock is Unset (R138, R150,
log entry 36). -/
def EntryFields.admission (clock : Option Nat) (n : EntryFields) (o : Outcome) (r : Record) : Admission :=
  { time := if clock.isSome then n.time else none, bank := n.bank, lane := n.lane, outcome := o, reason := none,
    cls := some r.cls, key := some n.key, zone := n.zone, used := some r.used, provisional := n.provisional }

/-- An Entry or Reconcile Notice from a non-holder (R115, R116): `late` marks a late entry. -/
def State.applyEntry (n : EntryFields) (late : Bool) (i : Nat) (r : Record) (s : State) : State :=
  let q := r.enteredElsewhere (s.isHome r) n
  let t := s.putRecord i q
  if late then t.writeLog (n.admission s.bcm.clock .lateEntry q)
  else if r.accepts then t
  else (t.writeLog (n.admission s.bcm.clock .conflict q)).raise .conflict (some n.lane.val)

/-- A late entry (R116). -/
def State.isLate (n : EntryFields) (r : Record) (s : State) : Bool := s.isHome r && !n.provisional && !r.cls.isStaff

/-- A taken Entry Notice (R112, R113, R115, R116). -/
def State.takeEntry (n : EntryFields) (s : State) : State :=
  match s.lookup n.key with
  | none => s
  | some (i, r) =>
    if r.repeats n.time n.bank n.lane then s
    else if r.heldByRemote n.bank n.lane then s.putRecord i (r.commit n.last false)
    else s.applyEntry n (s.isLate n r) i r

/-- A taken Reconcile Notice (R112, R115). -/
def State.takeReconcile (n : EntryFields) (s : State) : State :=
  match s.lookup n.key with
  | none => s
  | some (i, r) => if r.repeats n.time n.bank n.lane then s else s.applyEntry n false i r

/-- The record after an Exit Notice (R117). -/
def Record.exitedElsewhere (n : ExitFields) (r : Record) : Record :=
  { r with last := some ⟨n.time, n.bank, n.lane, r.lastZone⟩,
           state := match r.state with
             | .resting _ => .resting n.state
             | .held h => .held { h with prior := n.state }
             | .revoked e => .revoked e }

/-- A taken Exit Notice (R112, R117). -/
def State.takeExit (n : ExitFields) (s : State) : State :=
  match s.lookup n.key with
  | none => s
  | some (i, r) => if r.repeats n.time n.bank n.lane then s else s.putRecord i (r.exitedElsewhere n)

/-- A taken Withdraw Notice: from the holder it reverts the remote hold (R112, R113). -/
def State.takeWithdraw (n : WithdrawFields) (s : State) : State :=
  match s.lookup n.key with
  | none => s
  | some (i, r) => if r.heldByRemote n.bank n.lane then s.putRecord i r.revert else s

/-! ## The conditions for taking a peer frame (R97, R196) -/

/-- A peer frame's payload as read, by its kind. -/
inductive PeerPayload where
  | query (q : QueryFields)
  | answer (a : AnswerFields)
  | entry (n : EntryFields)
  | exit (n : ExitFields)
  | withdraw (n : WithdrawFields)
  | reconcile (n : EntryFields)
  deriving DecidableEq, Repr

/-- The payload check of R196; bytes after the layout are not examined. -/
def readPeer (kind : FrameKind) (payload : List Byte) : Option PeerPayload :=
  match kind with
  | .query => (Reader.query payload).map fun x => .query x.1
  | .answer => (Reader.answer payload).map fun x => .answer x.1
  | .entryNotice => (Reader.entry payload).map fun x => .entry x.1
  | .exitNotice => (Reader.exit payload).map fun x => .exit x.1
  | .withdrawNotice => (Reader.withdraw payload).map fun x => .withdraw x.1
  | .reconcileNotice => (Reader.entry payload).map fun x => .reconcile x.1
  | _ => none

/-- The bank field of a notice, none for a query or an answer. -/
def PeerPayload.bank : PeerPayload → Option BankNo
  | .query _ | .answer _ => none
  | .entry n | .reconcile n => some n.bank
  | .exit n => some n.bank
  | .withdraw n => some n.bank

/-- The bank mode lets peer frames be taken (R97). -/
def takesPeers : BankMode → Bool
  | .service | .opened | .closing => true
  | .standby | .deep => false

/-- A peer frame acts by its kind. An answer ends its lane's query, after which a CLOSING bank may have every lane CLOSED (R157). -/
def State.actPeer (src : BankNo) (tag : Byte) (p : PeerPayload) (s : State) : State :=
  match p with
  | .query q => s.answerQuery src tag q
  | .answer a => (s.takeAnswer src tag a).settle
  | .entry n => s.takeEntry n
  | .exit n => s.takeExit n
  | .withdraw n => s.takeWithdraw n
  | .reconcile n => s.takeReconcile n

/-- The Source of a peer frame as a bank that R97 takes frames from: not this bank, and one is assigned. -/
def State.peerSource (src : Byte) (s : State) : Option BankNo :=
  match s.bank, toBank src.toNat with
  | some own, some b => if b = own then none else some b
  | _, _ => none

/-- The Peer Coordinator is handed a peer frame (R97, R100, R196); `lead` are the first bytes of the frame. (Log entry 21.) -/
def State.takePeer (kind : FrameKind) (src tag : Byte) (payload lead : List Byte) (s : State) : State :=
  if !takesPeers s.bcm.mode then s
  else match s.peerSource src with
    | none => s
    | some b =>
      match readPeer kind payload with
      | none => s.errorOccurs .malformedFrame none lead
      | some p =>
        if p.bank.all fun x => decide (x = b) then (s.hearPeer b).actPeer b tag p else s

/-! ## Deadlines -/

/-- The deadline of a lane's query expires (R109). -/
def State.queryExpiry (l : LaneNo) (s : State) : State :=
  match s.peers.queryOf l with
  | none => s
  | some q =>
    let t := ((s.reach q.deadline).peerTimeout q.home).dropQuery l
    let r := t.confirmHold l q.key (t.queryCode l)
    r.1.addLapsed q (if r.2 then .grant else .refuse)

/-- A Lapsed List entry expires (R110). -/
def State.lapsedExpiry (tag : Byte) (s : State) : State :=
  match s.peers.lapsed.find? fun e => decide (e.tag = tag) with
  | some e => (s.reach e.expiry).modPeers fun p => { p with lapsed := p.lapsed.filter fun x => decide (x.tag ≠ tag) }
  | none => s

/-- The deadline of a remote hold expires (R37, R114). The provisional flag of the HOLD_LAPSED record is clear (log entry 43). -/
def State.remoteExpiry (k : Key) (s : State) : State :=
  match s.lookup k with
  | none => s
  | some (i, r) =>
    match r.state with
    | .held { holder := .remote b l d, prior := _, revokePending := _ } =>
      let t := (s.reach d).putRecord i r.revert
      (t.writeLog { time := t.eventTime, bank := b, lane := l, outcome := .holdLapsed, reason := none,
                    cls := some r.cls, key := some k, zone := none, used := some r.used, provisional := false }).raise
        .holdLapsed (some b.val)
    | _ => s

end Sys2Proof.Machine
end

