-- ==== Sys2Proof/Machine/LaneMessages.lean ====
section
/-! DEFINITION. The messages of the Lane Link: commands and headers as sent, replies as read and as a lane unit makes them (R130,
R131, R195). -/

namespace Sys2Proof.Machine

/-! ## Commands (R195) -/

/-- The code and the fields of a command. What the manual does not give (the image beside a reset indication, the value of a
read) is open. -/
def commandFields (draw : Nat) : SlotCommand → List Byte
  | .poll join => [0, byte (bit join)]
  | .verdict (.grant d w) => [1, byte (directionCode d)] ++ be 2 w
  | .verdict (.refuse t) => 2 :: be 1 t
  | .verdict (.refer t) => 3 :: be 1 t
  | .lamp .ready => [4, 0]
  | .lamp .closed => [4, 1]
  | .mode (some c) => [5, 0] ++ imageBytes c
  | .mode none => [5, 1] ++ openBytes draw 0 6
  | .parameter n true v => [6, byte n, 1] ++ be 2 v.toNat
  | .parameter n false _ => [6, byte n, 0] ++ openBytes draw 0 2
  | .again => [7]
  | .test w => 8 :: be 2 w.toNat

/-- A command message to a lane (R195). -/
def commandBytes (draw : Nat) (l : LaneNo) (c : SlotCommand) : List Byte :=
  withCheck (laneByte l :: commandFields draw c)

/-! ## Headers (R130, R131, R195) -/

/-- The words of a header: the configured ones, and the Bank Word last where it is enabled. -/
def headerWords (h : HeaderSettings) (bankWord : BitVec 16) : List (BitVec 16) :=
  h.words.toList.take h.count ++ (if h.bankWord then [bankWord] else [])

/-- A header message (R195). -/
def headerBytes (h : HeaderSettings) (bankWord : BitVec 16) : List Byte :=
  withCheck ([128, byte ((headerWords h bankWord).length + 128 * bit h.bankWord)] ++
    (headerWords h bankWord).flatMap fun w => be 2 w.toNat)

/-! ## Replies (R125, R195) -/

/-- The eleven reports of a lane unit (R125). -/
inductive Report where
  | nothing
  | presentation (p : Presentation)
  | passage (d : Direction)
  | reverse
  | forced (d : Direction)
  | button
  | fault
  | hello (identity : BitVec 32)
  | confirm (image : ControlImage)
  | parameterAnswer (value : BitVec 16)
  | testEcho (word : BitVec 16)
  deriving DecidableEq, Repr

/-- Report kinds (R195). -/
def Report.kind : Report → Nat
  | .nothing => 0 | .presentation _ => 1 | .passage _ => 2 | .reverse => 3 | .forced _ => 4 | .button => 5 | .fault => 6
  | .hello _ => 7 | .confirm _ => 8 | .parameterAnswer _ => 9 | .testEcho _ => 10

/-- The fields of a report (R195). -/
def Report.fields : Report → List Byte
  | .nothing | .reverse | .button | .fault => []
  | .presentation (.barcode cs) => [0, byte cs.length] ++ cs
  | .presentation (.card uid) => [1, byte uid.length] ++ uid
  | .presentation .collision => [2, 0]
  | .passage d | .forced d => [byte (directionCode d)]
  | .hello u => be 4 u.toNat
  | .confirm c => imageBytes c
  | .parameterAnswer v => be 2 v.toNat
  | .testEcho w => be 2 w.toNat

/-- A reply message as a lane unit makes it (R195). -/
def replyBytes (number : Fin 16) (r : Report) : List Byte := withCheck (byte (r.kind * 16 + number.val) :: r.fields)

/-- An image from its six bytes, none where a code lies outside its list (R195). -/
def readImage : List Byte → Option ControlImage
  | [g, r, a, d, p, c] =>
    match lampOf g.toNat, lampOf r.toNat, lampOf a.toNat, overrideOf d.toNat, indicationOf p.toNat, indicationOf c.toNat with
    | some g, some r, some a, some d, some p, some c =>
      some { green := g, red := r, amber := a, override := d, power := p, combine := c }
    | _, _, _, _, _, _ => none
  | _ => none

/-- A presentation from its type, its length and its bytes; a collision carries length 0 (R195). -/
def readPresentation : List Byte → Option Presentation
  | t :: n :: rest =>
    if rest.length = n.toNat then
      match t.toNat with
      | 0 => some (.barcode rest)
      | 1 => some (.card rest)
      | 2 => if rest.isEmpty then some .collision else none
      | _ => none
    else none
  | _ => none

/-- The fields of a report by its kind, none where the length or a code does not agree with the layout (R195). -/
def readFields : Nat → List Byte → Option Report
  | 0, [] => some .nothing
  | 1, fs => (readPresentation fs).map .presentation
  | 2, [d] => (directionOf d.toNat).map .passage
  | 3, [] => some .reverse
  | 4, [d] => (directionOf d.toNat).map .forced
  | 5, [] => some .button
  | 6, [] => some .fault
  | 7, [a, b, c, d] => some (.hello (BitVec.ofNat 32 (ofBytes [a, b, c, d])))
  | 8, fs => (readImage fs).map .confirm
  | 9, [a, b] => some (.parameterAnswer (BitVec.ofNat 16 (ofBytes [a, b])))
  | 10, [a, b] => some (.testEcho (BitVec.ofNat 16 (ofBytes [a, b])))
  | _, _ => none

/-- The message before its check, none where the check fails (R164, R195). -/
def checkedBody (bs : List Byte) : Option (List Byte) :=
  if 2 ≤ bs.length ∧ bs.drop (bs.length - 2) = be 2 (crc16 (bs.take (bs.length - 2))).toNat then
    some (bs.take (bs.length - 2))
  else none

/-- A reply as the controller reads it: its report number and report, none where it is garbled (R125, R195). -/
def readReply (bs : List Byte) : Option (Fin 16 × Report) :=
  match checkedBody bs with
  | some (h :: fields) =>
    (readFields (h.toNat / 16) fields).map fun r => (⟨h.toNat % 16, Nat.mod_lt _ (by decide)⟩, r)
  | _ => none

end Sys2Proof.Machine
end

