-- ==== Sys2Proof/Machine/LaneLink.lean ====
section
/-! DEFINITION. The Lane Link Controller: the cycle, the headers, the command of each slot, the replies, joining and loss, the
link test, and what a good report from an Active slot does (R87, R91, R94, R123 to R135). -/

namespace Sys2Proof.Machine

/-! ## Steps that come before the link goes on (log entry 4) -/

/-- An Active slot whose failure run has reached 4 is to be lost (R129). -/
def Slot.losing (k : Slot) : Bool := decide (k.link = .active) && decide (4 ≤ k.failureRun)

/-- A mate mark whose head's slot has carried two further reports is to be cleared (R89). -/
def Lane.mateDone (n : Lane) : Bool := match n.mate with | some m => decide (2 ≤ m.reports) | none => false

/-- The access in flight has had its three slots (R94). -/
def State.accessDone (s : State) : Bool :=
  match s.mge.phase with
  | .accessing _ a => decide (a.slots = some 3)
  | _ => false

/-- The cycles run have reached the cycle count of the test (R135). -/
def Link.testDone (k : Link) : Bool := match k.test with | some t => t.begun && decide (t.count ≤ k.cyclesRun) | none => false

/-- A loss, a mark, an access or a test is to be settled before the next part of the cycle. -/
def State.linkHeld (s : State) : Bool :=
  (allLanes.any fun l => (s.slot l).losing || (s.lane l).mateDone) || s.accessDone || s.link.testDone

/-- The link may send: it runs, does not stop, waits for no reply, and nothing holds it. -/
def State.mayDrive (s : State) : Bool := s.link.running && !s.link.stopping && !s.link.awaiting && !s.linkHeld

/-! ## The cycle and its headers (R123, R130 to R133) -/

/-- The automatic header of this cycle stands before the slot the cycle has reached (R132). -/
def Link.autoDue (k : Link) : Bool := decide (k.next < 16) && !k.autoDone && decide (k.autoAt = k.next)

/-- A triggered header stands in this gap: a trigger is pending, and the gap neither holds nor will hold a header (R133). -/
def Link.triggerDue (k : Link) : Bool := decide (k.next < 16) && k.trigger && !k.gapHeader && !k.autoDue

/-- A slot that is Lost becomes Absent at the start of a cycle (R128). -/
def Slot.cycled (k : Slot) : Slot := if k.link = .lost then { k with link := .absent } else k

/-- The link at the start of a later cycle, its parity apart (R123, R132, R134). -/
def Link.cycled (now : Nat) (k : Link) : Link :=
  { k with cycleStart := now, next := 0, gapHeader := false, autoDone := false, autoAt := k.settings.offset,
           slots := updAll k.slots Slot.cycled,
           test := k.test.map LinkTest.begins }

/-- The parity alternates, which may make triggers (R123, R133). -/
def State.flipParity (s : State) : State := s.flagging (State.modLink fun k => { k with parity := !k.parity })

/-- A new cycle starts once the last slot has ended and the period has passed (R123). -/
def State.startCycle (s : State) : State :=
  if s.mayDrive && decide (s.link.next = 16) then
    let t := s.reach (s.link.cycleStart + s.link.period)
    (t.modLink (Link.cycled t.now)).flipParity
  else s

/-- A header is sent under the settings in force, its Bank Word sampled now; it satisfies pending triggers (R131, R133). -/
def State.sendHeader (s : State) : State :=
  s.modLink fun k => { k with line := headerBytes k.settings s.bankWord, trigger := false, gapHeader := true }

/-- Pending header settings come into force (R130). -/
def Link.adoptSettings (k : Link) : Link :=
  match k.pendingSettings with
  | some h => { k with settings := h, pendingSettings := none }
  | none => k

/-- The automatic header (R132). -/
def State.sendAutomatic (s : State) : State :=
  if s.mayDrive && s.link.autoDue then ((s.modLink Link.adoptSettings).sendHeader).modLink fun k => { k with autoDone := true }
  else s

/-- A triggered header (R133). -/
def State.sendTriggered (s : State) : State := if s.mayDrive && s.link.triggerDue then s.sendHeader else s

/-! ## The command of a slot (R79, R124) -/

/-- A link test takes every Active slot (R134). -/
def Link.testing (k : Link) : Option (BitVec 16) :=
  match k.test with
  | some t => if t.begun then some t.word else none
  | none => none

/-- The Parameter command of the access in flight at a lane (R94). -/
def State.parameterOf (l : LaneNo) (s : State) : Option SlotCommand :=
  match s.mge.phase with
  | .accessing _ a => if a.lane = l then some (.parameter a.number a.write a.value) else none
  | _ => none

/-- The first due command of R79, or Poll. A Mode command carries the control image of this moment (log entry 51). A command that still waits is sent while the lane is QUERYING too (R55, log entry 13). -/
def State.dueCommand (l : LaneNo) (s : State) : SlotCommand :=
  let k := s.slot l
  match k.verdict, (if k.parameterDue then s.parameterOf l else none), k.modeDue, k.lamp with
  | some v, _, _, _ => .verdict v
  | none, some p, _, _ => p
  | none, none, true, _ => .mode (some (s.lane l).control)
  | none, none, false, some d => .lamp d
  | none, none, false, none => .poll false

/-- The command the slot carries (R124); none for a Lost slot, which no cycle reaches. -/
def State.slotCommand (l : LaneNo) (s : State) : Option SlotCommand :=
  let k := s.slot l
  if k.resetDue then some (.mode none)
  else match k.link with
    | .absent => some (.poll true)
    | .joining => some (.poll false)
    | .lost => none
    | .active =>
      match s.link.testing with
      | some w => some (.test w)
      | none => if k.repeatDue then some .again else some (s.dueCommand l)

/-- A command whose delivery is kept track of (R126); the reset indication is sent in an Absent slot. -/
def SlotCommand.tracked : SlotCommand → Bool
  | .verdict _ | .lamp _ | .mode (some _) | .parameter _ _ _ => true
  | .poll _ | .mode none | .again | .test _ => false

/-- The slot once its command is sent (R126, R127). -/
def Slot.sending (c : SlotCommand) (k : Slot) : Slot :=
  { k with
    sent := some c, repeatDue := false,
    repeatCount := (match c with | .again => k.repeatCount + 1 | _ => 0),
    outstanding := (match c with | .again => k.outstanding | _ => if c.tracked then some c else none),
    resetDue := (match c with | .mode none => false | _ => k.resetDue),
    verdict := (match c with | .verdict _ => none | _ => k.verdict),
    undelivered := (match c with | .verdict _ => false | _ => k.undelivered),
    parameterDue := (match c with | .parameter _ _ _ => false | _ => k.parameterDue),
    modeDue := (match c with | .mode (some _) => false | _ => k.modeDue),
    lamp := (match c with | .lamp _ => none | _ => k.lamp) }

/-- The timers that the sending of a verdict starts in the slot's own lane (R81, R85, log entry 13). -/
def Lane.timed (now : Nat) (c : SlotCommand) (n : Lane) : Lane :=
  match c, n.state with
  | .verdict (.grant _ w), .opened => { n with passTimer := some (now + w * 100) }
  | .verdict (.refuse t), .refusing | .verdict (.refer t), .refusing => { n with displayTimer := some (now + t * 100) }
  | _, _ => n

/-- The count of an access's slots begins with its Parameter command (R94). -/
def MgePhase.counting : MgePhase → MgePhase
  | .accessing h a => .accessing h { a with slots := some (a.slots.getD 0) }
  | p => p

/-- A command is sent in the slot, whose reply window opens (R123, R124). -/
def State.sendSlot (l : LaneNo) (c : SlotCommand) (s : State) : State :=
  let t := ((s.modSlot l (Slot.sending c)).modLane l (Lane.timed s.now c)).modLink
    fun k => { k with awaiting := true, line := commandBytes s.draws l c }
  (match c with
   | .parameter _ _ _ => t.modMge fun m => { m with phase := m.phase.counting }
   | _ => t).drawn

/-- The cycle has reached this lane's slot and no header stands before it (R123). -/
def State.slotReached (l : LaneNo) (s : State) : Bool :=
  s.mayDrive && decide (s.link.next = l.val) && !s.link.autoDue && !s.link.triggerDue

/-- The slot's command is sent where it is one of this kind (R124). -/
def State.sendIf (l : LaneNo) (kind : SlotCommand → Bool) (s : State) : State :=
  if s.slotReached l then
    match s.slotCommand l with
    | some c => if kind c then s.sendSlot l c else s
    | none => s
  else s

def SlotCommand.isPoll : SlotCommand → Bool | .poll _ => true | _ => false
def SlotCommand.isGrant : SlotCommand → Bool | .verdict (.grant _ _) => true | _ => false
def SlotCommand.isRefuse : SlotCommand → Bool | .verdict (.refuse _) => true | _ => false
def SlotCommand.isRefer : SlotCommand → Bool | .verdict (.refer _) => true | _ => false
def SlotCommand.isLamp : SlotCommand → Bool | .lamp _ => true | _ => false
def SlotCommand.isMode : SlotCommand → Bool | .mode _ => true | _ => false
def SlotCommand.isParameter : SlotCommand → Bool | .parameter _ _ _ => true | _ => false
def SlotCommand.isRepeat : SlotCommand → Bool | .again => true | _ => false
def SlotCommand.isTest : SlotCommand → Bool | .test _ => true | _ => false

/-! ## The end of a slot (R123, R136) -/

/-- One more of the access's three slots has ended at its lane (R94). -/
def MgePhase.slotEnded (l : LaneNo) : MgePhase → MgePhase
  | .accessing h a => if a.lane = l then .accessing h { a with slots := a.slots.map (· + 1) } else .accessing h a
  | p => p

/-- The link after a slot: the next part follows, and a cycle of a test counts when it ends (R123, R134). -/
def Link.slotEnded (l : LaneNo) (k : Link) : Link :=
  { k with awaiting := false, next := l.val + 1, gapHeader := false, slots := upd k.slots l fun x => { x with sent := none },
           cyclesRun := if l.val = 15 ∧ k.testing.isSome then k.cyclesRun + 1 else k.cyclesRun }

/-- The modes in which the link runs (R136). -/
def runsLink : BankMode → Bool
  | .service | .opened | .closing => true
  | .standby | .deep => false

/-- The slot in progress ends. A link that was to stop stops now, and starts anew where the bank has left the dormant mode
meanwhile (R136). -/
def State.endSlot (l : LaneNo) (s : State) : State :=
  let t := (s.modLink (Link.slotEnded l)).modMge fun m => { m with phase := m.phase.slotEnded l }
  if t.link.stopping then (if runsLink t.bcm.mode then t.stopLink.startLink else t.stopLink) else t

/-- The slot's reply window is open (R123). -/
def State.awaits (l : LaneNo) (s : State) : Bool := s.link.running && s.link.awaiting && decide (s.link.next = l.val)

/-! ## Joining and loss (R128, R129) -/

/-- An Active slot is lost: the slot, PRESENCE, the sequencer, and the access at the lane (R94, R129). -/
def State.loseSlot (l : LaneNo) (s : State) : State :=
  (((s.modSlot l (Slot.left .lost)).raise .presence (some l.val)).loseLane l).failAccess l

/-- A Joining slot becomes Active: PRESENCE, a Mode command, and the lane may enter IDLE (R78, R91, R128). -/
def State.joined (l : LaneNo) (s : State) : State :=
  (((s.modSlot l fun k => { k with link := .active, joinRun := 0 }).raise .presence (some l.val)).queueMode l).offerIdle l

/-- A Hello moves an Absent slot to Joining with its identity, and restarts the join run of a Joining one (R128). -/
def Slot.greeted (u : BitVec 32) (k : Slot) : Slot := { k with link := .joining, joinRun := 0, identity := some u }

/-! ## Delivery (R126) -/

/-- The lane stands under the verdict of an undelivered command (R126). -/
def Lane.under (v : VerdictCommand) (n : Lane) : Bool :=
  match v, n.state, n.result with
  | .grant _ _, .opened, _ => true
  | .refuse _, .refusing, some r => decide (r.verdict = .refuse)
  | .refer _, .refusing, some r => decide (r.verdict = .refer)
  | _, _, _ => false

/-- The outstanding command of a slot is undelivered and becomes due again, unless a later command replaced it or its verdict
no longer stands (R126); a verdict that waits again is discarded as soon as it stands no longer (`State.endVerdict`). A Parameter command whose access has ended is discarded (log entry 32). -/
def State.requeue (l : LaneNo) (c : SlotCommand) (s : State) : State :=
  match c with
  | .verdict v =>
    if (s.slot l).verdict.isNone && (s.lane (s.sequencer l)).under v then s.modSlot l (Slot.requeueVerdict v) else s
  | .lamp d => if (s.slot l).verdict.isNone && (s.slot l).lamp.isNone then s.modSlot l (Slot.queueLamp d) else s
  | .mode (some _) => s.queueMode l
  | .parameter _ _ _ => if (s.parameterOf l).isSome then s.modSlot l fun k => { k with parameterDue := true } else s
  | _ => s

/-- A duplicate in answer to a Repeat shows the outstanding command undelivered (R126). -/
def State.duplicate (l : LaneNo) (s : State) : State :=
  match (s.slot l).sent, (s.slot l).outstanding with
  | some .again, some c => (s.modSlot l fun k => { k with outstanding := none }).requeue l c
  | _, _ => s

/-! ## The link test (R135) -/

/-- A mismatch at the slot. -/
def Slot.mismatched (k : Slot) : Slot := { k with mismatches := sat16 k.mismatches }

/-- The slot carried Test. -/
def Slot.carriedTest (k : Slot) : Bool := match k.sent with | some (.test _) => true | _ => false

/-- The Test reply of a slot is judged while the test runs: a match is a Test Echo with the Test Word (R135). Once the test has
ended its counts are kept, and an echo is discarded (R125). -/
def State.judge (l : LaneNo) (r : Option Report) (s : State) : State :=
  match (s.slot l).sent with
  | some (.test w) =>
    if s.link.testing.isNone ∨ r = some (.testEcho w) then s else s.modSlot l Slot.mismatched
  | _ => s

/-! ## Reports handed on (R87, R91, R94, R125) -/

/-- A Confirm at its lane (R91). It ends the lane command in progress also where it answers the Mode command that was queued as
the unit became Active (log entry 41). -/
def State.confirm (l : LaneNo) (image : ControlImage) (s : State) : State :=
  let n := s.lane l
  let t := s.modLane l fun x => { x with confirmed := some image,
                                         commanding := if image = n.control then false else x.commanding }
  if image = n.control then (if n.commanding ∧ n.confirmed ≠ some image then t.raise .laneCommandDone (some l.val) else t)
  else t.queueMode l

/-- A Parameter Answer ends the access in flight whose Parameter command was sent (R94). -/
def State.answerAccess (l : LaneNo) (value : BitVec 16) (s : State) : State :=
  match s.mge.phase with
  | .accessing h a => if a.lane = l ∧ a.slots.isSome then s.endAccess h l (some value) else s
  | _ => s

/-- A new report from an Active slot goes where R125 says. -/
def State.handOn (l : LaneNo) (r : Report) (s : State) : State :=
  match r with
  | .nothing | .hello _ | .testEcho _ => s
  | .presentation p => s.present (s.sequencer l) p
  | .passage d | .forced d => s.rotation (s.sequencer l) l d
  | .reverse => s.reverse (s.sequencer l)
  | .button => s.raise .attention (some l.val)
  | .fault => s.raise .jam (some l.val)
  | .confirm image => s.confirm l image
  | .parameterAnswer v => s.answerAccess l v

/-- One more report that a marked head's slot has carried (R89, log entry 20). A rotation handed on leaves its own head
unmarked, so it is none of them. -/
def State.countMate (l : LaneNo) (s : State) : State :=
  if s.isMarked (s.sequencer l) l then
    s.modLane (s.sequencer l) fun n => { n with mate := n.mate.map fun m => { m with reports := m.reports + 1 } }
  else s

/-! ## Good replies (R125 to R129) -/

/-- The counts of a slot after any good reply, with the number taken (R125, R127, R128). -/
def Slot.heard (number : Fin 16) (k : Slot) : Slot :=
  { k with failureRun := 0, repeatCount := 0, repeatDue := false, lastNumber := some number }

/-- A good report other than Hello in an Active slot: judged, and handed on where it is new (R125, R126, R135). -/
def State.activeReport (l : LaneNo) (fresh : Bool) (r : Report) (s : State) : State :=
  let t := s.judge l (some r)
  if fresh then (t.modSlot l fun k => { k with outstanding := none }).handOn l r else t.duplicate l

/-- A good report other than Hello in a Joining slot (R128). -/
def State.joiningReport (l : LaneNo) (s : State) : State :=
  if 3 ≤ (s.slot l).joinRun + 1 then s.joined l else s.modSlot l fun k => { k with joinRun := k.joinRun + 1 }

/-- A good reply by the slot's link state (R128, R129). The Hello that loses an Active slot leaves its identity; a Hello in Absent or
Joining replaces it (log entry 49). In a slot that a lane reset has made Absent since its Test was sent it is
not judged (log entry 42). -/
def State.byLink (l : LaneNo) (fresh : Bool) (r : Report) (s : State) : State :=
  match (s.slot l).link, r with
  | .absent, .hello u | .joining, .hello u => s.modSlot l (Slot.greeted u)
  | .active, .hello _ => (s.judge l (some r)).loseSlot l
  | .absent, _ | .lost, _ => s
  | .joining, _ => s.joiningReport l
  | .active, _ => s.activeReport l fresh r

/-- A good reply acts by the slot's link state, and a new one counts in the life of a mate mark on the slot's head (R89). -/
def State.heard (l : LaneNo) (fresh : Bool) (r : Report) (s : State) : State :=
  if fresh then (s.byLink l fresh r).countMate l else s.byLink l fresh r

/-- The reply of the slot that carried the reset indication is discarded (R137). -/
def Slot.discards (k : Slot) : Bool := decide (k.sent = some (.mode none))

/-- A good reply arrives in the slot, and the slot ends (R123, R125). -/
def State.goodReply (l : LaneNo) (number : Fin 16) (r : Report) (s : State) : State :=
  if s.awaits l then
    (if (s.slot l).discards then s
     else ((s.modSlot l (Slot.heard number)).heard l (decide ((s.slot l).lastNumber ≠ some number)) r).settle).endSlot l
  else s

/-! ## Missing and garbled replies (R125, R127, R128, R135) -/

/-- A Joining slot after a failure: four in a row return it to Absent (R128), with the failure run 0 (log entry 40). -/
def Slot.joinFailed (k : Slot) : Slot :=
  if 4 ≤ k.failureRun + 1 then { k with link := .absent, failureRun := 0, joinRun := 0 }
  else { k with failureRun := k.failureRun + 1, joinRun := 0 }

/-- An Active slot after a failure: a Repeat is due while no test runs, the slot carried no Test and fewer than two were sent
(R127, R128, R135, log entry 27). -/
def Slot.failed (testing : Bool) (k : Slot) : Slot :=
  { k with failureRun := min 4 (k.failureRun + 1),
           repeatDue := !testing && !k.carriedTest && decide (k.repeatCount < 2) }

/-- A missing or garbled reply by the slot's link state. In an Absent slot it leaves the failure run as it is (log entry 40), and
is no mismatch where a lane reset has made the slot of a Test Absent (log entry 42). -/
def State.failure (l : LaneNo) (s : State) : State :=
  match (s.slot l).link with
  | .active => (s.judge l none).modSlot l (Slot.failed s.link.testing.isSome)
  | .joining => s.modSlot l Slot.joinFailed
  | .absent | .lost => s

/-- The reply window ends with no reply (R125). -/
def State.noReply (l : LaneNo) (s : State) : State :=
  if s.awaits l then (if (s.slot l).discards then s else s.failure l).endSlot l else s

/-- A garbled reply makes LANE_REPLY occur in a slot of any link state (R125). -/
def State.garbled (l : LaneNo) (s : State) : State :=
  if s.awaits l then
    (let t := s.errorOccurs .laneReply none []
     if (t.slot l).discards then t else t.failure l).endSlot l
  else s

/-- Bytes received in the slot: a garbled reply, or the good reply that they spell (R195). -/
def State.replyReceived (l : LaneNo) (bytes : List Byte) (s : State) : State :=
  match readReply bytes with
  | some (number, r) => s.goodReply l number r
  | none => s.garbled l

/-! ## The steps due between slots -/

/-- The loss of a slot whose failure run has reached 4 (R129). -/
def State.slotLost (l : LaneNo) (s : State) : State := if (s.slot l).losing then (s.loseSlot l).settle else s

/-- The mate mark of a wide lane clears after two further reports (R89). -/
def State.clearMate (l : LaneNo) (s : State) : State :=
  if (s.lane l).mateDone then s.modLane l fun n => { n with mate := none } else s

/-- The test ends as its last cycle ends (R135). -/
def State.testEnded (s : State) : State := if s.link.testDone then s.endTest else s

end Sys2Proof.Machine
end

