-- ==== Sys2Proof/Machine/LinkCommands.lean ====
section
/-! DEFINITION. The meanings of the Lane Link's commands: the cycle and its headers, the command of each slot, the replies, and the
steps due between slots (R123 to R135). -/

namespace Sys2Proof.Machine

/-- LANE_CYCLE_START: a new lane cycle starts (R123). -/
def execLaneCycleStart (s : State) : Host.Outcome State Fault Refusal := .next (s.startCycle)

/-- AUTOMATIC_HEADER: the cycle's automatic header is sent (R132). -/
def execAutomaticHeader (s : State) : Host.Outcome State Fault Refusal := .next (s.sendAutomatic)

/-- TRIGGERED_HEADER: a header reports a changed flag in the next free gap (R133). -/
def execTriggeredHeader (s : State) : Host.Outcome State Fault Refusal := .next (s.sendTriggered)

/-- POLL: the slot carries a Poll (R124). -/
def execPoll (l : LaneNo) (s : State) : Host.Outcome State Fault Refusal := .next (s.sendIf l SlotCommand.isPoll)

/-- GRANT_COMMAND: a Grant is sent, and the pass window timer starts (R81). -/
def execGrantCommand (l : LaneNo) (s : State) : Host.Outcome State Fault Refusal := .next (s.sendIf l SlotCommand.isGrant)

/-- REFUSE_COMMAND: a Refuse is sent, and the refusal display timer starts (R85). -/
def execRefuseCommand (l : LaneNo) (s : State) : Host.Outcome State Fault Refusal := .next (s.sendIf l SlotCommand.isRefuse)

/-- REFER_COMMAND: a Refer is sent, and the refusal display timer starts (R85). -/
def execReferCommand (l : LaneNo) (s : State) : Host.Outcome State Fault Refusal := .next (s.sendIf l SlotCommand.isRefer)

/-- LAMP_COMMAND: a Lamp command is sent (R124). -/
def execLampCommand (l : LaneNo) (s : State) : Host.Outcome State Fault Refusal := .next (s.sendIf l SlotCommand.isLamp)

/-- MODE_COMMAND: a Mode command with the control image, or the reset indication, is sent (R91, R124). -/
def execModeCommand (l : LaneNo) (s : State) : Host.Outcome State Fault Refusal := .next (s.sendIf l SlotCommand.isMode)

/-- PARAMETER_COMMAND: the Parameter command of the access in flight is sent (R94). -/
def execParameterCommand (l : LaneNo) (s : State) : Host.Outcome State Fault Refusal := .next (s.sendIf l SlotCommand.isParameter)

/-- REPEAT: the slot carries a Repeat (R127). -/
def execRepeatCommand (l : LaneNo) (s : State) : Host.Outcome State Fault Refusal := .next (s.sendIf l SlotCommand.isRepeat)

/-- TEST_COMMAND: an Active slot carries Test (R135). -/
def execTestCommand (l : LaneNo) (s : State) : Host.Outcome State Fault Refusal := .next (s.sendIf l SlotCommand.isTest)

/-- NOTHING_REPORT: a good Nothing arrives (R125). -/
def execNothingReport (l : LaneNo) (number : Fin 16) (s : State) : Host.Outcome State Fault Refusal := .next (s.goodReply l number .nothing)

/-- PRESENTATION_REPORT: a presentation reaches the lane's sequencer (R80). -/
def execPresentationReport (l : LaneNo) (number : Fin 16) (p : Presentation) (s : State) : Host.Outcome State Fault Refusal := .next (s.goodReply l number (.presentation p))

/-- PASSAGE_REPORT: a passage reaches the lane's sequencer (R81). -/
def execPassageReport (l : LaneNo) (number : Fin 16) (d : Direction) (s : State) : Host.Outcome State Fault Refusal := .next (s.goodReply l number (.passage d))

/-- REVERSE_REPORT: a reverse passage reaches the lane's sequencer (R82). -/
def execReverseReport (l : LaneNo) (number : Fin 16) (s : State) : Host.Outcome State Fault Refusal := .next (s.goodReply l number .reverse)

/-- FORCED_REPORT: a forced rotation reaches the lane's sequencer (R84). -/
def execForcedReport (l : LaneNo) (number : Fin 16) (d : Direction) (s : State) : Host.Outcome State Fault Refusal := .next (s.goodReply l number (.forced d))

/-- BUTTON_REPORT: ATTENTION is raised with the lane (R87). -/
def execButtonReport (l : LaneNo) (number : Fin 16) (s : State) : Host.Outcome State Fault Refusal := .next (s.goodReply l number .button)

/-- FAULT_REPORT: JAM is raised with the lane (R87). -/
def execFaultReport (l : LaneNo) (number : Fin 16) (s : State) : Host.Outcome State Fault Refusal := .next (s.goodReply l number .fault)

/-- HELLO_REPORT: an Absent slot moves to Joining, an Active slot is lost (R128, R129). -/
def execHelloReport (l : LaneNo) (number : Fin 16) (identity : BitVec 32) (s : State) : Host.Outcome State Fault Refusal := .next (s.goodReply l number (.hello identity))

/-- CONFIRM_REPORT: the confirmed image, and the end of a lane command (R91). -/
def execConfirmReport (l : LaneNo) (number : Fin 16) (image : ControlImage) (s : State) : Host.Outcome State Fault Refusal := .next (s.goodReply l number (.confirm image))

/-- PARAMETER_ANSWER: the access in flight ends OK with its value (R94). -/
def execParameterAnswer (l : LaneNo) (number : Fin 16) (value : BitVec 16) (s : State) : Host.Outcome State Fault Refusal := .next (s.goodReply l number (.parameterAnswer value))

/-- TEST_ECHO: a match or a mismatch against the Test Word (R135). -/
def execTestEcho (l : LaneNo) (number : Fin 16) (word : BitVec 16) (s : State) : Host.Outcome State Fault Refusal := .next (s.goodReply l number (.testEcho word))

/-- MISSING_REPLY: the reply window ends with no reply (R125, R127). -/
def execMissingReply (l : LaneNo) (s : State) : Host.Outcome State Fault Refusal := .next (s.noReply l)

/-- GARBLED_REPLY: bytes that no report spells arrive, and LANE_REPLY occurs (R125, R195). -/
def execGarbledReply (l : LaneNo) (bytes : List Byte) (s : State) : Host.Outcome State Fault Refusal := .next (s.replyReceived l bytes)

/-- SLOT_LOSS: an Active slot whose failure run is 4 is lost (R129). -/
def execSlotLoss (l : LaneNo) (s : State) : Host.Outcome State Fault Refusal := .next (s.slotLost l)

/-- MATE_MARK_CLEAR: the mate mark clears after two further reports (R89). -/
def execMateMarkClear (l : LaneNo) (s : State) : Host.Outcome State Fault Refusal := .next (s.clearMate l)

/-- LINK_TEST_END: the test ends with TEST_DONE (R135). -/
def execLinkTestEnd (s : State) : Host.Outcome State Fault Refusal := .next (s.testEnded)

end Sys2Proof.Machine
end

