-- ==== Sys2Proof/Machine/Layouts.lean ====
section
/-! DEFINITION. The bytes of trunk frames, admission records, event lists, the status report, and the read replies (R183, R184,
R187, R189, R192 to R194). Bytes that the manual leaves open are free values (log entry 1). -/

namespace Sys2Proof.Machine

/-! ## Trunk frames (R164, R189) -/

/-- A trunk frame: the fixed fields, the payload and the frame check. -/
def trunkFrame (dst src kind tag : Byte) (payload : List Byte) : List Byte :=
  withCheck ([dst, src, kind, tag] ++ be 2 payload.length ++ payload)

/-- The Source of every frame sent (R168). -/
def State.source (s : State) : Byte := match s.bank with | some b => bankByte b | none => 33

/-! ## Admission records and tally frames (R194) -/

/-- An admission record in 26 bytes. -/
def recordBytes (draw site : Nat) (e : Entry) : List Byte :=
  let a := e.admission
  be 4 e.seq ++ timeBytes a.time ++
    [bankByte a.bank, laneByte a.lane, byte (outcomeCode a.outcome), optByte (a.reason.map reasonCode),
     optByte (a.cls.map classCode)] ++
    optKeyBytes draw site a.key ++
    [zoneByte a.zone, match a.used with | some u => byte u | none => Config.freeByte draw (site + 10),
     byte (bit a.provisional + 2 * bit a.used.isSome)]

/-- Admission records one after another, each with sites of its own. -/
def recordsBytes (draw : Nat) : Nat → List Entry → List Byte
  | _, [] => []
  | site, e :: es => recordBytes draw site e ++ recordsBytes draw (site + 11) es

/-- The payload of a tally or an audit frame. -/
def tallyPayload (draw : Nat) (surge audit : Bool) (lost : Nat) (es : List Entry) : List Byte :=
  be 4 (match es with | e :: _ => e.seq | [] => 0) ++ be 1 es.length ++ [byte (bit surge + 2 * bit audit)] ++ be 2 lost ++
    recordsBytes draw 0 es

/-! ## Event lists (R183, R194) -/

/-- The causes of a set, most urgent first and by ascending number within one level (R183). -/
def Evu.ordered (e : Evu) (p : Fin 24 → Bool) : List (Fin 24) :=
  (List.range 8).flatMap fun v => (List.finRange 24).filter fun c => decide (e.level c = v) && p c

def Evu.isPending (e : Evu) (c : Fin 24) : Bool := (e.causes.get c).pending

/-- One entry of an event list. -/
def Evu.entryBytes (e : Evu) (c : Fin 24) : List Byte :=
  [byte c.val, byte (e.level c), byte (e.causes.get c).count, optByte (e.causes.get c).detail]

/-- A list of causes with its length. -/
def Evu.listBytes (e : Evu) (p : Fin 24 → Bool) : List Byte :=
  be 1 (e.ordered p).length ++ (e.ordered p).flatMap e.entryBytes

/-- The payload of an event frame, read as it is sent (R183). -/
def State.eventPayload (s : State) : List Byte :=
  [byte (modeCode s.bcm.mode)] ++ timeBytes s.eventTime ++
    s.evu.listBytes fun c => s.evu.isPending c && s.evu.reportable c

/-! ## The status report (R184, R194) -/

/-- The bank number, FF while unassigned. -/
def State.bankNumber (s : State) : Byte := optByte (s.bank.map (·.val))

/-- A set of up to 16 members as a number. -/
def setOf (n : Nat) (p : Nat → Bool) : Nat := (List.range n).foldl (fun a m => a + bit (p m) * 2 ^ m) 0

/-- The header settings block, 27 bytes. -/
def HeaderSettings.bytes (h : HeaderSettings) : List Byte :=
  be 1 h.count ++ h.words.toList.flatMap (fun w => be 2 w.toNat) ++ [byte (bit h.bankWord)] ++
    h.select.toList.map (fun f => byte (flagCode f)) ++ [h.rising, h.falling] ++ be 1 h.offset

def Zone.bytes (z : Zone) : List Byte :=
  be 2 z.quota ++ be 2 z.entered ++ be 1 z.held ++ be 2 z.scanOuts ++ be 1 z.condition

/-- The 16 zone entries, as Read Zones carries them (R69, R193). -/
def State.zonesBytes (s : State) : List Byte := s.zones.toList.flatMap Zone.bytes

def LaneCounts.bytes (c : LaneCounts) : List Byte :=
  be 2 c.presentations ++ be 2 c.grants ++ be 2 c.refusals ++ be 2 c.refers ++ be 2 c.busyDiscards ++
    be 2 c.tailgates ++ be 2 c.freeExits

/-- One lane of the status report, 25 bytes. A unit identity that is not known leaves its bytes open. -/
def laneBytes (draw site : Nat) (n : Lane) (k : Slot) : List Byte :=
  [byte (laneStateCode n.state), byte n.choice.val, optByte (n.inForce.map (·.index.val)),
   byte (bit n.profileMissing + 2 * bit k.identity.isSome)] ++
    n.counts.bytes ++ [byte (slotLinkCode k.link)] ++
    (match k.identity with | some u => be 4 u.toNat | none => openBytes draw site 4) ++ be 2 k.mismatches

def State.statusBank (s : State) : List Byte :=
  [s.bankNumber, byte (modeCode s.bcm.mode)] ++ timeBytes s.eventTime ++ [byte (bit s.bcm.surge.flag)] ++
    be 3 s.bcm.surge.estimate

def State.statusLanes (s : State) : List Byte :=
  allLanes.flatMap (fun l => laneBytes s.draws (4 * l.val) (s.lane l) (s.slot l)) ++ be 2 s.link.cyclesRun

def State.statusLink (s : State) : List Byte :=
  be 1 s.link.period ++ s.link.settings.bytes ++ [byte (bit s.link.pendingSettings.isSome)] ++
    (match s.link.pendingSettings with | some h => h.bytes | none => openBytes s.draws 64 27)

def Peer.bytes (p : Peer) : List Byte := [byte (128 * bit p.present + peerStateCode p.state), byte p.timeouts]

def State.statusPeers (s : State) : List Byte :=
  s.peers.entries.toList.flatMap Peer.bytes ++ [byte (bit s.degraded)] ++ be 2 s.peers.reconcile.length

def State.statusLog (s : State) : List Byte :=
  be 4 s.log.nextSeq ++ be 2 s.log.kept.length ++ be 2 s.log.undrained ++ be 2 s.log.write ++ be 2 s.log.drain ++
    be 2 s.log.oldest ++ be 2 s.log.lost ++ be 2 s.log.unlogged ++
    [byte (bit s.logFull + 2 * bit s.log.audit.isSome)] ++ be 2 s.log.auditSent ++ be 2 s.log.auditMissing

def State.statusTrunk (s : State) : List Byte := be 2 s.trunk.taken ++ be 2 s.trunk.foreign ++ be 2 s.trunk.unwanted

/-- The Detected flags as an error kind set. -/
def State.detectedSet (s : State) : Nat :=
  (List.finRange 14).foldl (fun a k => a + bit (s.evu.errors.get k).detected * 2 ^ k.val) 0

/-- The contents of a status report and of Read Status (R184). -/
def State.statusContents (s : State) : List Byte :=
  s.statusBank ++ (s.zonesBytes ++ [byte (bit s.anyZoneFull)]) ++ s.statusLanes ++ s.statusLink ++ s.statusPeers ++
    s.statusLog ++ s.statusTrunk ++ s.evu.listBytes s.evu.isPending ++ be 2 s.detectedSet

/-! ## Read Record and Read Errors (R30, R187, R192, R193) -/

/-- The revoke reason of a record, where it has one (R20). -/
def Record.revokeReason (r : Record) : Option (Fin 16) :=
  match r.state with
  | .revoked e => some e
  | .held h => h.revokePending
  | .resting _ => none

/-- A record in a 32-byte image (R192). -/
def Record.image (draw : Nat) (r : Record) : List Byte :=
  keyBytes r.key ++ [byte (classCode r.cls), byte r.allowance, bankByte r.home] ++ be 2 r.zones.toNat ++
    [byte (bit r.multiEvent + 2 * bit r.window.isSome + 4 + 8 * bit r.provisional + 16 * bit r.last.isSome)] ++
    (match r.window with | some w => be 3 w.opens ++ be 3 w.closes | none => openBytes draw 0 6) ++
    [byte (stateCode r.state), byte r.used, optByte (r.revokeReason.map (·.val))] ++
    (match r.last with
     | some x => timeBytes x.time ++ [bankByte x.bank, laneByte x.lane, zoneByte x.zone]
     | none => openBytes draw 6 6)

/-- The milliseconds remaining of a remote hold; more than two bytes carry leave them open. -/
def remaining (draw deadline now : Nat) : List Byte :=
  if deadline - now ≤ 65535 then be 2 (deadline - now) else openBytes draw 16 2

/-- The 7-byte hold part (R192). -/
def Record.holdPart (draw now : Nat) (r : Record) : List Byte :=
  match r.state with
  | .held h =>
    match h.holder with
    | .lane l z =>
      [byte (1 + 4 * bit h.revokePending.isSome), Config.freeByte draw 15, laneByte l, byte (restingCode h.prior),
       zoneByte z] ++ openBytes draw 16 2
    | .remote b l d =>
      [byte (3 + 4 * bit h.revokePending.isSome), bankByte b, laneByte l, byte (restingCode h.prior), 0xFF] ++
        remaining draw d now
  | _ => 0 :: openBytes draw 12 6

/-- The contents of a Read Record reply (R192). -/
def State.readRecord (k : Key) (s : State) : List Byte :=
  match s.lookup k with
  | some (i, r) => [0] ++ be 3 i ++ r.image s.draws ++ r.holdPart s.draws s.now
  | none => 1 :: keyBytes k

def ErrorEntry.bytes (e : ErrorEntry) : List Byte := [byte (bit e.detected + 2 * bit e.masked), byte e.count]

/-- First Error as its kind, event time and lane (R193). The lane byte is FF where it has no lane (DEDUCED, log entry 55). -/
def State.firstErrorBytes (s : State) : List Byte :=
  match s.evu.firstError with
  | some f => [byte (errorIndex f.kind).val] ++ timeBytes f.time ++ [optByte (f.lane.map (·.val))]
  | none => 0xFF :: openBytes s.draws 0 4

/-- The header log as its kind, its byte count and 16 bytes (R193). -/
def State.headerLogBytes (s : State) : List Byte :=
  match s.evu.headerLog with
  | some h => [byte (errorIndex h.kind).val] ++ be 1 h.bytes.length ++ h.bytes ++ openBytes s.draws 4 (16 - h.bytes.length)
  | none => 0xFF :: openBytes s.draws 4 17

/-- The contents of a Read Errors reply. -/
def State.readErrors (s : State) : List Byte :=
  s.evu.errors.toList.flatMap ErrorEntry.bytes ++ s.firstErrorBytes ++ s.headerLogBytes

end Sys2Proof.Machine
end

