-- ==== Sys2Proof/Machine/Reporting.lean ====
section
/-! DEFINITION. The Report Queue's producers and the arbiter: tally, audit, event and status frames, and the sending of a trunk
frame (R145 to R148, R168, R170 to R172, R182 to R184). -/

namespace Sys2Proof.Machine

/-- The Report Queue has room (R170). -/
def State.reportRoom (s : State) : Bool := decide (s.trunk.reportQ.length < Config.reportQueueSize)

/-- A frame enters the Report Queue and takes the report tag, which rises by 1 (R171). -/
def State.pushReport (kind : FrameKind) (body : Body) (s : State) : State :=
  s.modTrunk fun k => { k with reportQ := k.reportQ ++ [{ dst := 34, kind := kind, tag := k.reportTag, body := body }],
                               reportTag := k.reportTag + 1 }

/-! ## Tally frames (R145, R146) -/

/-- The records of the next tally frame: the oldest undrained, up to the effective batch (R146). -/
def State.tallyEntries (s : State) : List Entry := s.log.undrainedEntries.take (min s.log.undrained s.effectiveBatch)

/-- The records of a frame become drained (R146). -/
def Log.drained (n : Nat) (g : Log) : Log := { g with undrained := g.undrained - n }

/-- A tally frame is built: its records become drained, and the drain tests again (R146). -/
def State.buildTally (s : State) : State :=
  let es := s.tallyEntries
  (((s.pushReport .tally (.bytes (tallyPayload s.draws s.bcm.surge.flag false s.log.lost es))).drawn).flagging
    (State.modLog (Log.drained es.length))).drainTest

/-- The oldest undrained record reaches the hold time of the set in use (R145). -/
def State.holdExpiry (s : State) : State :=
  match s.log.undrainedEntries.head? with
  | some e => (s.reach (e.written + s.setInUse.hold)).drainTest
  | none => s

/-! ## Audit frames (R148) -/

/-- The record that the log keeps under a sequence number (R148). -/
def Log.entryAt (g : Log) (n : Nat) : Option Entry :=
  let d := (g.nextSeq + 2 ^ 32 - n % 2 ^ 32) % 2 ^ 32
  if 1 ≤ d ∧ d ≤ g.kept.length then g.kept[g.kept.length - d]? else none

/-- What one walk over the span finds. -/
structure AuditRead where
  found : List Entry
  position : Nat
  left : Nat
  missing : Nat
  deriving DecidableEq, Repr

/-- Read the span onward from `pos` over `left` numbers, up to `batch` present records (R148). -/
def auditRead (g : Log) : Nat → Nat → Nat → AuditRead
  | _, pos, 0 => { found := [], position := pos, left := 0, missing := 0 }
  | 0, pos, n + 1 => { found := [], position := pos, left := n + 1, missing := 0 }
  | b + 1, pos, n + 1 =>
    match g.entryAt pos with
    | some e =>
      let r := auditRead g b (nextSequence pos) n
      { r with found := e :: r.found }
    | none =>
      let r := auditRead g (b + 1) (nextSequence pos) n
      { r with missing := r.missing + 1 }

/-- The transfer ends: its counts are kept and AUDIT_DONE is raised (R147, R148). -/
def State.endAudit (sent missing : Nat) (s : State) : State :=
  (s.modLog fun g => { g with audit := none, auditSent := sent, auditMissing := missing }).raise .auditDone none

/-- An audit frame of the records found enters the Report Queue; one without records is not built (R148). -/
def State.pushAudit (es : List Entry) (s : State) : State :=
  match es with
  | [] => s
  | _ :: _ => (s.pushReport .audit (.bytes (tallyPayload s.draws s.bcm.surge.flag true s.log.lost es))).drawn

/-- The next audit frame of a running transfer, and the end of an exhausted span (R148). -/
def State.buildAudit (a : Audit) (s : State) : State :=
  let r := auditRead s.log s.effectiveBatch a.position a.left
  let t := s.pushAudit r.found
  let sent := a.sent + r.found.length
  let missing := a.missing + r.missing
  if r.left = 0 then t.endAudit sent missing
  else t.modLog fun g => { g with audit := some { position := r.position, left := r.left, sent := sent, missing := missing } }

/-! ## Event frames (R182) -/

/-- An event frame enters the Report Queue: report wanted clears and the holdoff starts (R182). -/
def State.placeEvent (s : State) : State :=
  (s.pushReport .event .eventList).modEvu fun e =>
    { e with wanted := false, holdoff := if e.holdoffTime = 0 then none else some (s.now + e.holdoffTime) }

/-- An event frame is placed where a report is wanted, the holdoff has run out, none is waiting and there is room (R182). -/
def State.tryEvent (s : State) : State :=
  if s.evu.wanted && s.evu.holdoff.isNone && !s.eventWaiting && s.reportRoom then s.placeEvent else s

/-- The holdoff timer runs out (R182). -/
def State.holdoffExpiry (s : State) : State :=
  match s.evu.holdoff with
  | some t => ((s.reach t).modEvu fun e => { e with holdoff := none }).tryEvent
  | none => s

/-! ## Status frames (R184) -/

/-- The status interval runs out: a report becomes due (R184). -/
def State.statusExpiry (s : State) : State :=
  match s.evu.statusTimer with
  | some t => (s.reach t).modEvu fun e => { e with statusTimer := none, statusDue := true }
  | none => s

/-- One part of a report enters the Report Queue; with the last part the timer restarts (R184). Every part but the last is full: the
max payload less its part byte (DESIGN CHOICE, log entry 54). -/
def State.placeStatus (part : Nat) (rest : List Byte) (s : State) : State :=
  let chunk := rest.take (s.trunk.maxPayload - 1)
  let more := rest.drop (s.trunk.maxPayload - 1)
  let t := s.pushReport .status (.bytes (byte (part % 128 + 128 * bit more.isEmpty) :: chunk))
  if more.isEmpty then
    t.modEvu fun e => { e with statusRest := none, statusDue := false,
                               statusTimer := some (s.now + e.statusInterval * 1000) }
  else t.modEvu fun e => { e with statusRest := some (part + 1, more) }

/-- A due status report's next part is placed where there is room; the report is read whole with its first part (R184). -/
def State.tryStatus (s : State) : State :=
  if s.reportRoom then
    match s.evu.statusRest with
    | some (part, rest) => s.placeStatus part rest
    | none => if s.evu.statusDue then (s.placeStatus 0 s.statusContents).drawn else s
  else s

/-! ## The arbiter (R172) -/

/-- What the arbiter chooses to send from. -/
inductive Choice where
  | peer | report | reply | wait
  deriving DecidableEq, Repr

/-- The choice between the Report and the Reply Queue (R172), by whether each holds a frame. -/
def Trunk.chooseLower (k : Trunk) : Choice :=
  match k.reportQ.isEmpty, k.replyQ.isEmpty, k.arbiter with
  | _, true, .reportOff => .wait
  | _, false, .reportOff => .reply
  | true, true, _ => .wait
  | true, false, _ => .reply
  | false, true, _ => .report
  | false, false, .roundRobin => if k.lastServed = some .report then .reply else .report
  | false, false, .weighted => if k.reportCount < k.weight then .report else .reply

/-- The arbiter's choice (R172). -/
def Trunk.choose (k : Trunk) : Choice := if k.peerQ.isEmpty then k.chooseLower else .peer

/-- The Report count after a frame of the Report or the Reply Queue, under WEIGHTED (R172). -/
def Trunk.counted (k : Trunk) (q : ServedQueue) : Nat :=
  match k.arbiter, q with
  | .weighted, .report => min k.weight (k.reportCount + 1)
  | .weighted, .reply => 0
  | _, _ => k.reportCount

/-- The payload of a waiting frame as its sending begins (R183). -/
def State.payloadOf (b : Body) (s : State) : List Byte :=
  match b with
  | .bytes p => p
  | .eventList => s.eventPayload

/-- The bytes of a frame as its sending begins (R164, R168). -/
def State.sentBytes (f : TxFrame) (s : State) : List Byte :=
  trunkFrame f.dst s.source (byte (kindCode f.kind)) f.tag (s.payloadOf f.body)

/-- The link is free and the arbiter's choice begins to be sent (R172); a Report frame that leaves makes room for the drain
(R145). -/
def State.sendFrame (s : State) : State :=
  match s.trunk.choose, s.trunk.peerQ, s.trunk.reportQ, s.trunk.replyQ with
  | .peer, f :: rest, _, _ => s.modTrunk fun k => { k with peerQ := rest, line := s.sentBytes f }
  | .report, _, f :: rest, _ =>
    (s.modTrunk fun k => { k with reportQ := rest, reportCount := k.counted .report, lastServed := some .report,
                                  line := s.sentBytes f }).drainTest
  | .reply, _, _, f :: rest =>
    s.modTrunk fun k => { k with replyQ := rest, reportCount := k.counted .reply, lastServed := some .reply,
                                 line := s.sentBytes f }
  | _, _, _, _ => s

end Sys2Proof.Machine
end

