-- ==== Sys2Proof/Machine/Management.lean ====
section
/-! DEFINITION. The Management Engine's frame of work: beginning the request at the head of the queue, the checks before the
request's own rule, the reply, and the requests that no type names (R173 to R175). -/

namespace Sys2Proof.Machine

/-- The request that the idle engine may begin (R173). -/
def State.nextRequest (s : State) : Option Request :=
  match s.mge.phase, s.mge.queue with
  | .idle, r :: _ => some r
  | _, _ => none

/-- A request leaves the queue as the engine begins it (R173). -/
def State.beginRequest (s : State) : State := s.modMge fun m => { m with queue := m.queue.tail }

/-- The modes in which a request is taken (R175). -/
inductive Taken where
  | active | service
  deriving DecidableEq, Repr

/-- Whether a request is taken in a bank mode (R175). -/
def Taken.holds (t : Taken) (m : BankMode) : Bool :=
  match t, m with
  | .service, .service => true
  | .service, _ => false
  | .active, .deep => false
  | .active, _ => true

/-- How the reply to a request is addressed (R168, R174). -/
def Request.head (r : Request) (code : Nat) : ReplyHead := { dst := r.src, tag := r.tag, code := code }

/-- Execute the request at the head of the queue where it is of type `code`: a payload too short is refused BAD_VALUE, a mode
in which it is not taken WRONG_MODE, and otherwise its own rule acts (R174, R175). A command whose request is not at the head,
or whose engine is not idle, does nothing. (Log entry 4.) -/
def State.serveWith {α : Type} (code : Nat) (m : Taken) (rd : Reader α) (act : ReplyHead → α → State → State)
    (s : State) : State :=
  match s.nextRequest with
  | none => s
  | some r =>
    if r.payload.head? = some (byte code) then
      let t := s.beginRequest
      match rd r.payload.tail with
      | none => t.sendReply (r.head code) (Reply.refuse .badValue)
      | some x =>
        if m.holds s.bcm.mode then act (r.head code) x.1 t else t.sendReply (r.head code) (Reply.refuse .wrongMode)
    else s

/-- A request that replies as soon as it has executed (R173). -/
def State.serve {α : Type} (code : Nat) (m : Taken) (rd : Reader α) (f : α → State → State × Reply) (s : State) : State :=
  s.serveWith code m rd fun h a t => (f a t).1.sendReply h (f a t).2

/-- No fields. -/
def Reader.noFields : Reader Unit := return ()

/-- A request of no known type, or without a type (R174). -/
def State.serveUnknown (s : State) : State :=
  match s.nextRequest with
  | none => s
  | some r =>
    match r.payload with
    | [] => s.beginRequest.sendReply (r.head 0) (Reply.refuse .badValue)
    | c :: _ =>
      if 1 ≤ c.toNat ∧ c.toNat ≤ 35 then s
      else (s.beginRequest.errorOccurs .unknownRequest none r.lead).sendReply (r.head c.toNat)
        { status := .unknownRequest, cause := .none, contents := [] }

/-- A reply waiting for room is placed when room comes (R173). -/
def State.placeReply (s : State) : State :=
  match s.mge.phase with
  | .replying r => s.placeParts (Config.replyQueueSize + 1) r
  | _ => s

end Sys2Proof.Machine
end

