-- ==== Sys2Proof/Machine/BankRequests.lean ====
section
/-! DEFINITION. The requests about the bank, its clock, its schedule and its mode: Identify, Assign Bank, Set Event, Set Clock, Set
Schedule, Set Bank Mode, Bank Reset, Set Wake Pattern (R151 to R160, R169, R176). -/

namespace Sys2Proof.Machine

/-! ## Identify (R176) -/

/-- A text with its length byte (R193). -/
def textBytes (bs : List Byte) : List Byte := be 1 bs.length ++ bs

def State.identity (s : State) : List Byte :=
  textBytes Config.familyName ++ textBytes Config.partName ++
    [Config.siliconRevision, s.bankNumber, byte (modeCode s.bcm.mode)] ++ be 2 s.trunk.maxPayload ++ be 2 s.table.buckets ++
    be 1 s.table.probe

def doIdentify (_ : Unit) (s : State) : State × Reply := (s, Reply.ok s.identity)

/-! ## Assign Bank (R169) -/

/-- The bank takes a number, and Degraded is computed without that number's entry (R98, R169). -/
def State.assign (b : BankNo) (s : State) : State := s.flagging fun t => { t with bank := some b }

def doAssignBank (n : Nat) (s : State) : State × Reply :=
  match toBank n with
  | some b => (s.assign b, Reply.ok [])
  | none => (s, Reply.refuse .badValue)

/-! ## Set Event (R152) -/

def doSetEvent (n : Nat) (s : State) : State × Reply :=
  if n = 0xFFFF then (s.modBcm fun b => { b with code := none }, Reply.ok [])
  else if 9999 < n then (s, Reply.refuse .badValue)
  else (s.modBcm fun b => { b with code := some n }, Reply.ok [])

/-! ## Set Clock (R151) -/

/-- The clock takes a value at once and advances a tenth of a second later (log entry 9). -/
def State.setClock (v : Nat) (s : State) : State :=
  (s.modBcm fun b => { b with clock := some v, tick := s.now + 100 }).scheduleAt v

def doSetClock (v : Nat) (s : State) : State × Reply :=
  if Config.dayTenths ≤ v then (s, Reply.refuse .badValue) else (s.setClock v, Reply.ok (be 3 v))

/-! ## Set Schedule (R153) -/

structure ScheduleFields where
  opening : Option Nat
  closing : Option Nat
  armed : Option Nat
  after : Option Nat
  deriving DecidableEq, Repr

def Reader.schedule : Reader ScheduleFields := do
  let mask ← Reader.nat 4
  let opening ← Reader.given mask 0 (Reader.nat 3)
  let closing ← Reader.given mask 1 (Reader.nat 3)
  let armed ← Reader.given mask 2 (Reader.nat 1)
  let after ← Reader.given mask 3 (Reader.nat 1)
  return { opening, closing, armed, after }

def doSetSchedule (f : ScheduleFields) (s : State) : State × Reply :=
  let old := s.bcm.schedule
  match chosenOr indicationOf old.armed f.armed, chosenOr restModeOf old.afterClose f.after with
  | some armed, some after =>
    let opening := f.opening.getD old.opening
    let closing := f.closing.getD old.closing
    if Config.dayTenths ≤ opening ∨ Config.dayTenths ≤ closing ∨ (opening = closing ∧ armed) then
      (s, Reply.refuse .badValue)
    else
      (s.modBcm fun b => { b with schedule := { opening := opening, closing := closing, armed := armed,
                                                afterClose := after } }, Reply.ok [])
  | _, _ => (s, Reply.refuse .badValue)

/-! ## Set Bank Mode (R156 to R159) -/

/-- Entry to OPEN from SERVICE or STANDBY, with its checks (R156). -/
def State.requestOpen (causes : List Cause) (s : State) : State × Reply :=
  if s.bank = none then (s, Reply.refuse .notAssigned)
  else if s.bcm.clock = none then (s, Reply.refuse .clockUnset)
  else ((s.enterOpen causes).settle, Reply.ok [])

/-- A dormant entry by request (R158). -/
def State.requestDormant (m : RestMode) (s : State) : State × Reply :=
  if s.wakePending then (s, Reply.refuse .pending) else (s.enterDormant m, Reply.ok [])

/-- A dormant mode recorded while the bank is CLOSING (R157). -/
def State.recordDormant (m : RestMode) (s : State) : State × Reply :=
  (s.modBcm fun b => { b with requested := some m }, Reply.ok [])

/-- The table of R156, by the mode in force and the target. -/
def State.requestMode (target : BankMode) (s : State) : State × Reply :=
  match s.bcm.mode, target with
  | .service, .service | .opened, .opened | .closing, .closing | .standby, .standby => (s, Reply.ok [])
  | .service, .opened => s.requestOpen []
  | .service, .standby => s.requestDormant .standby
  | .service, .deep => s.requestDormant .deep
  | .opened, .closing => (s.enterClosing [], Reply.ok [])
  | .closing, .opened => ((s.enterOpen []).settle, Reply.ok [])
  | .closing, .standby => s.recordDormant .standby
  | .closing, .deep => s.recordDormant .deep
  | .standby, .service => (s.leaveStandby, Reply.ok [])
  | .standby, .opened => s.requestOpen [.wake]
  | .standby, .deep => s.requestDormant .deep
  | _, _ => (s, Reply.refuse .wrongMode)

def doSetBankMode (n : Nat) (s : State) : State × Reply :=
  match modeOf n with
  | some m => s.requestMode m
  | none => (s, Reply.refuse .badValue)

/-! ## Bank Reset (R176) -/

def doBankResetRequest (_ : Unit) (s : State) : State × Reply := (s.doBankReset, Reply.ok [])

/-! ## Set Wake Pattern (R160) -/

structure WakeFields where
  offset : Nat
  pattern : List Byte
  deriving DecidableEq, Repr

def Reader.wake : Reader WakeFields := do
  let offset ← Reader.nat 1
  let pattern ← Reader.text
  return { offset, pattern }

def doSetWakePattern (f : WakeFields) (s : State) : State × Reply :=
  if f.pattern.isEmpty ∨ 16 < f.pattern.length then (s, Reply.refuse .badValue)
  else
    let o := clamped 0 63 f.offset
    (s.modBcm fun b => { b with wakeOffset := o.value, wakePattern := f.pattern }, Reply.applied o.changed (be 1 o.value))

end Sys2Proof.Machine
end

