-- ==== Sys2Proof/Machine/LaneRequests.lean ====
section
/-! DEFINITION. The requests about the Policy Store and the lanes: Set Profile Count, Write Profile, Write Template, Set Lane
Profile Choice, Set Lane Control, Lane Parameter Access, Lane Link Test, Set Link Header, Clear Counts (R3, R5, R76, R90, R91,
R94, R95, R130, R134). -/

namespace Sys2Proof.Machine

def toProfile (n : Nat) : Option (Fin 8) := if h : n < 8 then some ⟨n, h⟩ else none

/-! ## Set Profile Count (R5) -/

/-- The store under a new profile count: every template Unloaded, the profiles kept below both counts, the others at the
defaults (R5). -/
def Policy.recount (np : Nat) (p : Policy) : Policy :=
  { np := np, templates := Vector.replicate 16 none,
    profiles := Vector.ofFn fun i => if i.val < min p.np np then p.profiles.get i else Profile.default }

def Policy.anyLoaded (p : Policy) : Bool := p.templates.toList.any (·.isSome)

/-- A lane meets a new profile count: while CLOSED it adopts at once, and an IDLE lane whose choice is now at or above NP is
closed (R5, R77, log entry 15). -/
def State.recountLane (l : LaneNo) (s : State) : State :=
  match (s.lane l).state with
  | .closed => s.tryIdle l
  | .idle => if s.policy.np ≤ (s.lane l).choice.val then s.rest l else s
  | _ => s

def State.changeCount (np : Nat) (s : State) : State :=
  let t := s.modPolicy (Policy.recount np)
  let u := if s.policy.anyLoaded then t.errorOccurs .templateVoid none [] else t
  (u.eachLane State.recountLane).settle

def doSetProfileCount (n : Nat) (s : State) : State × Reply :=
  let c := clamped 1 8 n
  (if c.value = s.policy.np then s else s.changeCount c.value, Reply.applied c.changed (be 1 c.value))

/-! ## Write Profile (R75, R76) -/

structure ProfileFields where
  index : Nat
  direction : Nat
  zones : Nat
  templates : Nat
  cards : Nat
  window : Nat
  display : Nat
  cooldown : Nat
  refer : Nat
  offline : Nat
  deriving DecidableEq, Repr

def Reader.profile : Reader ProfileFields := do
  let index ← Reader.nat 1
  let direction ← Reader.nat 1
  let zones ← Reader.nat 2
  let templates ← Reader.nat 2
  let cards ← Reader.nat 1
  let window ← Reader.nat 2
  let display ← Reader.nat 1
  let cooldown ← Reader.nat 2
  let refer ← Reader.nat 3
  let offline ← Reader.nat 1
  return { index, direction, zones, templates, cards, window, display, cooldown, refer, offline }

/-- The profile contents as a CLAMPED reply carries them (R76, R193). -/
def Profile.bytes (p : Profile) : List Byte :=
  [byte (laneDirectionCode p.direction)] ++ be 2 p.zones.toNat ++ be 2 p.templates.toNat ++ [byte (bit p.cards)] ++
    be 2 p.passWindow ++ be 1 p.display ++ be 2 p.cooldown ++ be 3 p.refer.toNat ++ be 1 p.offline.toNat

/-- The contents applied: the pass window 2 to 30 s, the display time 0.5 to 5 s, the cooldown 0 to 600 s; the bits that name
nothing are ignored (R76, R196). -/
def ProfileFields.applied (f : ProfileFields) (d : LaneDirection) (cards : Bool) : Profile :=
  { direction := d, zones := BitVec.ofNat 16 f.zones, templates := BitVec.ofNat 16 f.templates, cards := cards,
    passWindow := clamp 20 300 f.window, display := clamp 5 50 f.display, cooldown := clamp 0 600 f.cooldown,
    refer := BitVec.ofNat 17 f.refer, offline := BitVec.ofNat 4 f.offline }

/-- Some value of the contents was clamped (R76). -/
def ProfileFields.changed (f : ProfileFields) : Bool :=
  (clamped 20 300 f.window).changed || (clamped 5 50 f.display).changed || (clamped 0 600 f.cooldown).changed

/-- The lanes that chose this profile adopt it while CLOSED or IDLE (R77), also where the contents written are those it held (log
entry 15). -/
def State.writtenProfile (p : Fin 8) (l : LaneNo) (s : State) : State :=
  if (s.lane l).choice = p then s.readopt l else s

def State.storeProfile (p : Fin 8) (x : Profile) (s : State) : State :=
  ((s.modPolicy fun q => { q with profiles := upd q.profiles p fun _ => x }).eachLane (State.writtenProfile p)).settle

def doWriteProfile (f : ProfileFields) (s : State) : State × Reply :=
  match toProfile f.index with
  | none => (s, Reply.refuse .badValue)
  | some p =>
    if s.policy.np ≤ p.val then (s, Reply.refuse .noRoom)
    else match laneDirectionOf f.direction, indicationOf f.cards with
      | some d, some c => (s.storeProfile p (f.applied d c), Reply.applied f.changed (f.applied d c).bytes)
      | _, _ => (s, Reply.refuse .badValue)

/-! ## Write Template (R2, R3) -/

structure TemplateFields where
  lenMin : Nat
  lenMax : Nat
  marker : List Byte
  markerAt : Nat
  eventAt : Nat
  eventLen : Nat
  serialAt : Nat
  serialLen : Nat
  checkAt : Nat
  checkLen : Nat
  deriving DecidableEq, Repr

def Reader.contents : Reader TemplateFields := do
  let lenMin ← Reader.nat 1
  let lenMax ← Reader.nat 1
  let marker ← Reader.text
  let markerAt ← Reader.nat 1
  let eventAt ← Reader.nat 1
  let eventLen ← Reader.nat 1
  let serialAt ← Reader.nat 1
  let serialLen ← Reader.nat 1
  let checkAt ← Reader.nat 1
  let checkLen ← Reader.nat 1
  return { lenMin, lenMax, marker, markerAt, eventAt, eventLen, serialAt, serialLen, checkAt, checkLen }

structure TemplateRequest where
  index : Nat
  load : Nat
  contents : Option TemplateFields
  deriving DecidableEq, Repr

/-- The fields of Write Template: the load byte stands before the contents (log entry 35). -/
def Reader.template : Reader TemplateRequest := do
  let index ← Reader.nat 1
  let load ← Reader.nat 1
  let contents ← if load = 1 then some <$> Reader.contents else pure none
  return { index, load, contents }

/-- The values that R3 refuses in a template. -/
def TemplateFields.bad (f : TemplateFields) : Bool :=
  (decide (f.eventLen ≠ 0) && decide (f.eventLen ≠ 4)) || (decide (f.checkLen ≠ 0) && decide (f.checkLen ≠ 2)) ||
    decide (4 < f.marker.length) || !f.marker.all legalChar

/-- The contents with the range fields at their limits (R3). -/
def TemplateFields.applied (f : TemplateFields) : Template :=
  { lenMin := clamp 4 48 f.lenMin, lenMax := clamp 4 48 f.lenMax, marker := f.marker, markerAt := clamp 0 47 f.markerAt,
    eventAt := clamp 0 47 f.eventAt, eventLen := f.eventLen, serialAt := clamp 0 47 f.serialAt,
    serialLen := clamp 4 14 f.serialLen, checkAt := clamp 0 47 f.checkAt, checkLen := f.checkLen }

def TemplateFields.changed (f : TemplateFields) : Bool :=
  (clamped 4 48 f.lenMin).changed || (clamped 4 48 f.lenMax).changed || (clamped 0 47 f.markerAt).changed ||
    (clamped 0 47 f.eventAt).changed || (clamped 0 47 f.serialAt).changed || (clamped 4 14 f.serialLen).changed ||
    (clamped 0 47 f.checkAt).changed

/-- The template contents as a CLAMPED reply carries them (R3, R193). -/
def Template.bytes (t : Template) : List Byte :=
  be 1 t.lenMin ++ be 1 t.lenMax ++ be 1 t.marker.length ++ t.marker ++ be 1 t.markerAt ++ be 1 t.eventAt ++
    be 1 t.eventLen ++ be 1 t.serialAt ++ be 1 t.serialLen ++ be 1 t.checkAt ++ be 1 t.checkLen

def State.setTemplate (i : Fin 16) (t : Option Template) (s : State) : State :=
  s.modPolicy fun p => { p with templates := upd p.templates i fun _ => t }

/-- The load of a template with its checks and clamps (R3). -/
def State.loadTemplate (i : Fin 16) (f : TemplateFields) (s : State) : State × Reply :=
  if f.bad then (s, Reply.refuse .badValue)
  else if f.applied.lenMax < f.applied.lenMin then (s, Reply.refuse .badValue)
  else (s.setTemplate i (some f.applied), Reply.applied f.changed f.applied.bytes)

/-- Write Template, in the order of R3. A load byte that is neither 0 nor 1 is refused where an unload would act (R196, log entry
35). -/
def doWriteTemplate (r : TemplateRequest) (s : State) : State × Reply :=
  if h : r.index < 16 then
    if usableTemplates s.policy.np ≤ r.index then (s, Reply.refuse .noRoom)
    else match r.contents with
      | some f => s.loadTemplate ⟨r.index, h⟩ f
      | none => if r.load = 0 then (s.setTemplate ⟨r.index, h⟩ none, Reply.ok []) else (s, Reply.refuse .badValue)
  else (s, Reply.refuse .badValue)

/-! ## Set Lane Profile Choice (R76) -/

structure ChoiceFields where
  lane : Nat
  index : Nat
  deriving DecidableEq, Repr

def Reader.choice : Reader ChoiceFields := do
  let lane ← Reader.nat 1
  let index ← Reader.nat 1
  return { lane, index }

/-- A lane's choice changes, and the lane adopts while CLOSED or IDLE (R77). -/
def State.choose (l : LaneNo) (p : Fin 8) (s : State) : State :=
  if (s.lane l).choice = p then s else ((s.modLane l fun n => { n with choice := p }).readopt l).settle

def doSetLaneProfileChoice (f : ChoiceFields) (s : State) : State × Reply :=
  match toLane f.lane, toProfile f.index with
  | some l, some p => (s.choose l p, Reply.ok [])
  | _, _ => (s, Reply.refuse .badValue)

/-! ## Set Lane Control (R90 to R92) -/

structure ControlFields where
  lane : Nat
  lamps : Option (List Nat)
  override : Option Nat
  power : Option Nat
  combine : Option Nat
  reset : Option Nat
  deriving DecidableEq, Repr

def Reader.control : Reader ControlFields := do
  let lane ← Reader.nat 1
  let mask ← Reader.nat 4
  let lamps ← Reader.given mask 0 (Reader.many (Reader.nat 1) 3)
  let override ← Reader.given mask 1 (Reader.nat 1)
  let power ← Reader.given mask 2 (Reader.nat 1)
  let combine ← Reader.given mask 3 (Reader.nat 1)
  let reset ← Reader.given mask 4 (Reader.nat 1)
  return { lane, lamps, override, power, combine, reset }

/-- The lamp overrides of a request, or those in the image; none where a code lies outside its list. -/
def ControlFields.lampsOr (f : ControlFields) (c : ControlImage) : Option (LampOverride × LampOverride × LampOverride) :=
  match f.lamps with
  | some [g, r, a] =>
    match lampOf g, lampOf r, lampOf a with
    | some g, some r, some a => some (g, r, a)
    | _, _, _ => none
  | some _ => none
  | none => some (c.green, c.red, c.amber)

/-- The control image as the request leaves it, none where a value lies outside its range (R90). -/
def ControlFields.image (f : ControlFields) (c : ControlImage) : Option ControlImage :=
  match f.lampsOr c, chosenOr overrideOf c.override f.override, chosenOr indicationOf c.power f.power,
      chosenOr indicationOf c.combine f.combine with
  | some (g, r, a), some d, some p, some m => some { green := g, red := r, amber := a, override := d, power := p, combine := m }
  | _, _, _, _ => none

/-- The combine field sets the requested setting of the pair (R88). -/
def State.requestCombine (l : LaneNo) (f : Option Nat) (c : Bool) (s : State) : State :=
  match f with
  | some _ => { s with pairs := upd s.pairs (pairOf l) fun q => { q with requested := c } }
  | none => s

/-- A request for a lane whose unit is Active starts or joins its lane command and queues a Mode command (R91). -/
def State.commandLane (l : LaneNo) (s : State) : State :=
  if (s.slot l).link = .active then (s.modLane l fun n => { n with commanding := true }).queueMode l else s

/-- The fields of a request take effect in the order of R90, the lane reset last. -/
def State.controlLane (l : LaneNo) (f : ControlFields) (c : ControlImage) (reset : Bool) (s : State) : State :=
  let old := (s.lane l).control
  let t := ((s.modLane l fun n => { n with control := c }).requestCombine l f.combine c.combine).commandLane l
  let u := (if old.override ≠ c.override ∨ old.power ≠ c.power then t.readopt l else t).settle
  if reset then (u.resetLane l).settle else u

def doSetLaneControl (f : ControlFields) (s : State) : State × Reply :=
  match toLane f.lane with
  | none => (s, Reply.refuse .badValue)
  | some l =>
    match f.image (s.lane l).control, chosenOr indicationOf false f.reset with
    | some c, some reset =>
      let t := s.controlLane l f c reset
      (t, Reply.ok [byte (slotLinkCode (t.slot l).link)])
    | _, _ => (s, Reply.refuse .badValue)

/-! ## Lane Parameter Access (R94) -/

structure AccessFields where
  lane : Nat
  number : Nat
  write : Nat
  value : Nat
  deriving DecidableEq, Repr

def Reader.access : Reader AccessFields := do
  let lane ← Reader.nat 1
  let number ← Reader.nat 1
  let write ← Reader.nat 1
  let value ← if write = 1 then Reader.nat 2 else pure 0
  return { lane, number, write, value }

/-- The access begins, or ends at once where the unit is not Active or a link test is in progress (R94, R134). -/
def State.beginAccess (h : ReplyHead) (a : Access) (s : State) : State :=
  if (s.slot a.lane).link ≠ .active ∨ s.link.test.isSome then s.endAccess h a.lane none
  else (s.modSlot a.lane fun k => { k with parameterDue := true }).setPhase (.accessing h a)

def actLaneParameterAccess (h : ReplyHead) (f : AccessFields) (s : State) : State :=
  match toLane f.lane, indicationOf f.write with
  | some l, some w =>
    if 63 < f.number then s.sendReply h (Reply.refuse .badValue)
    else s.beginAccess h { lane := l, number := f.number, write := w, value := BitVec.ofNat 16 f.value, slots := none }
  | _, _ => s.sendReply h (Reply.refuse .badValue)

/-- No Parameter Answer came in the three slots: the access ends FAILED (R94). -/
def State.accessTimeout (s : State) : State :=
  match s.mge.phase with
  | .accessing h a => if a.slots = some 3 then s.endAccess h a.lane none else s
  | _ => s

/-! ## Lane Link Test (R134) -/

structure TestFields where
  count : Nat
  word : Nat
  deriving DecidableEq, Repr

def Reader.test : Reader TestFields := do
  let count ← Reader.nat 2
  let word ← Reader.nat 2
  return { count, word }

/-- A test is set up: its results become 0 (R134). -/
def State.setUpTest (count : Nat) (word : BitVec 16) (s : State) : State :=
  s.modLink fun k => { k with test := some { count := count, word := word, begun := false }, cyclesRun := 0,
                              slots := updAll k.slots fun x => { x with mismatches := 0 } }

/-- Lane Link Test: BUSY from the moment a test is set up (R134, log entry 32). -/
def doLaneLinkTest (f : TestFields) (s : State) : State × Reply :=
  if s.link.test.isSome then (s, Reply.busy)
  else
    let c := clamped 1 65535 f.count
    (s.setUpTest c.value (BitVec.ofNat 16 f.word), Reply.applied c.changed (be 2 c.value))

/-! ## Set Link Header (R123, R130) -/

structure HeaderFields where
  count : Option Nat
  words : Option (List Nat)
  bankWord : Option Nat
  select : Option (List Nat)
  rising : Option Nat
  falling : Option Nat
  offset : Option Nat
  period : Option Nat
  deriving DecidableEq, Repr

def Reader.header : Reader HeaderFields := do
  let mask ← Reader.nat 4
  let count ← Reader.given mask 0 (Reader.nat 1)
  let words ← Reader.given mask 1 (Reader.many (Reader.nat 2) 7)
  let bankWord ← Reader.given mask 2 (Reader.nat 1)
  let select ← Reader.given mask 3 (Reader.many (Reader.nat 1) 8)
  let rising ← Reader.given mask 4 (Reader.nat 1)
  let falling ← Reader.given mask 5 (Reader.nat 1)
  let offset ← Reader.given mask 6 (Reader.nat 1)
  let period ← Reader.given mask 7 (Reader.nat 1)
  return { count, words, bankWord, select, rising, falling, offset, period }

/-- Some header setting, as against the cycle period, is given. -/
def HeaderFields.any (f : HeaderFields) : Bool :=
  f.count.isSome || f.words.isSome || f.bankWord.isSome || f.select.isSome || f.rising.isSome || f.falling.isSome ||
    f.offset.isSome

/-- A list of numbers as a table of n entries, entries past the list's end keeping the value in force. -/
def tableOf {α : Type} {n : Nat} (now : Vector α n) (xs : List α) : Vector α n :=
  Vector.ofFn fun i => xs.getD i.val (now.get i)

/-- The position selections of a request, none where one names no flag source (R130). -/
def HeaderFields.selectOr (f : HeaderFields) (h : HeaderSettings) : Option (Vector FlagSource 8) :=
  match f.select with
  | some xs => (xs.mapM flagOf).map (tableOf h.select)
  | none => some h.select

/-- The word count applied: 0 to 7, and 1 where the header would be empty (R130). -/
def HeaderFields.countOf (f : HeaderFields) (h : HeaderSettings) (bankWord : Bool) : Nat :=
  let c := (clampedOr 0 7 h.count f.count).value
  if c = 0 ∧ !bankWord then 1 else c

/-- The header settings as the request leaves them. -/
def HeaderFields.applied (f : HeaderFields) (h : HeaderSettings) (bankWord : Bool) (sel : Vector FlagSource 8) :
    HeaderSettings :=
  { count := f.countOf h bankWord,
    words := match f.words with | some xs => tableOf h.words (xs.map (BitVec.ofNat 16)) | none => h.words,
    bankWord := bankWord, select := sel,
    rising := match f.rising with | some n => BitVec.ofNat 8 n | none => h.rising,
    falling := match f.falling with | some n => BitVec.ofNat 8 n | none => h.falling,
    offset := (clampedOr 0 15 h.offset f.offset).value }

/-- Some value of the request was clamped, the count of an empty header among them (R130). -/
def HeaderFields.changed (f : HeaderFields) (h : HeaderSettings) (bankWord : Bool) (period : Nat) : Bool :=
  (clampedOr 0 7 h.count f.count).changed || decide (f.countOf h bankWord ≠ (clampedOr 0 7 h.count f.count).value) ||
    (clampedOr 0 15 h.offset f.offset).changed || (clampedOr 2 20 period f.period).changed

def doSetLinkHeader (f : HeaderFields) (s : State) : State × Reply :=
  let h := s.link.pendingSettings.getD s.link.settings
  match chosenOr indicationOf h.bankWord f.bankWord, f.selectOr h with
  | some bw, some sel =>
    let x := f.applied h bw sel
    let p := (clampedOr 2 20 s.link.period f.period).value
    (s.modLink fun k => { k with pendingSettings := if f.any then some x else k.pendingSettings, period := p },
     Reply.applied (f.changed h bw s.link.period) (x.bytes ++ be 1 p))
  | _, _ => (s, Reply.refuse .badValue)

/-! ## Clear Counts (R95) -/

def State.clearLaneCounts (n : Nat) (l : LaneNo) (s : State) : State :=
  if n.testBit l.val then s.modLane l fun x => { x with counts := LaneCounts.zero } else s

def doClearCounts (n : Nat) (s : State) : State × Reply :=
  if n = 0 then (s, Reply.refuse .badValue) else (s.eachLane (State.clearLaneCounts n), Reply.ok [])

end Sys2Proof.Machine
end

