-- ==== Sys2Proof/Machine/SettingRequests.lean ====
section
/-! DEFINITION. The requests about zones, peers, reporting, events, errors and the log: Set Zone Quota, Reset Zone Counts, Read
Zones, Set Peer, Set Reporting, Set Event Levels, Read Log, Read Status, Read Errors, Clear Errors, Clear Events (R67 to R69,
R99, R143, R144, R147, R162, R166, R172, R177, R181, R184, R187). -/

namespace Sys2Proof.Machine

/-! ## Zones (R67 to R69) -/

structure QuotaFields where
  zone : Nat
  quota : Nat
  deriving DecidableEq, Repr

def Reader.quota : Reader QuotaFields := do
  let zone ← Reader.nat 1
  let quota ← Reader.nat 2
  return { zone, quota }

/-- The quota applied: at most 65,535, and at least the zone's Entered + Held (R67). -/
def quotaOf (z : Zone) (v : Nat) : Nat := max (min v 65535) (z.entered + z.held)

/-- The zone takes the quota; ZONE_FULL is raised where it is now full and was not (R67, R70). -/
def State.setQuota (z : ZoneNo) (q : Nat) (s : State) : State :=
  let t := s.modZone z fun x => { x with quota := q }
  if (s.zone z).full then t else t.reportFull z

def doSetZoneQuota (f : QuotaFields) (s : State) : State × Reply :=
  match toZone f.zone with
  | none => (s, Reply.refuse .badValue)
  | some z =>
    let x := s.zone z
    let q := quotaOf x f.quota
    (s.setQuota z q, Reply.listed (decide (q ≠ f.quota)) (zoneByte (some z) :: be 2 q ++ be 2 x.entered ++ be 1 x.held))

/-- Reset one zone of the set (R68). -/
def State.resetZone (n : Nat) (s : State) (z : ZoneNo) : State :=
  if n.testBit z.val then s.modZone z Zone.countsReset else s

/-- The Entered and ScanOuts values that the reset removes, for each zone of the set, by ascending
number (R68, log entry 38). -/
def State.removedCounts (n : Nat) (s : State) : List Byte :=
  allZones.flatMap fun z => if n.testBit z.val then be 2 (s.zone z).entered ++ be 2 (s.zone z).scanOuts else []

def doResetZoneCounts (n : Nat) (s : State) : State × Reply :=
  if n = 0 then (s, Reply.refuse .badValue) else (allZones.foldl (State.resetZone n) s, Reply.ok (s.removedCounts n))

def doReadZones (_ : Unit) (s : State) : State × Reply := (s, Reply.ok s.zonesBytes)

/-! ## Set Peer (R99) -/

structure PeerFields where
  bank : Nat
  presence : Option Nat
  downAfter : Option Nat
  timeout : Option Nat
  hold : Option Nat
  deriving DecidableEq, Repr

def Reader.peer : Reader PeerFields := do
  let bank ← Reader.nat 1
  let mask ← Reader.nat 4
  let presence ← Reader.given mask 0 (Reader.nat 1)
  let downAfter ← Reader.given mask 1 (Reader.nat 1)
  let timeout ← Reader.given mask 2 (Reader.nat 2)
  let hold ← Reader.given mask 3 (Reader.nat 1)
  return { bank, presence, downAfter, timeout, hold }

/-- A presence that changes sets the entry Down with count 0; one that does not changes nothing (R99). -/
def Peer.configured (present : Bool) (p : Peer) : Peer :=
  if p.present = present then p else { present := present, state := .down, timeouts := 0 }

/-- The values applied (R99, log entry 17). -/
def peerReply (present : Bool) (d t h : Nat) : List Byte := [byte (bit (!present))] ++ be 1 d ++ be 2 t ++ be 1 h

def doSetPeer (f : PeerFields) (s : State) : State × Reply :=
  match toBank f.bank with
  | none => (s, Reply.refuse .badValue)
  | some b =>
    match chosenOr presenceOf (s.peer b).present f.presence with
    | none => (s, Reply.refuse .badValue)
    | some present =>
      let d := clampedOr 1 8 s.peers.downAfter f.downAfter
      let t := clampedOr 20 1000 s.peers.queryTimeout f.timeout
      let h := clampedOr 5 60 s.peers.remoteHold f.hold
      ((s.modPeers fun p => { p with downAfter := d.value, queryTimeout := t.value, remoteHold := h.value }).modPeer b
          (Peer.configured present),
       Reply.applied (d.changed || t.changed || h.changed) (peerReply present d.value t.value h.value))

/-! ## Set Reporting (R177) -/

structure ReportingFields where
  calmBatch : Option Nat
  calmHold : Option Nat
  surgeBatch : Option Nat
  surgeHold : Option Nat
  surgeOn : Option Nat
  surgeOff : Option Nat
  arbiter : Option Nat
  weight : Option Nat
  policy : Option Nat
  maxPayload : Option Nat
  interval : Option Nat
  holdoff : Option Nat
  deriving DecidableEq, Repr

def Reader.reporting : Reader ReportingFields := do
  let mask ← Reader.nat 4
  let calmBatch ← Reader.given mask 0 (Reader.nat 1)
  let calmHold ← Reader.given mask 1 (Reader.nat 2)
  let surgeBatch ← Reader.given mask 2 (Reader.nat 1)
  let surgeHold ← Reader.given mask 3 (Reader.nat 2)
  let surgeOn ← Reader.given mask 4 (Reader.nat 2)
  let surgeOff ← Reader.given mask 5 (Reader.nat 2)
  let arbiter ← Reader.given mask 6 (Reader.nat 1)
  let weight ← Reader.given mask 7 (Reader.nat 1)
  let policy ← Reader.given mask 8 (Reader.nat 1)
  let maxPayload ← Reader.given mask 9 (Reader.nat 2)
  let interval ← Reader.given mask 10 (Reader.nat 1)
  let holdoff ← Reader.given mask 11 (Reader.nat 2)
  return { calmBatch, calmHold, surgeBatch, surgeHold, surgeOn, surgeOff, arbiter, weight, policy, maxPayload, interval,
           holdoff }

/-- The largest of the three payloads not above the value, 256 at least (R166). -/
def payloadOf (v : Nat) : Nat := if 1024 ≤ v then 1024 else if 512 ≤ v then 512 else 256

/-- The max payload after the request. -/
def maxPayloadOr (now : Nat) : Option Nat → Clamped
  | some v => { value := payloadOf v, changed := decide (payloadOf v ≠ v) }
  | none => { value := now, changed := false }

/-- Every field of Set Reporting as it is applied. -/
structure ReportingValues where
  calmBatch : Clamped
  calmHold : Clamped
  surgeBatch : Clamped
  surgeHold : Clamped
  surgeOn : Clamped
  surgeOff : Clamped
  arbiter : ArbiterMode
  weight : Clamped
  policy : LogPolicy
  maxPayload : Clamped
  interval : Clamped
  holdoff : Clamped
  deriving DecidableEq, Repr

/-- SurgeOff after the request: in its range, and then not above SurgeOn (R162). -/
def surgeOffOr (on now : Nat) (f : Option Nat) : Clamped :=
  let c := clampedOr 1 1000 now f
  { value := min c.value on, changed := c.changed || decide (on < c.value) }

/-- The fields of a request with their clamps, with the arbiter mode and the policy already read (R177). -/
def ReportingFields.values (f : ReportingFields) (s : State) (a : ArbiterMode) (p : LogPolicy) : ReportingValues :=
  let on := clampedOr 1 1000 s.bcm.surge.on f.surgeOn
  { calmBatch := clampedOr 1 32 s.log.calm.batch f.calmBatch, calmHold := clampedOr 10 10000 s.log.calm.hold f.calmHold,
    surgeBatch := clampedOr 1 32 s.log.surge.batch f.surgeBatch,
    surgeHold := clampedOr 10 10000 s.log.surge.hold f.surgeHold, surgeOn := on,
    surgeOff := surgeOffOr on.value s.bcm.surge.off f.surgeOff, arbiter := a,
    weight := clampedOr 1 15 s.trunk.weight f.weight, policy := p,
    maxPayload := maxPayloadOr s.trunk.maxPayload f.maxPayload,
    interval := clampedOr 1 60 s.evu.statusInterval f.interval, holdoff := clampedOr 0 1000 s.evu.holdoffTime f.holdoff }

def ReportingValues.changed (v : ReportingValues) : Bool :=
  v.calmBatch.changed || v.calmHold.changed || v.surgeBatch.changed || v.surgeHold.changed || v.surgeOn.changed ||
    v.surgeOff.changed || v.weight.changed || v.maxPayload.changed || v.interval.changed || v.holdoff.changed

/-- The values applied, in the order of R177 (log entry 17). -/
def ReportingValues.bytes (v : ReportingValues) : List Byte :=
  be 1 v.calmBatch.value ++ be 2 v.calmHold.value ++ be 1 v.surgeBatch.value ++ be 2 v.surgeHold.value ++
    be 2 v.surgeOn.value ++ be 2 v.surgeOff.value ++ [byte (arbiterCode v.arbiter)] ++ be 1 v.weight.value ++
    [byte (policyCode v.policy)] ++ be 2 v.maxPayload.value ++ be 1 v.interval.value ++ be 2 v.holdoff.value

/-- A change of mode or of W sets the Report count to 0 and clears the queue last served (R172). -/
def Trunk.setArbiter (a : ArbiterMode) (w : Nat) (k : Trunk) : Trunk :=
  if k.arbiter = a ∧ k.weight = w then k else { k with arbiter := a, weight := w, reportCount := 0, lastServed := none }

/-- The whole request takes effect at once, and the drain tests again (R145, R177). -/
def State.applyReporting (v : ReportingValues) (s : State) : State :=
  ((((s.modLog fun g => { g with calm := { batch := v.calmBatch.value, hold := v.calmHold.value },
                                 surge := { batch := v.surgeBatch.value, hold := v.surgeHold.value },
                                 policy := v.policy }).modBcm
      fun b => { b with surge := { b.surge with on := v.surgeOn.value, off := v.surgeOff.value } }).modTrunk
      fun k => { k.setArbiter v.arbiter v.weight.value with maxPayload := v.maxPayload.value }).modEvu
      fun e => { e with statusInterval := v.interval.value, holdoffTime := v.holdoff.value }).drainTest

def doSetReporting (f : ReportingFields) (s : State) : State × Reply :=
  match chosenOr arbiterOf s.trunk.arbiter f.arbiter, chosenOr policyOf s.log.policy f.policy with
  | some a, some p => (s.applyReporting (f.values s a p), Reply.applied (f.values s a p).changed (f.values s a p).bytes)
  | _, _ => (s, Reply.refuse .badValue)

/-! ## Set Event Levels (R181) -/

structure LevelFields where
  levels : Option (List Nat)
  report : Option Nat
  wake : Option Nat
  masks : Option Nat
  deriving DecidableEq, Repr

def Reader.levels : Reader LevelFields := do
  let mask ← Reader.nat 4
  let levels ← Reader.given mask 0 (Reader.many (Reader.nat 1) 12)
  let report ← Reader.given mask 1 (Reader.nat 1)
  let wake ← Reader.given mask 2 (Reader.nat 1)
  let masks ← Reader.given mask 3 (Reader.nat 2)
  return { levels, report, wake, masks }

/-- The levels after the request, each at most 7. -/
def levelsOr (now : Vector Nat 12) : Option (List Nat) → Vector Nat 12
  | some xs => Vector.ofFn fun i => clamp 0 7 (xs.getD i.val (now.get i))
  | none => now

/-- The masks after the request: a set bit means masked (R193). -/
def masksOr (now : Vector ErrorEntry 14) : Option Nat → Vector ErrorEntry 14
  | some n => Vector.ofFn fun i => { now.get i with masked := n.testBit i.val }
  | none => now

/-- The Event and Error Unit with the settings applied (R181). -/
def LevelFields.applied (f : LevelFields) (e : Evu) : Evu :=
  { e with levels := levelsOr e.levels f.levels, reportThreshold := (clampedOr 1 8 e.reportThreshold f.report).value,
           wakeThreshold := (clampedOr 0 7 e.wakeThreshold f.wake).value, errors := masksOr e.errors f.masks }

def LevelFields.changed (f : LevelFields) (e : Evu) : Bool :=
  (match f.levels with | some xs => xs.any fun v => decide (7 < v) | none => false) ||
    (clampedOr 1 8 e.reportThreshold f.report).changed || (clampedOr 0 7 e.wakeThreshold f.wake).changed

/-- The values applied (log entry 17). -/
def Evu.levelBytes (e : Evu) : List Byte :=
  e.levels.toList.map byte ++ be 1 e.reportThreshold ++ be 1 e.wakeThreshold ++
    be 2 ((List.finRange 14).foldl (fun a k => a + bit (e.errors.get k).masked * 2 ^ k.val) 0)

/-- A pending cause that the change made reportable is offered to the event report (R181). -/
def State.offerNew (old : Evu) (s : State) : State :=
  (List.finRange 24).foldl (fun t c => if s.evu.isPending c && !old.reportable c then t.offer c else t) s

/-- A pending cause came below the wake threshold by the change (R159, R181). -/
def Evu.wakesNow (old new : Evu) : Bool :=
  (List.finRange 24).any fun c => new.isPending c && new.below c && !old.below c

/-- The settings take effect, with the offers and the release of STANDBY that they bring (R181). -/
def State.setLevels (f : LevelFields) (s : State) : State :=
  let t := (s.modEvu f.applied).offerNew s.evu
  if s.bcm.mode = .standby ∧ s.evu.wakesNow t.evu then t.releaseStandby else t

def doSetEventLevels (f : LevelFields) (s : State) : State × Reply :=
  match f.masks with
  | some n => if 2 ^ 14 ≤ n then (s, Reply.refuse .badValue)
              else (s.setLevels f, Reply.applied (f.changed s.evu) (f.applied s.evu).levelBytes)
  | none => (s.setLevels f, Reply.applied (f.changed s.evu) (f.applied s.evu).levelBytes)

/-! ## Read Log (R147) -/

structure LogFields where
  first : Nat
  count : Nat
  deriving DecidableEq, Repr

def Reader.log : Reader LogFields := do
  let first ← Reader.nat 4
  let count ← Reader.nat 2
  return { first, count }

def State.beginAudit (first count : Nat) (s : State) : State :=
  s.modLog fun g => { g with audit := some { position := first, left := count, sent := 0, missing := 0 },
                             auditSent := 0, auditMissing := 0 }

def doReadLog (f : LogFields) (s : State) : State × Reply :=
  match s.log.audit with
  | some a => if f.count = 0 then (s.endAudit a.sent a.missing, Reply.ok []) else (s, Reply.busy)
  | none =>
    if f.count = 0 then (s, Reply.ok [])
    else
      let n := min f.count Config.logPlaces
      (s.beginAudit f.first n, Reply.applied (decide (n ≠ f.count)) (be 2 n))

/-! ## Read Status, Read Errors (R184, R187) -/

def doReadStatus (_ : Unit) (s : State) : State × Reply := (s.drawn, Reply.ok s.statusContents)

def doReadErrors (_ : Unit) (s : State) : State × Reply := (s.drawn, Reply.ok s.readErrors)

/-! ## Clear Errors, Clear Events (R187) -/

/-- The named error kinds cleared, First Error and the header log re-armed where they hold one of them (R187). -/
def Evu.clearErrors (n : Nat) (e : Evu) : Evu :=
  { e with
    errors := Vector.ofFn fun i =>
      if n.testBit i.val then { e.errors.get i with detected := false, count := 0 } else e.errors.get i,
    firstError := match e.firstError with
      | some f => if n.testBit (errorIndex f.kind).val then none else some f
      | none => none,
    headerLog := match e.headerLog with
      | some h => if n.testBit (errorIndex h.kind).val then none else some h
      | none => none }

def doClearErrors (n : Nat) (s : State) : State × Reply :=
  if n = 0 ∨ 2 ^ 14 ≤ n then (s, Reply.refuse .badValue) else (s.modEvu (Evu.clearErrors n), Reply.ok [])

/-- The named causes cleared (R187). -/
def Evu.clearEvents (n : Nat) (e : Evu) : Evu :=
  { e with causes := Vector.ofFn fun i =>
      if n.testBit i.val then { pending := false, count := 0, detail := none } else e.causes.get i }

def doClearEvents (n : Nat) (s : State) : State × Reply :=
  if n = 0 then (s, Reply.refuse .badValue) else (s.modEvu (Evu.clearEvents n), Reply.ok [])

end Sys2Proof.Machine
end

