-- ==== Sys2Proof/Machine/TableRequests.lean ====
section
/-! DEFINITION. The requests about the Entitlement Table: Set Table Geometry, Upsert Records, Fill Slots, Revoke Records, Purge
Records, Read Record, Clear Table, and the end of the sweep (R17, R23 to R31). -/

namespace Sys2Proof.Machine

/-! ## The sweep (R17, R31) -/

/-- The sweep begins: every lookup answers "not found" until it ends, and the reply waits for its end (R31). -/
def State.beginSweep (h : ReplyHead) (clampedProbe : Option Nat) (s : State) : State :=
  (s.modTable fun t => { t with sweeping := true }).setPhase (.sweeping h clampedProbe)

/-- Every slot is FREE and no sweep runs. -/
def Table.swept (t : Table) : Table := { t with slots := [], sweeping := false }

/-- The sweep makes its last slot FREE, and its request completes with the number of records removed (R17, R31). -/
def State.endSweep (s : State) : State :=
  match s.mge.phase with
  | .sweeping h c =>
    (s.modTable Table.swept).sendReply h
      (match c with
       | some p => { status := .clamped, cause := .none, contents := be 1 p ++ be 3 s.table.slots.length }
       | none => Reply.ok (be 3 s.table.slots.length))
  | _ => s

structure GeometryFields where
  buckets : Nat
  probe : Nat
  deriving DecidableEq, Repr

def Reader.geometry : Reader GeometryFields := do
  let buckets ← Reader.nat 2
  let probe ← Reader.nat 1
  return { buckets, probe }

/-- Set Table Geometry, once taken in SERVICE (R17). -/
def actSetTableGeometry (h : ReplyHead) (f : GeometryFields) (s : State) : State :=
  if !Config.bucketCounts.contains f.buckets then s.sendReply h (Reply.refuse .badValue)
  else if s.table.anyHeld then s.sendReply h (Reply.refuse .holdsPresent)
  else
    let p := clamped 1 8 f.probe
    (s.modTable fun t => { t with buckets := f.buckets, probe := p.value }).beginSweep h
      (if p.changed then some p.value else none)

/-- Clear Table, once taken in SERVICE (R31). -/
def actClearTable (h : ReplyHead) (_ : Unit) (s : State) : State :=
  if s.table.anyHeld then s.sendReply h (Reply.refuse .holdsPresent) else s.beginSweep h none

/-! ## Record images (R24) -/

/-- The fields that an image with state given supplies (R24). -/
structure GivenState where
  state : RecordState
  used : Nat
  last : Option Last
  provisional : Bool
  deriving DecidableEq, Repr

/-- An accepted image, with whether a clamp of R24 changed it. -/
structure Image where
  key : Key
  cls : TicketClass
  allowance : Nat
  home : BankNo
  zones : Set16
  multiEvent : Bool
  window : Option Window
  given : Option GivenState
  changed : Bool
  deriving DecidableEq, Repr

/-- The check of an image failed with this status, or it gives a value. -/
abbrev Checked (α : Type) := Except EntryStatus α

/-- The key of an image: a kind of the two, and a Barcode value in range (R24). -/
def RawImage.keyOf (r : RawImage) : Option Key :=
  match r.key.key with
  | some k => if k.kind = .barcode ∧ Config.barcodeKeyMax < k.value then none else some k
  | none => none

/-- The given state of an image: none of the six, HELD, or a revoke reason above 15, is BAD_VALUE (R24). -/
def RawImage.stateOf (r : RawImage) : Option RecordState :=
  if r.state = 5 then (if h : r.reason < 16 then some (.revoked ⟨r.reason, h⟩) else none)
  else (restingOf r.state).map .resting

/-- The last of an image with state given: none is a BAD_VALUE (R24). -/
def RawImage.lastOf (r : RawImage) : Option (Option Last) :=
  if r.flags.testBit 4 then
    match toBank r.lastBank, toLane r.lastLane, optionalOf toZone r.lastZone with
    | some b, some l, some z => some (some { time := some r.lastTime, bank := b, lane := l, zone := z })
    | _, _, _ => none
  else some none

/-- The state part of an image: absent without state given, none for a BAD_VALUE. -/
def RawImage.givenOf (r : RawImage) : Option (Option GivenState) :=
  if r.flags.testBit 2 then
    match r.stateOf, r.lastOf with
    | some st, some last => some (some { state := st, used := r.used, last := last, provisional := r.flags.testBit 3 })
    | _, _ => none
  else some none

/-- The second check: BAD_WINDOW (R24). -/
def RawImage.badWindow (r : RawImage) : Bool :=
  (r.flags.testBit 1 &&
    (decide (r.opens = r.closes) || decide (Config.dayTenths ≤ r.opens) || decide (Config.dayTenths ≤ r.closes))) ||
  (r.flags.testBit 2 && r.flags.testBit 4 && decide (Config.dayTenths ≤ r.lastTime))

/-- The allowance applied: 1 for SINGLE, clamped to 1 to 15 for every other class (R24). -/
def allowanceOf (c : TicketClass) (a : Nat) : Nat := match c with | .single => 1 | _ => clamp 1 15 a

/-- The used count applied: at most the allowance, for every class but STAFF (R24, R26). -/
def usedOf (c : TicketClass) (allowance used : Nat) : Nat := if c.isStaff then used else min used allowance

/-- A given state with its used count clamped. -/
def GivenState.clamped (c : TicketClass) (allowance : Nat) (g : GivenState) : GivenState :=
  { g with used := usedOf c allowance g.used }

/-- An image whose codes are good, with its clamps (R24). -/
def RawImage.accepted (r : RawImage) (k : Key) (c : TicketClass) (home : BankNo) (g : Option GivenState) : Image :=
  let a := allowanceOf c r.allowance
  let g' := g.map (GivenState.clamped c a)
  { key := k, cls := c, allowance := a, home := home, zones := BitVec.ofNat 16 r.zones, multiEvent := r.flags.testBit 0,
    window := if r.flags.testBit 1 then some { opens := r.opens, closes := r.closes } else none, given := g',
    changed := decide (a ≠ r.allowance) || decide (g' ≠ g) }

/-- The checks of an image, in order (R24). -/
def RawImage.check (r : RawImage) : Checked Image :=
  match r.keyOf, classOf r.cls, toBank r.home, r.givenOf with
  | some k, some c, some home, some g =>
    if r.zones = 0 then .error .badValue
    else if r.badWindow then .error .badWindow
    else .ok (r.accepted k c home g)
  | _, _, _, _ => .error .badValue

/-! ## Lists (R23) -/

/-- A list request's status for one entry, with whether that entry was clamped. -/
abbrev EntryResult := EntryStatus × Bool

/-- Execute the entries in order, each seeing what the ones before it left (R23). -/
def State.eachEntry {α : Type} (f : α → State → State × EntryResult) : List α → State → State × List EntryResult
  | [], s => (s, [])
  | a :: rest, s =>
    let x := f a s
    let y := State.eachEntry f rest x.1
    (y.1, x.2 :: y.2)

/-- A list of 1 to 30 entries is executed; any other is refused as a whole (R23). The reply, CLAMPED or OK, carries the per-entry
statuses alone (R192, log entry 17). -/
def State.runList {α : Type} (entries : List α) (f : α → State → State × EntryResult) (s : State) : State × Reply :=
  if entries.isEmpty ∨ 30 < entries.length then (s, Reply.refuse .badValue)
  else
    let x := s.eachEntry f entries
    (x.1, Reply.listed (x.2.any (·.2)) (x.2.map fun e => byte (entryStatusCode e.1)))

/-! ## Upsert Records (R25, R26) -/

/-- A record as an image makes it new (R25, R27). -/
def Image.newRecord (i : Image) : Record :=
  { key := i.key, cls := i.cls, allowance := i.allowance, home := i.home, zones := i.zones, multiEvent := i.multiEvent,
    window := i.window,
    state := match i.given with | some g => g.state | none => .resting .unused,
    used := match i.given with | some g => g.used | none => 0,
    last := match i.given with | some g => g.last | none => none,
    provisional := match i.given with | some g => g.provisional | none => false }

/-- The loadable fields of a record replaced from an image, a kept used count above the allowance set to it (R26). -/
def Image.reload (i : Image) (r : Record) : Record :=
  { r with cls := i.cls, allowance := i.allowance, home := i.home, zones := i.zones, multiEvent := i.multiEvent,
           window := i.window, used := usedOf i.cls i.allowance r.used }

/-- The record after an upsert on a record found (R26). -/
def Image.replace (i : Image) (r : Record) : Record :=
  match r.state, i.given with
  | .held _, _ | _, none => i.reload r
  | _, some g => { i.reload r with state := g.state, used := g.used, last := g.last, provisional := g.provisional }

/-- The kept used count of the record found is clamped (R26). -/
def Image.clampsKept (i : Image) (r : Record) : Bool :=
  match r.state, i.given with
  | .held _, _ | _, none => decide ((i.reload r).used ≠ r.used)
  | _, some _ => false

/-- The status of an upsert on a record found (R26). -/
def Record.upsertStatus (r : Record) : EntryStatus := match r.state with | .held _ => .held | _ => .replaced

/-- An accepted image upserted (R22, R25, R26). -/
def State.upsertImage (i : Image) (s : State) : State × EntryResult :=
  match s.lookup i.key with
  | some (n, r) => (s.putRecord n (i.replace r), (r.upsertStatus, i.changed || i.clampsKept r))
  | none =>
    match s.table.freeSlot i.key with
    | some n => (s.putRecord n i.newRecord, (.stored, i.changed))
    | none => (s.errorOccurs .tableFull none [], (.tableFull, i.changed))

def State.upsertOne (r : RawImage) (s : State) : State × EntryResult :=
  match r.check with
  | .error e => (s, (e, false))
  | .ok i => s.upsertImage i

def doUpsertRecords (rs : List RawImage) (s : State) : State × Reply := s.runList rs State.upsertOne

/-! ## Fill Slots (R27) -/

structure FillFields where
  start : Nat
  images : List RawImage
  deriving DecidableEq, Repr

def Reader.fill : Reader FillFields := do
  let start ← Reader.nat 3
  let images ← Reader.list Reader.image
  return { start, images }

/-- The slot holds a HELD record. -/
def heldSlot : Option Record → Bool
  | some r => match r.state with | .held _ => true | _ => false
  | none => false

/-- An accepted image placed at its named slot (R27). -/
def State.fillImage (n : Nat) (i : Image) (s : State) : State × EntryResult :=
  let place := fun e => (s.putRecord n i.newRecord, ((e, i.changed) : EntryResult))
  if 4 * s.table.buckets ≤ n ∨ ¬ (n / 4) ∈ probeBuckets s.table.buckets s.table.probe i.key then
    (s, (.outOfRange, i.changed))
  else if heldSlot (s.table.slotAt n) then (s, (.held, i.changed))
  else match s.lookup i.key with
    | some (m, _) => if m = n then place .replaced else (s, (.duplicate, i.changed))
    | none => place (if (s.table.slotAt n).isSome then .replaced else .stored)

def State.fillOne (e : Nat × RawImage) (s : State) : State × EntryResult :=
  match e.2.check with
  | .error x => (s, (x, false))
  | .ok i => s.fillImage e.1 i

/-- Image k of the list goes to slot start + k (R27). -/
def doFillSlots (f : FillFields) (s : State) : State × Reply :=
  s.runList (f.images.zipIdx.map fun x => (f.start + x.2, x.1)) State.fillOne

/-! ## Revoke, Purge and Read Record (R28 to R30) -/

structure RevokeFields where
  reason : Nat
  keys : List RawKey
  deriving DecidableEq, Repr

def Reader.revoke : Reader RevokeFields := do
  let reason ← Reader.nat 1
  let keys ← Reader.list Reader.key
  return { reason, keys }

/-- A record after a revoke (R28). -/
def Record.revoke (e : Fin 16) (r : Record) : Record :=
  { r with state := match r.state with
             | .held h => .held { h with revokePending := some e }
             | _ => .revoked e }

def State.revokeOne (e : Fin 16) (k : Key) (s : State) : State × EntryResult :=
  match s.lookup k with
  | none => (s, (.unknown, false))
  | some (n, r) => (s.putRecord n (r.revoke e), (if heldSlot (some r) then .pending else .revoked, false))

/-- The keys of a list, none where a kind lies outside its list (R196). -/
def keysOf (ks : List RawKey) : Option (List Key) := ks.mapM RawKey.key

def doRevokeRecords (f : RevokeFields) (s : State) : State × Reply :=
  match keysOf f.keys with
  | none => (s, Reply.refuse .badValue)
  | some ks => if h : f.reason < 16 then s.runList ks (State.revokeOne ⟨f.reason, h⟩) else (s, Reply.refuse .badValue)

def State.purgeOne (k : Key) (s : State) : State × EntryResult :=
  match s.lookup k with
  | none => (s, (.unknown, false))
  | some (n, r) => if heldSlot (some r) then (s, (.held, false)) else (s.modTable (Table.free n), (.purged, false))

def doPurgeRecords (ks : List RawKey) (s : State) : State × Reply :=
  match keysOf ks with
  | none => (s, Reply.refuse .badValue)
  | some ks => s.runList ks State.purgeOne

def doReadRecord (k : RawKey) (s : State) : State × Reply :=
  match k.key with
  | none => (s, Reply.refuse .badValue)
  | some k => (s.drawn, Reply.ok (s.readRecord k))

end Sys2Proof.Machine
end

