-- ==== Sys2Proof/Machine/RequestCommands.lean ====
section
/-! DEFINITION. The meanings of the Management Engine's commands: the 35 requests, each with its type number (R192), the modes in
which it is taken (R175), its fields and its effect; and the ends of the requests that take time (R173). -/

namespace Sys2Proof.Machine

/-- IDENTIFY: answer with the part's names, revision, bank number, mode, max payload and geometry (R176). -/
def execIdentify (s : State) : Host.Outcome State Fault Refusal := .next (s.serve 1 .active Reader.noFields doIdentify)

/-- ASSIGN_BANK: set this bank's number in SERVICE (R169). -/
def execAssignBank (s : State) : Host.Outcome State Fault Refusal := .next (s.serve 2 .service (Reader.nat 1) doAssignBank)

/-- SET_EVENT: set or unset the bank event code (R152). -/
def execSetEvent (s : State) : Host.Outcome State Fault Refusal := .next (s.serve 3 .active (Reader.nat 2) doSetEvent)

/-- SET_CLOCK: set the event clock (R151). -/
def execSetClock (s : State) : Host.Outcome State Fault Refusal := .next (s.serve 4 .active (Reader.nat 3) doSetClock)

/-- SET_SCHEDULE: set the schedule (R153). -/
def execSetSchedule (s : State) : Host.Outcome State Fault Refusal := .next (s.serve 5 .active Reader.schedule doSetSchedule)

/-- SET_BANK_MODE: change, record or refuse a bank mode (R156). -/
def execSetBankMode (s : State) : Host.Outcome State Fault Refusal := .next (s.serve 6 .active (Reader.nat 1) doSetBankMode)

/-- BANK_RESET: abort and close every lane and return to SERVICE (R96, R176). -/
def execBankReset (s : State) : Host.Outcome State Fault Refusal := .next (s.serve 7 .active Reader.noFields doBankResetRequest)

/-- SET_TABLE_GEOMETRY: set B and P and begin the sweep (R17). -/
def execSetTableGeometry (s : State) : Host.Outcome State Fault Refusal := .next (s.serveWith 8 .service Reader.geometry actSetTableGeometry)

/-- UPSERT_RECORDS: insert or replace each image (R25, R26). -/
def execUpsertRecords (s : State) : Host.Outcome State Fault Refusal := .next (s.serve 9 .active (Reader.list Reader.image) doUpsertRecords)

/-- FILL_SLOTS: place images at named slots (R27). -/
def execFillSlots (s : State) : Host.Outcome State Fault Refusal := .next (s.serve 10 .service Reader.fill doFillSlots)

/-- REVOKE_RECORDS: revoke each key's record (R28). -/
def execRevokeRecords (s : State) : Host.Outcome State Fault Refusal := .next (s.serve 11 .active Reader.revoke doRevokeRecords)

/-- PURGE_RECORDS: free each key's slot (R29). -/
def execPurgeRecords (s : State) : Host.Outcome State Fault Refusal := .next (s.serve 12 .active (Reader.list Reader.key) doPurgeRecords)

/-- READ_RECORD: answer with one record (R30). -/
def execReadRecord (s : State) : Host.Outcome State Fault Refusal := .next (s.serve 13 .active Reader.key doReadRecord)

/-- CLEAR_TABLE: begin the sweep that empties the table (R31). -/
def execClearTable (s : State) : Host.Outcome State Fault Refusal := .next (s.serveWith 14 .service Reader.noFields actClearTable)

/-- SET_PROFILE_COUNT: change NP (R5). -/
def execSetProfileCount (s : State) : Host.Outcome State Fault Refusal := .next (s.serve 15 .active (Reader.nat 1) doSetProfileCount)

/-- WRITE_PROFILE: store a lane profile (R76). -/
def execWriteProfile (s : State) : Host.Outcome State Fault Refusal := .next (s.serve 16 .active Reader.profile doWriteProfile)

/-- WRITE_TEMPLATE: load or unload a Format Template (R3). -/
def execWriteTemplate (s : State) : Host.Outcome State Fault Refusal := .next (s.serve 17 .active Reader.template doWriteTemplate)

/-- SET_LANE_PROFILE_CHOICE: set a lane's profile choice (R76). -/
def execSetLaneProfileChoice (s : State) : Host.Outcome State Fault Refusal := .next (s.serve 18 .active Reader.choice doSetLaneProfileChoice)

/-- SET_LANE_CONTROL: update a lane's control image, or reset the lane (R90). -/
def execSetLaneControl (s : State) : Host.Outcome State Fault Refusal := .next (s.serve 19 .active Reader.control doSetLaneControl)

/-- LANE_PARAMETER_ACCESS: begin a parameter access at a lane unit (R94). -/
def execLaneParameterAccess (s : State) : Host.Outcome State Fault Refusal := .next (s.serveWith 20 .active Reader.access actLaneParameterAccess)

/-- LANE_LINK_TEST: set up a link test (R134). -/
def execLaneLinkTest (s : State) : Host.Outcome State Fault Refusal := .next (s.serve 21 .service Reader.test doLaneLinkTest)

/-- SET_LINK_HEADER: make header settings pending, set the cycle period (R130). -/
def execSetLinkHeader (s : State) : Host.Outcome State Fault Refusal := .next (s.serve 22 .active Reader.header doSetLinkHeader)

/-- SET_ZONE_QUOTA: set one zone's Quota (R67). -/
def execSetZoneQuota (s : State) : Host.Outcome State Fault Refusal := .next (s.serve 23 .active Reader.quota doSetZoneQuota)

/-- RESET_ZONE_COUNTS: Entered and ScanOuts become 0 in each zone of the set (R68). -/
def execResetZoneCounts (s : State) : Host.Outcome State Fault Refusal := .next (s.serve 24 .active (Reader.nat 2) doResetZoneCounts)

/-- READ_ZONES: answer with the 16 zone entries (R69). -/
def execReadZones (s : State) : Host.Outcome State Fault Refusal := .next (s.serve 25 .active Reader.noFields doReadZones)

/-- SET_PEER: set a presence and the peer settings (R99). -/
def execSetPeer (s : State) : Host.Outcome State Fault Refusal := .next (s.serve 26 .active Reader.peer doSetPeer)

/-- SET_REPORTING: set the reporting fields together (R177). -/
def execSetReporting (s : State) : Host.Outcome State Fault Refusal := .next (s.serve 27 .active Reader.reporting doSetReporting)

/-- SET_EVENT_LEVELS: set levels, thresholds and masks (R181). -/
def execSetEventLevels (s : State) : Host.Outcome State Fault Refusal := .next (s.serve 28 .active Reader.levels doSetEventLevels)

/-- SET_WAKE_PATTERN: set the Wake pattern (R160). -/
def execSetWakePattern (s : State) : Host.Outcome State Fault Refusal := .next (s.serve 29 .active Reader.wake doSetWakePattern)

/-- READ_LOG: set up, abort or refuse an audit transfer (R147). -/
def execReadLog (s : State) : Host.Outcome State Fault Refusal := .next (s.serve 30 .active Reader.log doReadLog)

/-- READ_STATUS: answer with the contents of the status report (R184). -/
def execReadStatus (s : State) : Host.Outcome State Fault Refusal := .next (s.serve 31 .active Reader.noFields doReadStatus)

/-- READ_ERRORS: answer with the errors, First Error and the header log (R187). -/
def execReadErrors (s : State) : Host.Outcome State Fault Refusal := .next (s.serve 32 .active Reader.noFields doReadErrors)

/-- CLEAR_ERRORS: clear the named error kinds (R187). -/
def execClearErrors (s : State) : Host.Outcome State Fault Refusal := .next (s.serve 33 .active (Reader.nat 2) doClearErrors)

/-- CLEAR_EVENTS: clear the named causes (R187). -/
def execClearEvents (s : State) : Host.Outcome State Fault Refusal := .next (s.serve 34 .active (Reader.nat 3) doClearEvents)

/-- CLEAR_COUNTS: the counts of each named lane become 0 (R95). -/
def execClearCounts (s : State) : Host.Outcome State Fault Refusal := .next (s.serve 35 .active (Reader.nat 2) doClearCounts)

/-- SWEEP_END: the sweep ends and its request completes (R17, R31). -/
def execSweepEnd (s : State) : Host.Outcome State Fault Refusal := .next (s.endSweep)

/-- LANE_ACCESS_TIMEOUT: no answer in the three slots, the access ends FAILED (R94). -/
def execLaneAccessTimeout (s : State) : Host.Outcome State Fault Refusal := .next (s.accessTimeout)

/-- UNKNOWN_REQUEST: a request of no known type, or without a type (R174). -/
def execUnknownRequest (s : State) : Host.Outcome State Fault Refusal := .next (s.serveUnknown)

/-- REPLY_PLACE: a waiting reply is placed as room comes (R173). -/
def execReplyPlace (s : State) : Host.Outcome State Fault Refusal := .next (s.placeReply)

end Sys2Proof.Machine
end

