-- ==== Sys2Proof/Machine/Clock.lean ====
section
/-! DEFINITION. The event clock's advance, the surge estimator and power-on (R151, R161, R163). -/

namespace Sys2Proof.Machine

/-- The event time after one advance (R151). -/
def nextTenth (t : Nat) : Nat := if t + 1 < Config.dayTenths then t + 1 else 0

/-- The Set clock advances by one tenth of a second, which may wrap and may reach a schedule time (R151, R154). CLOCK_WRAP comes
before what a schedule time of 0 does (log entry 47). -/
def State.advanceClock (s : State) : State :=
  match s.bcm.clock with
  | none => s
  | some t =>
    let u := (s.reach s.bcm.tick).modBcm fun b => { b with clock := some (nextTenth t), tick := b.tick + 100 }
    (if nextTenth t = 0 then u.raise .clockWrap none else u).scheduleAt (nextTenth t)

/-- The estimate of the next second (R161). -/
def Surge.next (g : Surge) : Nat := g.estimate - g.estimate / 8 + g.count

/-- The flag after the test of R161 on an estimate. -/
def Surge.flagAt (g : Surge) (r : Nat) : Bool := if g.flag then decide (8 * g.off ≤ r) else decide (8 * g.on ≤ r)

/-- The estimator after an update (R161). -/
def Surge.updated (g : Surge) : Surge :=
  { g with estimate := g.next, count := 0, flag := g.flagAt g.next, due := g.due + 1000 }

/-- The events of an update: SURGE_ON or SURGE_OFF with the drain's test where the flag changed (R145, R161). -/
def State.surgeEvents (before : Bool) (s : State) : State :=
  match before, s.bcm.surge.flag with
  | false, true => (s.raise .surgeOn none).drainTest
  | true, false => (s.raise .surgeOff none).drainTest
  | _, _ => s

/-- A whole second of the part's own time base (R161). -/
def State.updateSurge (s : State) : State :=
  (((s.reach s.bcm.surge.due).flagging (State.modBcm fun b => { b with surge := b.surge.updated }))).surgeEvents
    s.bcm.surge.flag

/-- What passes on an empty queue of commands: one millisecond of the part's own time base, in which nothing is due that no
command brings (log entry 3). -/
def State.idle (s : State) : State := { s with now := s.now + 1 }

/-- Power-on: every block in its power-on state (R163). The commands still waiting are not the part's, and free values are
not drawn twice. -/
def State.powerUp (s : State) : State := { State.reset with pending := s.pending, draws := s.draws }

end Sys2Proof.Machine
end

