-- ==== Sys2Proof/Machine/TimerCommands.lean ====
section
/-! DEFINITION. The meanings of power-on, of the clocks, and of the deadlines and timers (R82, R85, R109, R110, R114, R151, R161,
R163). -/

namespace Sys2Proof.Machine

/-- POWER_ON: every block takes its power-on state (R163). -/
def execPowerOn (s : State) : Host.Outcome State Fault Refusal := .next (s.powerUp)

/-- CLOCK_ADVANCE: the Set clock advances by a tenth of a second (R151). -/
def execClockAdvance (s : State) : Host.Outcome State Fault Refusal := .next (s.advanceClock.settle)

/-- SURGE_UPDATE: the estimate and the Surge flag at a whole second (R161). -/
def execSurgeUpdate (s : State) : Host.Outcome State Fault Refusal := .next (s.updateSurge)

/-- QUERY_DEADLINE_EXPIRY: the lane's query is given up (R109). -/
def execQueryDeadlineExpiry (l : LaneNo) (s : State) : Host.Outcome State Fault Refusal := .next ((s.queryExpiry l).settle)

/-- REMOTE_HOLD_DEADLINE: the remote hold on a key lapses (R114). -/
def execRemoteHoldDeadline (k : Key) (s : State) : Host.Outcome State Fault Refusal := .next (s.remoteExpiry k)

/-- LAPSED_ENTRY_EXPIRY: a Lapsed List entry expires (R110). -/
def execLapsedEntryExpiry (tag : Byte) (s : State) : Host.Outcome State Fault Refusal := .next (s.lapsedExpiry tag)

/-- PASS_WINDOW_EXPIRY: the pass window of a lane expires (R82). -/
def execPassWindowExpiry (l : LaneNo) (s : State) : Host.Outcome State Fault Refusal := .next ((s.passExpiry l).settle)

/-- REFUSAL_DISPLAY_EXPIRY: the refusal display time of a lane runs out (R85). -/
def execRefusalDisplayExpiry (l : LaneNo) (s : State) : Host.Outcome State Fault Refusal := .next ((s.displayExpiry l).settle)

end Sys2Proof.Machine
end

