-- ==== Sys2Proof/Machine/Receive.lean ====
section
/-! DEFINITION. The Trunk Port's receiving side: the seven checks, addressing, the receive counts, the Request Queue and the Wake
pattern (R160, R164, R165, R167, R168, R173). -/

namespace Sys2Proof.Machine

/-- A good frame as received (R164). -/
structure Frame where
  kind : FrameKind
  fields : FrameFields
  deriving DecidableEq, Repr

/-- The bytes of a frame that another party sends (R164, R189). -/
def frameBytes (kind : FrameKind) (f : FrameFields) : List Byte :=
  trunkFrame f.dst f.src (byte (kindCode kind)) f.tag f.payload

/-- The Sources of R164: a bank, an unassigned controller, the central server. -/
def sourceOk (src : Byte) : Bool := decide (src.toNat < 32) || decide (src = 33) || decide (src = 34)

/-- The checks on the fields of a frame whose frame check passed: declared length, length agreement, kind, source (R165). -/
def checkFields (maxPayload : Nat) : List Byte → Except ErrorKind Frame
  | dst :: src :: kind :: tag :: l1 :: l0 :: payload =>
    if maxPayload < ofBytes [l1, l0] then .error .oversize
    else if ofBytes [l1, l0] ≠ payload.length then .error .malformedFrame
    else match kindOf kind.toNat with
      | none => .error .malformedFrame
      | some k =>
        if sourceOk src then .ok { kind := k, fields := { dst := dst, src := src, tag := tag, payload := payload } }
        else .error .malformedFrame
  | _ => .error .malformedFrame

/-- The seven receive checks, in order (R165). -/
def checkFrame (maxPayload : Nat) (bs : List Byte) : Except ErrorKind Frame :=
  if bs.length < 8 then .error .malformedFrame
  else if 8 + maxPayload < bs.length then .error .oversize
  else match checkedBody bs with
    | none => .error .frameCheck
    | some body => checkFields maxPayload body

/-! ## Receive counts (R167) -/

def State.countTaken (s : State) : State := s.modTrunk fun k => { k with taken := sat16 k.taken }
def State.countForeign (s : State) : State := s.modTrunk fun k => { k with foreign := sat16 k.foreign }
def State.countUnwanted (s : State) : State := s.modTrunk fun k => { k with unwanted := sat16 k.unwanted }

/-! ## Addressing (R168) -/

/-- The Destination is this bank's number. -/
def State.isOwn (s : State) (dst : Byte) : Bool := match s.bank with | some b => decide (dst = bankByte b) | none => false

/-- A good frame is for this bank (R168). -/
def State.forThisBank (s : State) (dst : Byte) : Bool := decide (dst = 32) || decide (dst = 33) || s.isOwn dst

/-- A Wake frame's payload matches the Wake pattern (R160). -/
def Bcm.wakes (b : Bcm) (payload : List Byte) : Bool :=
  decide (b.wakeOffset + b.wakePattern.length ≤ payload.length) &&
    decide (field payload b.wakeOffset b.wakePattern.length = b.wakePattern)

/-- A Wake frame in DEEP (R160, R168). -/
def State.takeWake (payload : List Byte) (s : State) : State :=
  if s.bcm.wakes payload then s.countTaken.leaveDeep else s.countUnwanted

/-- A request joins the tail of the Request Queue, or is discarded with RX_DROP where it holds 8 (R173). -/
def State.takeRequest (f : FrameFields) (lead : List Byte) (s : State) : State :=
  if s.mge.queue.length < Config.requestQueueSize then
    s.modMge fun m => { m with queue := m.queue ++ [{ src := f.src, tag := f.tag, payload := f.payload, lead := lead }] }
  else s.errorOccurs .rxDrop none []

/-- A frame handed to the Peer Coordinator is counted Taken there and then (R168). -/
def State.handPeer (k : FrameKind) (f : FrameFields) (lead : List Byte) (s : State) : State :=
  s.countTaken.takePeer k f.src f.tag f.payload lead

/-- A good frame for this bank outside DEEP, by its kind (R168). -/
def State.byKind (k : FrameKind) (f : FrameFields) (lead : List Byte) (s : State) : State :=
  match k with
  | .request =>
    if f.src = 34 ∧ (s.bank.isSome ∨ f.dst = 33) then s.countTaken.takeRequest f lead else s.countUnwanted
  | .query | .answer | .withdrawNotice | .reconcileNotice =>
    if s.isOwn f.dst then s.handPeer k f lead else s.countUnwanted
  | .entryNotice | .exitNotice =>
    if f.dst = 32 ∨ s.isOwn f.dst then s.handPeer k f lead else s.countUnwanted
  | .wake | .reply | .tally | .event | .status | .audit => s.countUnwanted

/-- A good frame is handed on, or counted Foreign or Unwanted (R168). -/
def State.address (g : Frame) (lead : List Byte) (s : State) : State :=
  if !s.forThisBank g.fields.dst then s.countForeign
  else if s.bcm.mode = .deep then
    (if g.kind = .wake then s.takeWake g.fields.payload else s.countUnwanted)
  else s.byKind g.kind g.fields lead

/-- A trunk frame is received: the checks, and then addressing (R165, R168). -/
def State.receive (bs : List Byte) (s : State) : State :=
  match checkFrame s.trunk.maxPayload bs with
  | .error k => s.errorOccurs k none bs
  | .ok g => s.address g (bs.take 16)

/-- A frame of a kind arrives from another party. -/
def State.receiveKind (k : FrameKind) (f : FrameFields) (s : State) : State := s.receive (frameBytes k f)

end Sys2Proof.Machine
end

