-- ==== Sys2Proof/Machine/TrunkCommands.lean ====
section
/-! DEFINITION. The meanings of the trunk's commands: frames received of every kind, damaged and unwanted ones, and the frames built
and sent (R145 to R148, R160, R165, R168, R172, R182, R184). -/

namespace Sys2Proof.Machine

/-- REQUEST_FRAME: a Request frame is received (R165, R168, R173). -/
def execRequestFrame (f : FrameFields) (s : State) : Host.Outcome State Fault Refusal := .next (s.receiveKind .request f)

/-- ADMISSION_QUERY: a Query frame is received, and answered where it is taken (R105). -/
def execAdmissionQuery (f : FrameFields) (s : State) : Host.Outcome State Fault Refusal := .next (s.receiveKind .query f)

/-- ANSWER: an Answer frame is received, and matched where it is taken (R107). -/
def execAnswer (f : FrameFields) (s : State) : Host.Outcome State Fault Refusal := .next (s.receiveKind .answer f)

/-- ENTRY_NOTICE: an Entry Notice is received, and applied where it is taken (R112). -/
def execEntryNotice (f : FrameFields) (s : State) : Host.Outcome State Fault Refusal := .next (s.receiveKind .entryNotice f)

/-- EXIT_NOTICE: an Exit Notice is received, and applied where it is taken (R117). -/
def execExitNotice (f : FrameFields) (s : State) : Host.Outcome State Fault Refusal := .next (s.receiveKind .exitNotice f)

/-- WITHDRAW_NOTICE: a Withdraw Notice is received, and applied where it is taken (R113). -/
def execWithdrawNotice (f : FrameFields) (s : State) : Host.Outcome State Fault Refusal := .next (s.receiveKind .withdrawNotice f)

/-- RECONCILE_NOTICE: a Reconcile Notice is received, and applied where it is taken (R115). -/
def execReconcileNotice (f : FrameFields) (s : State) : Host.Outcome State Fault Refusal := .next (s.receiveKind .reconcileNotice f)

/-- WAKE_FRAME: a Wake frame is received, and in DEEP matched against the pattern (R160). -/
def execWakeFrame (f : FrameFields) (s : State) : Host.Outcome State Fault Refusal := .next (s.receiveKind .wake f)

/-- DAMAGED_FRAME: a frame is received as these bytes, and discarded by the check it fails (R165). -/
def execDamagedFrame (bytes : List Byte) (s : State) : Host.Outcome State Fault Refusal := .next (s.receive bytes)

/-- UNWANTED_FRAME: a frame of any kind is received, and discarded where no block takes it (R168). -/
def execUnwantedFrame (kind : FrameKind) (f : FrameFields) (s : State) : Host.Outcome State Fault Refusal := .next (s.receiveKind kind f)

/-- TALLY_HOLD_EXPIRY: the oldest undrained record reaches the hold time, and the drain tests (R145). -/
def execTallyHoldExpiry (s : State) : Host.Outcome State Fault Refusal := .next (s.holdExpiry)

/-- TALLY_FRAME_BUILD: a due tally frame is built where the Report Queue has room (R146). -/
def execTallyFrameBuild (s : State) : Host.Outcome State Fault Refusal := .next (if s.log.due && s.reportRoom then s.buildTally else s)

/-- AUDIT_FRAME_BUILD: a running transfer builds its next frame where there is room, or ends (R148). -/
def execAuditFrameBuild (s : State) : Host.Outcome State Fault Refusal := .next (match s.log.audit with | some a => if s.reportRoom then s.buildAudit a else s | none => s)

/-- EVENT_HOLDOFF_EXPIRY: the holdoff runs out, and a wanted event frame is placed (R182). -/
def execEventHoldoffExpiry (s : State) : Host.Outcome State Fault Refusal := .next (s.holdoffExpiry)

/-- EVENT_FRAME_PLACE: a wanted event frame is placed as room comes (R182). -/
def execEventFramePlace (s : State) : Host.Outcome State Fault Refusal := .next (s.tryEvent)

/-- STATUS_INTERVAL_EXPIRY: a status report becomes due (R184). -/
def execStatusIntervalExpiry (s : State) : Host.Outcome State Fault Refusal := .next (s.statusExpiry)

/-- STATUS_REPORT_PLACE: a part of a due status report is placed where there is room (R184). -/
def execStatusReportPlace (s : State) : Host.Outcome State Fault Refusal := .next (s.tryStatus)

/-- TRUNK_FRAME_SEND: the arbiter's choice begins to be sent (R172). -/
def execTrunkFrameSend (s : State) : Host.Outcome State Fault Refusal := .next (s.sendFrame)

end Sys2Proof.Machine
end

