-- ==== Sys2Proof/Machine/Dispatch.lean ====
section
/-! DEFINITION. The effect of each command on everything but the queue of commands: one arm per row of the table. -/

namespace Sys2Proof.Machine

def exec (i : Instr) (s : State) : Host.Outcome State Fault Refusal :=
  match i with
  | .powerOn => Sys2Proof.Machine.execPowerOn s
  | .requestFrame f => Sys2Proof.Machine.execRequestFrame f s
  | .identify => Sys2Proof.Machine.execIdentify s
  | .assignBank => Sys2Proof.Machine.execAssignBank s
  | .setEvent => Sys2Proof.Machine.execSetEvent s
  | .setClock => Sys2Proof.Machine.execSetClock s
  | .setSchedule => Sys2Proof.Machine.execSetSchedule s
  | .setBankMode => Sys2Proof.Machine.execSetBankMode s
  | .bankReset => Sys2Proof.Machine.execBankReset s
  | .setTableGeometry => Sys2Proof.Machine.execSetTableGeometry s
  | .upsertRecords => Sys2Proof.Machine.execUpsertRecords s
  | .fillSlots => Sys2Proof.Machine.execFillSlots s
  | .revokeRecords => Sys2Proof.Machine.execRevokeRecords s
  | .purgeRecords => Sys2Proof.Machine.execPurgeRecords s
  | .readRecord => Sys2Proof.Machine.execReadRecord s
  | .clearTable => Sys2Proof.Machine.execClearTable s
  | .sweepEnd => Sys2Proof.Machine.execSweepEnd s
  | .setProfileCount => Sys2Proof.Machine.execSetProfileCount s
  | .writeProfile => Sys2Proof.Machine.execWriteProfile s
  | .writeTemplate => Sys2Proof.Machine.execWriteTemplate s
  | .setLaneProfileChoice => Sys2Proof.Machine.execSetLaneProfileChoice s
  | .setLaneControl => Sys2Proof.Machine.execSetLaneControl s
  | .laneParameterAccess => Sys2Proof.Machine.execLaneParameterAccess s
  | .laneAccessTimeout => Sys2Proof.Machine.execLaneAccessTimeout s
  | .laneLinkTest => Sys2Proof.Machine.execLaneLinkTest s
  | .setLinkHeader => Sys2Proof.Machine.execSetLinkHeader s
  | .setZoneQuota => Sys2Proof.Machine.execSetZoneQuota s
  | .resetZoneCounts => Sys2Proof.Machine.execResetZoneCounts s
  | .readZones => Sys2Proof.Machine.execReadZones s
  | .setPeer => Sys2Proof.Machine.execSetPeer s
  | .setReporting => Sys2Proof.Machine.execSetReporting s
  | .setEventLevels => Sys2Proof.Machine.execSetEventLevels s
  | .setWakePattern => Sys2Proof.Machine.execSetWakePattern s
  | .readLog => Sys2Proof.Machine.execReadLog s
  | .readStatus => Sys2Proof.Machine.execReadStatus s
  | .readErrors => Sys2Proof.Machine.execReadErrors s
  | .clearErrors => Sys2Proof.Machine.execClearErrors s
  | .clearEvents => Sys2Proof.Machine.execClearEvents s
  | .clearCounts => Sys2Proof.Machine.execClearCounts s
  | .unknownRequest => Sys2Proof.Machine.execUnknownRequest s
  | .replyPlace => Sys2Proof.Machine.execReplyPlace s
  | .admissionQuery f => Sys2Proof.Machine.execAdmissionQuery f s
  | .answer f => Sys2Proof.Machine.execAnswer f s
  | .entryNotice f => Sys2Proof.Machine.execEntryNotice f s
  | .exitNotice f => Sys2Proof.Machine.execExitNotice f s
  | .withdrawNotice f => Sys2Proof.Machine.execWithdrawNotice f s
  | .reconcileNotice f => Sys2Proof.Machine.execReconcileNotice f s
  | .wakeFrame f => Sys2Proof.Machine.execWakeFrame f s
  | .queryDeadlineExpiry l => Sys2Proof.Machine.execQueryDeadlineExpiry l s
  | .remoteHoldDeadline k => Sys2Proof.Machine.execRemoteHoldDeadline k s
  | .lapsedEntryExpiry t => Sys2Proof.Machine.execLapsedEntryExpiry t s
  | .laneCycleStart => Sys2Proof.Machine.execLaneCycleStart s
  | .automaticHeader => Sys2Proof.Machine.execAutomaticHeader s
  | .triggeredHeader => Sys2Proof.Machine.execTriggeredHeader s
  | .poll l => Sys2Proof.Machine.execPoll l s
  | .grantCommand l => Sys2Proof.Machine.execGrantCommand l s
  | .refuseCommand l => Sys2Proof.Machine.execRefuseCommand l s
  | .referCommand l => Sys2Proof.Machine.execReferCommand l s
  | .lampCommand l => Sys2Proof.Machine.execLampCommand l s
  | .modeCommand l => Sys2Proof.Machine.execModeCommand l s
  | .parameterCommand l => Sys2Proof.Machine.execParameterCommand l s
  | .repeatCommand l => Sys2Proof.Machine.execRepeatCommand l s
  | .testCommand l => Sys2Proof.Machine.execTestCommand l s
  | .nothingReport l n => Sys2Proof.Machine.execNothingReport l n s
  | .presentationReport l n p => Sys2Proof.Machine.execPresentationReport l n p s
  | .passageReport l n d => Sys2Proof.Machine.execPassageReport l n d s
  | .reverseReport l n => Sys2Proof.Machine.execReverseReport l n s
  | .forcedReport l n d => Sys2Proof.Machine.execForcedReport l n d s
  | .buttonReport l n => Sys2Proof.Machine.execButtonReport l n s
  | .faultReport l n => Sys2Proof.Machine.execFaultReport l n s
  | .helloReport l n u => Sys2Proof.Machine.execHelloReport l n u s
  | .confirmReport l n c => Sys2Proof.Machine.execConfirmReport l n c s
  | .parameterAnswer l n v => Sys2Proof.Machine.execParameterAnswer l n v s
  | .testEcho l n w => Sys2Proof.Machine.execTestEcho l n w s
  | .missingReply l => Sys2Proof.Machine.execMissingReply l s
  | .garbledReply l bs => Sys2Proof.Machine.execGarbledReply l bs s
  | .slotLoss l => Sys2Proof.Machine.execSlotLoss l s
  | .mateMarkClear l => Sys2Proof.Machine.execMateMarkClear l s
  | .linkTestEnd => Sys2Proof.Machine.execLinkTestEnd s
  | .passWindowExpiry l => Sys2Proof.Machine.execPassWindowExpiry l s
  | .refusalDisplayExpiry l => Sys2Proof.Machine.execRefusalDisplayExpiry l s
  | .clockAdvance => Sys2Proof.Machine.execClockAdvance s
  | .surgeUpdate => Sys2Proof.Machine.execSurgeUpdate s
  | .tallyHoldExpiry => Sys2Proof.Machine.execTallyHoldExpiry s
  | .tallyFrameBuild => Sys2Proof.Machine.execTallyFrameBuild s
  | .auditFrameBuild => Sys2Proof.Machine.execAuditFrameBuild s
  | .eventHoldoffExpiry => Sys2Proof.Machine.execEventHoldoffExpiry s
  | .eventFramePlace => Sys2Proof.Machine.execEventFramePlace s
  | .statusIntervalExpiry => Sys2Proof.Machine.execStatusIntervalExpiry s
  | .statusReportPlace => Sys2Proof.Machine.execStatusReportPlace s
  | .trunkFrameSend => Sys2Proof.Machine.execTrunkFrameSend s
  | .damagedFrame bs => Sys2Proof.Machine.execDamagedFrame bs s
  | .unwantedFrame k f => Sys2Proof.Machine.execUnwantedFrame k f s

end Sys2Proof.Machine
end

