-- ==== Sys2Proof/Safety.lean ====
section
/-! DEFINITION. What a safe state is: the invariants of the machine. And the words that claims about commands are written in: a
request at the head of its queue, a frame that arrives, a slot whose reply is awaited. -/

namespace Sys2Proof.Machine

/-! ## Invariants -/

/-- A zone entry within its ranges, with Entered + Held at most Quota (R61). -/
def Zone.within (z : Zone) : Prop := z.entered + z.held ≤ z.quota ∧ z.quota ≤ 65535 ∧ z.scanOuts ≤ 65535

/-- Every zone is within its quota (R61). -/
def State.zonesWithin (s : State) : Prop := ∀ z, (s.zone z).within

/-- The log ring (R139, R141): at most 8,192 kept records, the undrained among them, with consecutive sequence numbers modulo
2^32 that end just below the next one. -/
def Log.ringOk (g : Log) : Prop :=
  g.nextSeq < 2 ^ 32 ∧ g.kept.length ≤ Config.logPlaces ∧ g.undrained ≤ g.kept.length ∧
  ∀ (i : Nat) (h : i < g.kept.length), (g.kept[i]).seq = (g.nextSeq + 2 ^ 32 - (g.kept.length - i)) % 2 ^ 32

/-- Every queue and list of the part is within its capacity (R110, R119, R170, R173). -/
def State.queuesBounded (s : State) : Prop :=
  s.trunk.peerQ.length ≤ 32 ∧ s.trunk.reportQ.length ≤ 16 ∧ s.trunk.replyQ.length ≤ 8 ∧ s.mge.queue.length ≤ 8 ∧
  s.peers.lapsed.length ≤ 16 ∧ s.peers.reconcile.length ≤ 256

/-- The geometry is one that R16 allows, and while no sweep runs the slots are as R16 gives. -/
def Table.ok (t : Table) : Prop :=
  t.buckets ∈ Config.bucketCounts ∧ 1 ≤ t.probe ∧ t.probe ≤ 8 ∧ (t.sweeping = false → t.wf)

/-- A record in its ranges (R18): the allowance 1 to 15, 1 for SINGLE; used at most the allowance for every class but STAFF; a
window within the day whose ends differ; a non-empty zone set. -/
def Record.inRange (r : Record) : Prop :=
  1 ≤ r.allowance ∧ r.allowance ≤ 15 ∧ (r.cls = .single → r.allowance = 1) ∧ r.used ≤ 255 ∧
  (r.cls ≠ .staff → r.used ≤ r.allowance) ∧ r.zones ≠ 0 ∧
  ∀ w, r.window = some w → w.opens < Config.dayTenths ∧ w.closes < Config.dayTenths ∧ w.opens ≠ w.closes

def State.recordsInRange (s : State) : Prop := ∀ x ∈ s.table.slots, x.2.inRange

/-- The Query Table holds an entry for a lane exactly while that lane is QUERYING, and at most one for a lane (R104). -/
def State.queriesMatch (s : State) : Prop :=
  (∀ l, (s.lane l).state = .querying ↔ ∃ q ∈ s.peers.queries, q.lane = l) ∧ (s.peers.queries.map (·.lane)).Nodup

/-- Only a QUERYING or an OPEN entry lane keeps a reservation (R62); a QUERYING lane is an entry lane; an OPEN one has its decision
result, and on an entry lane its key, while its direction stays entry or exit (R54, R58, R77). -/
def State.operationsFit (s : State) : Prop :=
  ∀ l,
    let n := s.lane l
    (n.state = .querying → n.direction = .entry) ∧
    (n.state = .opened → n.result.isSome ∧ (n.direction = .exit ∨ (n.direction = .entry ∧ n.key.isSome))) ∧
    (n.reservation.isSome → (n.state = .querying ∨ n.state = .opened) ∧ n.direction = .entry)

/-- Held of a zone is the number of lanes whose reservation stands in it, at most 16 (R62). -/
def State.reservationsMatch (s : State) : Prop :=
  ∀ z, (s.zone z).held = ((List.finRange 16).filter fun l => decide ((s.lane l).reservation = some z)).length ∧
    (s.zone z).held ≤ 16

/-- A record HELD by a lane of this bank is the record of the grant under which that lane is OPEN (R19): the lane has its key and a
held result, on an entry lane, and no sweep runs (R17, R31). -/
def State.holdsMatch (s : State) : Prop :=
  ∀ x ∈ s.table.slots, ∀ h l z, x.2.state = .held h → h.holder = .lane l z →
    (s.lane l).state = .opened ∧ (s.lane l).key = some x.2.key ∧ (s.lane l).direction = .entry ∧
    (∃ res, (s.lane l).result = some res ∧ res.held = true) ∧ s.table.sweeping = false

/-- No two entries of the Query Table and the Lapsed List together have one tag (R102). -/
def State.tagsUnique (s : State) : Prop :=
  (s.peers.queries.map (·.tag) ++ s.peers.lapsed.map (·.tag)).Nodup

/-- The upper lane of a combined pair is CLOSED (R88). -/
def State.uppersClosed (s : State) : Prop := ∀ k, (s.pairs.get k).inForce = true → (s.lane (upperLane k)).state = .closed

/-- A lane is IDLE or REFUSING only while the bank is OPEN, and the bank is OPEN or CLOSING only with a bank number and the
clock Set (R39, R156). -/
def State.modeOk (s : State) : Prop :=
  (∀ l, (s.lane l).state = .idle ∨ (s.lane l).state = .refusing → s.bcm.mode = .opened) ∧
  (s.bcm.mode = .opened ∨ s.bcm.mode = .closing → s.bank.isSome ∧ s.bcm.clock.isSome)

/-- The Bank Clock and Mode Unit in its ranges (R151 to R153, R160 to R162). -/
def Bcm.inRange (b : Bcm) : Prop :=
  (∀ t, b.clock = some t → t < Config.dayTenths) ∧ (∀ c, b.code = some c → c ≤ 9999) ∧
  b.schedule.opening < Config.dayTenths ∧ b.schedule.closing < Config.dayTenths ∧
  (b.schedule.armed → b.schedule.opening ≠ b.schedule.closing) ∧
  b.surge.estimate ≤ 524280 ∧ b.surge.count ≤ 65535 ∧ 1 ≤ b.surge.off ∧ b.surge.off ≤ b.surge.on ∧ b.surge.on ≤ 1000 ∧
  b.wakeOffset ≤ 63 ∧ 1 ≤ b.wakePattern.length ∧ b.wakePattern.length ≤ 16

/-- A coalescing set in its ranges (R144). -/
def Coalescing.inRange (c : Coalescing) : Prop := 1 ≤ c.batch ∧ c.batch ≤ 32 ∧ 10 ≤ c.hold ∧ c.hold ≤ 10000

/-- The Trunk Port's settings in their ranges (R166, R172). -/
def Trunk.inRange (k : Trunk) : Prop :=
  (k.maxPayload = 256 ∨ k.maxPayload = 512 ∨ k.maxPayload = 1024) ∧ 1 ≤ k.weight ∧ k.weight ≤ 15 ∧
  k.reportCount ≤ k.weight

/-- The Event and Error Unit's settings in their ranges (R177, R181). -/
def Evu.inRange (e : Evu) : Prop :=
  (∀ i, e.levels.get i ≤ 7) ∧ 1 ≤ e.reportThreshold ∧ e.reportThreshold ≤ 8 ∧ e.wakeThreshold ≤ 7 ∧
  1 ≤ e.statusInterval ∧ e.statusInterval ≤ 60 ∧ e.holdoffTime ≤ 1000

/-- Header settings in their ranges, with a header that is not empty (R130). -/
def HeaderSettings.inRange (h : HeaderSettings) : Prop :=
  h.count ≤ 7 ∧ h.offset ≤ 15 ∧ (h.count = 0 → h.bankWord = true)

/-- The Peer Coordinator's settings in their ranges (R98). -/
def Peers.inRange (p : Peers) : Prop :=
  1 ≤ p.downAfter ∧ p.downAfter ≤ 8 ∧ 20 ≤ p.queryTimeout ∧ p.queryTimeout ≤ 1000 ∧ 5 ≤ p.remoteHold ∧ p.remoteHold ≤ 60

/-- The contents of a lane profile in their ranges (R75). -/
def Profile.inRange (p : Profile) : Prop :=
  20 ≤ p.passWindow ∧ p.passWindow ≤ 300 ∧ 5 ≤ p.display ∧ p.display ≤ 50 ∧ p.cooldown ≤ 600

/-- The contents of a Format Template in their ranges (R2). -/
def Template.inRange (t : Template) : Prop :=
  4 ≤ t.lenMin ∧ t.lenMin ≤ t.lenMax ∧ t.lenMax ≤ 48 ∧ t.marker.length ≤ 4 ∧ (∀ b ∈ t.marker, legalChar b = true) ∧
  t.markerAt ≤ 47 ∧ t.eventAt ≤ 47 ∧ (t.eventLen = 0 ∨ t.eventLen = 4) ∧ t.serialAt ≤ 47 ∧ 4 ≤ t.serialLen ∧
  t.serialLen ≤ 14 ∧ t.checkAt ≤ 47 ∧ (t.checkLen = 0 ∨ t.checkLen = 2)

/-- The Policy Store in its ranges: NP, every profile, and Loaded templates only below the usable template count (R2 to R5,
R75). -/
def Policy.inRange (p : Policy) : Prop :=
  1 ≤ p.np ∧ p.np ≤ 8 ∧ (∀ i, (p.profiles.get i).inRange) ∧
  ∀ i t, p.templates.get i = some t → i.val < usableTemplates p.np ∧ t.inRange

/-- Every setting is in the range its rule gives, and so is every profile in force at a lane. -/
def State.settingsInRange (s : State) : Prop :=
  s.bcm.inRange ∧ s.log.calm.inRange ∧ s.log.surge.inRange ∧ s.trunk.inRange ∧ s.evu.inRange ∧ s.peers.inRange ∧
  s.link.settings.inRange ∧ (∀ h, s.link.pendingSettings = some h → h.inRange) ∧ 2 ≤ s.link.period ∧ s.link.period ≤ 20 ∧
  s.policy.inRange ∧ ∀ l a, (s.lane l).inForce = some a → a.profile.inRange

/-- A step that answers a next state keeps `inv`. -/
def KeptByEveryStep (inv : State → Prop) : Prop := ∀ s t, inv s → step s = .next t → inv t

/-! ## Management requests -/

/-- The idle Management Engine finds `r`, a request of this type with these fields, at the head of its queue (R173, R192). -/
def State.asked (s : State) (r : Request) (code : Nat) (fields : List Byte) : Prop :=
  s.mge.phase = .idle ∧ s.mge.queue.head? = some r ∧ r.payload = byte code :: fields

/-- The reply to `r` is made and its parts are placed while there is room (R174). -/
def Request.answered (r : Request) (code : Nat) (y : Reply) (s : State) : State := s.sendReply (r.head code) y

/-- A presence mask over optional fields, the first at bit 0 (R193). -/
def maskOf : List Bool → Nat
  | [] => 0
  | b :: bs => bit b + 2 * maskOf bs

/-- An optional field of `n` bytes as it is sent: nothing where it is not given (R193). -/
def optField (n : Nat) : Option Nat → List Byte
  | some v => be n v
  | none => []

/-- An optional field is not given, or its value fits `n` bytes. -/
def optFits (n : Nat) (f : Option Nat) : Prop := ∀ v, f = some v → v < 256 ^ n

/-- The request types with their commands and the least number of bytes that their fields take (R192, R193). -/
def requestTypes : List (Nat × Instr × Nat) :=
  [(1, .identify, 0), (2, .assignBank, 1), (3, .setEvent, 2), (4, .setClock, 3), (5, .setSchedule, 4), (6, .setBankMode, 1),
   (7, .bankReset, 0), (8, .setTableGeometry, 3), (9, .upsertRecords, 1), (10, .fillSlots, 4), (11, .revokeRecords, 2),
   (12, .purgeRecords, 1), (13, .readRecord, 11), (14, .clearTable, 0), (15, .setProfileCount, 1), (16, .writeProfile, 16),
   (17, .writeTemplate, 2), (18, .setLaneProfileChoice, 2), (19, .setLaneControl, 5), (20, .laneParameterAccess, 3),
   (21, .laneLinkTest, 4), (22, .setLinkHeader, 4), (23, .setZoneQuota, 3), (24, .resetZoneCounts, 2), (25, .readZones, 0),
   (26, .setPeer, 5), (27, .setReporting, 4), (28, .setEventLevels, 4), (29, .setWakePattern, 2), (30, .readLog, 6),
   (31, .readStatus, 0), (32, .readErrors, 0), (33, .clearErrors, 2), (34, .clearEvents, 3), (35, .clearCounts, 2)]

/-- The bytes that the optional fields of these sizes take under a presence mask (R193). -/
def givenSize (mask : Nat) (sizes : List Nat) : Nat :=
  (sizes.zipIdx.map fun x => if mask.testBit x.2 then x.1 else 0).sum

/-- The 32 bytes of a record image, field by field (R192). -/
def RawImage.sent (x : RawImage) : List Byte :=
  be 1 x.key.kind ++ be 10 x.key.value ++ be 1 x.cls ++ be 1 x.allowance ++ be 1 x.home ++ be 2 x.zones ++ be 1 x.flags ++
    be 3 x.opens ++ be 3 x.closes ++ be 1 x.state ++ be 1 x.used ++ be 1 x.reason ++ be 3 x.lastTime ++ be 1 x.lastBank ++
    be 1 x.lastLane ++ be 1 x.lastZone

/-- Every field of an image fits its bytes. -/
def RawImage.fits (x : RawImage) : Prop :=
  x.key.kind < 256 ∧ x.key.value < 2 ^ 80 ∧ x.cls < 256 ∧ x.allowance < 256 ∧ x.home < 256 ∧ x.zones < 65536 ∧ x.flags < 256 ∧
  x.opens < 2 ^ 24 ∧ x.closes < 2 ^ 24 ∧ x.state < 256 ∧ x.used < 256 ∧ x.reason < 256 ∧ x.lastTime < 2 ^ 24 ∧
  x.lastBank < 256 ∧ x.lastLane < 256 ∧ x.lastZone < 256

/-! ## Frames received -/

/-- A frame's payload fits the max payload in force, itself at most 1,024 (R166). -/
def State.fits (s : State) (f : FrameFields) : Prop := f.payload.length ≤ s.trunk.maxPayload ∧ s.trunk.maxPayload ≤ 1024

/-- A destination is for this bank (R168). -/
def State.addressed (s : State) (dst : Byte) : Prop := dst = 32 ∨ dst = 33 ∨ ∃ b, s.bank = some b ∧ dst = bankByte b

/-- Bank `own` takes peer frames, and the frame comes from another bank `b` (R97). -/
def State.hears (s : State) (own b : BankNo) (f : FrameFields) : Prop :=
  s.bank = some own ∧ b ≠ own ∧ f.src = bankByte b ∧ takesPeers s.bcm.mode ∧ s.fits f

/-- The state after a taken peer frame has been counted and has acted on the Peer Table (R100, R168). -/
def State.heardFrom (b : BankNo) (s : State) : State := s.countTaken.hearPeer b

/-! ## The Lane Link -/

/-- The reply window of the lane's slot is open, the slot is in this link state, it carried neither the reset indication nor a
Test, and the link goes on after it. -/
def State.listens (s : State) (l : LaneNo) (st : SlotLink) : Prop :=
  s.link.running = true ∧ s.link.awaiting = true ∧ s.link.next = l.val ∧ s.link.stopping = false ∧ (s.slot l).link = st ∧
  (s.slot l).sent ≠ some (.mode none) ∧ ∀ w, (s.slot l).sent ≠ some (.test w)

/-- A new report is taken in an Active slot: its number is the last taken, the runs are 0, and the outstanding command is
delivered (R125 to R128). -/
def State.heardReport (l : LaneNo) (n : Fin 16) (s : State) : State :=
  s.modSlot l fun k => { k with failureRun := 0, repeatCount := 0, repeatDue := false, lastNumber := some n, outstanding := none }

/-- What follows a report in its slot: pairs and CLOSING settle, and the slot ends. -/
def State.thenSlotEnds (l : LaneNo) (s : State) : State := s.settle.endSlot l

/-- What a change of flags from `s` to `t` does to the pending trigger (R133): it is pending where it was, and where the Bank Word is
enabled and a selected flag rose at a position with its rising enable, or fell at one with its falling enable. -/
def State.triggers (s t : State) : Prop :=
  t.link.trigger = true ↔ s.link.trigger = true ∨ (s.link.settings.bankWord = true ∧ ∃ p : Fin 8,
    (s.link.settings.rising.getLsbD p.val = true ∧ s.flag (s.link.settings.select.get p) = false ∧
      t.flag (s.link.settings.select.get p) = true) ∨
    (s.link.settings.falling.getLsbD p.val = true ∧ s.flag (s.link.settings.select.get p) = true ∧
      t.flag (s.link.settings.select.get p) = false))

/-- What aborting the sequencers of the lanes in `ls`, in turn, leaves outside them (R92): the table, the zones, the log, the Peer
Queue and the lists of the Peer Coordinator are as each lane's operation leaves them when it is aborted with outcome `o`. -/
def State.abortedFor (s t : State) (ls : List LaneNo) (o : Outcome) : Prop :=
  let e := ls.foldl (fun u l => u.abortOperation l o) s
  t.table = e.table ∧ t.zones = e.zones ∧ t.log = e.log ∧ t.trunk.peerQ = e.trunk.peerQ ∧ t.peers = e.peers

/-- What the stop of the link leaves of `s` (R136): every slot Absent with its commands, a due lane reset and its runs gone, number,
identity and mismatches kept; for a slot that was Active PRESENCE, the last such lane in its detail (log entry 48), and the sequencer aborted as at a
loss, with the outcome LANE_LOST (R93); no lane command in progress and no confirmed image; and the Lane Parameter Access in flight ended FAILED. -/
def State.linkStopped (s t : State) : Prop :=
  (∀ l, t.slot l = { s.slot l with
    link := .absent, failureRun := 0, joinRun := 0, repeatCount := 0, repeatDue := false, resetDue := false, verdict := none,
    undelivered := false, parameterDue := false, modeDue := false, lamp := none, outstanding := none, sent := none }) ∧
  (∀ l, (t.lane l).confirmed = none ∧ (t.lane l).commanding = false) ∧
  s.abortedFor t ((List.finRange 16).filter fun l => decide ((s.slot l).link = .active)) .laneLost ∧
  (∀ l, (s.slot l).link = .active →
    (t.lane l).state = .closed ∧ (t.lane l).mate = none ∧ (t.evu.causes.get 0).pending = true ∧
    ((∀ m, l < m → (s.slot m).link ≠ .active) → (t.evu.causes.get 0).detail = some l.val) ∧
    ((s.lane l).state = .opened → (s.lane l).direction ≠ .exit → (t.evu.errors.get 12).detected = true)) ∧
  (∀ h a, s.mge.phase = .accessing h a →
    (t.evu.causes.get 15).pending = true ∧ (t.evu.causes.get 15).detail = some a.lane.val ∧
    t.mge.phase = (s.sendReply h (Reply.refuse .failed)).mge.phase ∧
    t.trunk.replyQ = (s.sendReply h (Reply.refuse .failed)).trunk.replyQ) ∧
  ((∀ h a, s.mge.phase ≠ .accessing h a) → t.mge.phase = s.mge.phase ∧ t.trunk.replyQ = s.trunk.replyQ)

/-- No combine change of any pair waits (R88). -/
def State.pairsSettled (s : State) : Prop := ∀ k, (s.pairs.get k).requested = (s.pairs.get k).inForce

/-! ## Lanes -/

/-- The lane is OPEN under a grant of this key with this result, its direction entry or exit as `d` says (R81, R83). -/
def State.openFor (s : State) (l : LaneNo) (k : Option Key) (res : DecisionResult) (d : Direction) : Prop :=
  (s.lane l).state = .opened ∧ (s.lane l).key = k ∧ (s.lane l).result = some res ∧ (s.lane l).granted = d

end Sys2Proof.Machine
end

