-- ==== Sys2Proof/Certificates/Slice0/Obligations.lean ====
section
/-! DEFINITION. The statements for the provers. A state after a command is written with the operations that other statements
describe: `raise` and `errorOccurs` (EventsAndErrorsRecorded), `sendReply` (RequestsCheckedAndReplied), `writeLog`
(LogRecordWritten), `refuse`, `sendRefusal` and `openLane` (VerdictsReachTheLane), `reserve`, `release` and `commitZone`
(ReservationMovesZoneCounts), `rest`, `tryIdle` and `settlePairs` (LaneRestsIdleOrClosed), `tallyDue` and `effectiveBatch`
(TallyAndAuditFramesBuilt), `reach` and `sendWithdrawNotice` (OperationEndsWithoutEntry), `offerPeer` (PeerFrameSetsSourceUp),
`putRecord` and `newRecord` (RecordEntryResults), `sequencer` and `slotsOf` (ReportsReachTheSequencer), the changes of mode (ModeChangesTakeEffect). A statement that rests
on a choice of the model names its log entry. -/

section
open Sys2Proof Sys2Proof.Machine

/-! ## The machine -/

/-- A step takes the command at the front of the queue and runs it with the queue's rest. On an empty queue one millisecond
of the part's own time base passes: the model's choice, log entry 3. -/
def Obligations.StepTakesFrontCommand : Prop :=
  (∀ (c : Instr) (rest : List Instr) (s : State), step { s with pending := c :: rest } = exec c { s with pending := rest }) ∧
  ∀ s : State, s.pending = [] → step s = .next { s with now := s.now + 1 }

/-- Power-on puts every block into its power-on state (R163); the commands still waiting and the count of free values drawn
are not the part's. -/
def Obligations.PowerOnRestoresReset : Prop :=
  ∀ s : State, exec .powerOn s = .next { State.reset with pending := s.pending, draws := s.draws }

/-- The power-on values that the rules give, block by block: settings, counts, queues and lists, timers, header words and enables,
and the results of the link test (R4, R16, R61, R74, R98, R122, R123, R130, R137, R150, R163, R179, R184, R188). -/
def Obligations.ResetHoldsPowerOnValues : Prop :=
  State.reset.bank = none ∧ State.reset.bcm.mode = .service ∧ State.reset.bcm.clock = none ∧ State.reset.bcm.code = none ∧
  State.reset.bcm.requested = none ∧ State.reset.bcm.schedule = { opening := 0, closing := 0, armed := false, afterClose := .service } ∧
  State.reset.bcm.surge.estimate = 0 ∧ State.reset.bcm.surge.count = 0 ∧ State.reset.bcm.surge.flag = false ∧ State.reset.bcm.surge.on = 20 ∧
  State.reset.bcm.surge.off = 12 ∧ State.reset.bcm.wakeOffset = 0 ∧ State.reset.bcm.wakePattern = [0, 0] ∧
  State.reset.table.buckets = 16384 ∧ State.reset.table.probe = 2 ∧ State.reset.table.slots = [] ∧
  State.reset.table.sweeping = false ∧ State.reset.policy.np = 4 ∧
  (∀ t, State.reset.policy.templates.get t = none) ∧ (∀ p, State.reset.policy.profiles.get p = Profile.default) ∧
  (∀ z, State.reset.zone z = { quota := 0, entered := 0, held := 0, scanOuts := 0 }) ∧
  (∀ l, (State.reset.lane l).state = .closed ∧ (State.reset.lane l).choice = 0 ∧ (State.reset.lane l).inForce = none ∧
    (State.reset.lane l).override = .none ∧ (State.reset.lane l).power = true ∧ (State.reset.lane l).confirmed = none ∧
    (State.reset.lane l).key = none ∧ (State.reset.lane l).profileMissing = false ∧ (State.reset.lane l).result = none ∧
    (State.reset.lane l).reservation = none ∧ (State.reset.lane l).query = none ∧ (State.reset.lane l).passTimer = none ∧
    (State.reset.lane l).displayTimer = none ∧ (State.reset.lane l).mate = none ∧ (State.reset.lane l).commanding = false ∧
    (State.reset.lane l).control = { green := .off, red := .off, amber := .off, override := .none, power := true, combine := false } ∧
    (State.reset.lane l).counts = {
      presentations := 0, grants := 0, refusals := 0, refers := 0, busyDiscards := 0, tailgates := 0, freeExits := 0 }) ∧
  (∀ l, (State.reset.slot l).link = .absent ∧ (State.reset.slot l).identity = none ∧ (State.reset.slot l).failureRun = 0 ∧
    (State.reset.slot l).joinRun = 0 ∧ (State.reset.slot l).mismatches = 0 ∧ (State.reset.slot l).verdict = none ∧ (State.reset.slot l).undelivered = false ∧
    (State.reset.slot l).lamp = none ∧ (State.reset.slot l).modeDue = false ∧ (State.reset.slot l).parameterDue = false ∧
    (State.reset.slot l).resetDue = false ∧ (State.reset.slot l).outstanding = none ∧ (State.reset.slot l).repeatCount = 0 ∧
    (State.reset.slot l).repeatDue = false) ∧
  (∀ k, State.reset.pairs.get k = { requested := false, inForce := false }) ∧
  State.reset.link.test = none ∧ State.reset.link.cyclesRun = 0 ∧ State.reset.link.trigger = false ∧
  State.reset.link.pendingSettings = none ∧ (∀ i, State.reset.link.settings.words.get i = 0) ∧
  State.reset.link.settings.rising = 0 ∧ State.reset.link.settings.falling = 0 ∧
  State.reset.link.running = true ∧ State.reset.link.period = 4 ∧ State.reset.link.parity = false ∧
  State.reset.link.settings.count = 2 ∧ State.reset.link.settings.bankWord = true ∧ State.reset.link.settings.offset = 0 ∧
  State.reset.link.settings.select =
    #v[.bankOpen, .closing, .surge, .degraded, .anyZoneFull, .logFull, .cycleParity, .zero] ∧
  (∀ b, State.reset.peer b = { present := false, state := .down, timeouts := 0 }) ∧ State.reset.peers.downAfter = 3 ∧
  State.reset.peers.queryTimeout = 150 ∧ State.reset.peers.remoteHold = 12 ∧ State.reset.peers.nextTag = 0 ∧
  State.reset.peers.queries = [] ∧ State.reset.peers.lapsed = [] ∧ State.reset.peers.reconcile = [] ∧
  State.reset.log.nextSeq = 0 ∧ State.reset.log.kept = [] ∧ State.reset.log.undrained = 0 ∧ State.reset.log.lost = 0 ∧
  State.reset.log.unlogged = 0 ∧ State.reset.log.policy = .refuse ∧ State.reset.log.audit = none ∧
  State.reset.log.auditSent = 0 ∧ State.reset.log.auditMissing = 0 ∧
  State.reset.log.calm = { batch := 8, hold := 500 } ∧ State.reset.log.surge = { batch := 32, hold := 2000 } ∧
  State.reset.trunk.maxPayload = 512 ∧ State.reset.trunk.arbiter = .roundRobin ∧ State.reset.trunk.weight = 4 ∧
  State.reset.trunk.reportCount = 0 ∧ State.reset.trunk.lastServed = none ∧ State.reset.trunk.taken = 0 ∧
  State.reset.trunk.foreign = 0 ∧ State.reset.trunk.unwanted = 0 ∧ State.reset.trunk.reportTag = 0 ∧ State.reset.trunk.peerQ = [] ∧ State.reset.trunk.reportQ = [] ∧
  State.reset.trunk.replyQ = [] ∧ State.reset.mge = { phase := .idle, queue := [] } ∧
  State.reset.evu.levels = #v[3, 3, 2, 1, 2, 6, 2, 5, 5, 6, 2, 5] ∧ State.reset.evu.reportThreshold = 4 ∧
  State.reset.evu.wakeThreshold = 2 ∧ State.reset.evu.holdoffTime = 100 ∧ State.reset.evu.statusInterval = 10 ∧
  State.reset.evu.statusTimer = some (State.reset.now + 10 * 1000) ∧ State.reset.evu.wanted = false ∧
  State.reset.evu.holdoff = none ∧
  (∀ c, State.reset.evu.causes.get c = { pending := false, count := 0, detail := none }) ∧
  (∀ k, State.reset.evu.errors.get k = { detected := false, count := 0, masked := false }) ∧
  State.reset.evu.firstError = none ∧ State.reset.evu.headerLog = none

/-- The invariants that every step keeps hold right after power-on. -/
def Obligations.ResetMeetsInvariants : Prop :=
  State.reset.zonesWithin ∧ State.reset.log.ringOk ∧ State.reset.queuesBounded ∧ State.reset.table.ok ∧
  State.reset.recordsInRange ∧ State.reset.queriesMatch ∧ State.reset.modeOk ∧ State.reset.settingsInRange ∧
  State.reset.operationsFit ∧ State.reset.reservationsMatch ∧ State.reset.holdsMatch ∧ State.reset.tagsUnique ∧
  State.reset.uppersClosed

/-! ## Invariants that every step keeps -/

/-- For every zone, Entered + Held never exceeds Quota (R61): reservations, commits, releases, resets and quota changes keep
it. And Held of a zone stays the number of lanes whose reservation stands in it, at most 16, while only QUERYING and OPEN lanes keep
a reservation (R62). -/
def Obligations.ZonesStayWithinQuota : Prop :=
  KeptByEveryStep State.zonesWithin ∧
  ∀ s t : State, s.queriesMatch → s.operationsFit → s.reservationsMatch → step s = .next t → t.operationsFit ∧ t.reservationsMatch

/-- The log never holds more than 8,192 records, and its records carry consecutive sequence numbers (R139, R141). -/
def Obligations.LogRingStaysConsecutive : Prop := KeptByEveryStep fun s => s.log.ringOk

/-- No queue and no list of the part passes its capacity (R110, R119, R170, R173). -/
def Obligations.QueuesStayBounded : Prop := KeptByEveryStep State.queuesBounded

/-- Outside a sweep, no two occupied slots hold the same key, and each lies in its key's probe sequence (R16); and every record stays
in the ranges of R18, used at or below the allowance for every class but STAFF. A record HELD by a lane of this bank stays one whose
lane is OPEN under a grant of its key with a hold (R19), where lanes and queries match as the other invariants say. -/
def Obligations.TableStaysWellFormed : Prop :=
  (KeptByEveryStep fun s => s.table.ok ∧ s.recordsInRange) ∧
  ∀ s t : State, s.table.ok → s.queriesMatch → s.operationsFit → s.holdsMatch → step s = .next t → t.holdsMatch

/-- The Query Table holds an entry for a lane exactly while that lane is QUERYING (R104); a lane rests in IDLE or REFUSING only while
the bank is OPEN, and the bank admits only with a number and a Set clock (R39, R78, R156). The upper lane of a combined pair stays
CLOSED (R88), and no tag stands twice in the Query Table and the Lapsed List together (R102). -/
def Obligations.LanesMatchModeAndQueries : Prop :=
  (KeptByEveryStep fun s => s.queriesMatch ∧ s.modeOk) ∧
  ∀ s t : State, s.queriesMatch → step s = .next t →
    (s.uppersClosed → t.uppersClosed) ∧ (s.peers.lapsed.length ≤ 16 → s.tagsUnique → t.tagsUnique)

/-- The event clock and code, the schedule, the surge estimate and thresholds, the Wake pattern, the coalescing sets, the settings of the
Trunk Port, of events and errors, of the peers and of the Lane Link, the profile count, the profiles in the store and in force at the
lanes, and the Format Templates, with Loaded ones only below the usable count, stay in their ranges. The table geometry stays in its
range by TableStaysWellFormed, the zone counts within their quotas by ZonesStayWithinQuota.
The byte values of a marker's legal characters are the model's (log entry 50) (R2, R3, R5, R75, R98, R123, R130, R144, R151 to R153, R160 to R162, R166, R172, R177, R181). -/
def Obligations.SettingsStayInRange : Prop := KeptByEveryStep State.settingsInRange

/-! ## Encodings -/

/-- A frame sent by the layout of R189 with a payload that fits, from a Source of R164, passes the seven receive checks of R165
and is read back whole: every kind, every field.
The frame check (R164): all ones before the first byte, and with each byte, its most significant bit first, eight shifts by which the
bit that leaves, added to the bit of the byte, brings in the polynomial x^16 + x^12 + x^5 + 1. -/
def Obligations.TrunkFrameRoundTrip : Prop :=
  crc16 [] = 0xFFFF ∧
  (∀ (bs : List Byte) (b : Byte), crc16 (bs ++ [b]) = (List.range 8).foldl (fun (c : BitVec 16) i =>
    (c <<< 1) ^^^ (if c.getLsbD 15 ^^ b.getLsbD (7 - i) then 0x1021 else 0)) (crc16 bs)) ∧
  ∀ (maxPayload : Nat) (k : FrameKind) (f : FrameFields), maxPayload ≤ 1024 → f.payload.length ≤ maxPayload →
    (f.src.toNat < 32 ∨ f.src = 33 ∨ f.src = 34) → checkFrame maxPayload (frameBytes k f) = .ok { kind := k, fields := f }

/-- A reply message by the layout of R195 is read back as the report number and the report it carries: every report kind, with
every field at every value. -/
def Obligations.LaneReplyRoundTrip : Prop :=
  ∀ (n : Fin 16) (r : Report), (∀ cs, r = .presentation (.barcode cs) → cs.length ≤ 255) →
    (∀ uid, r = .presentation (.card uid) → uid.length ≤ 255) → readReply (replyBytes n r) = some (n, r)

/-- The payloads that the Peer Coordinator sends, of all six kinds, pass the check of R196 at a peer, which reads from them what
was sent (R191). An answer about a record carries its state and used; where there is no record its used byte is open (log entry
1). -/
def Obligations.PeerPayloadRoundTrip : Prop :=
  ∀ (k : Key) (b : BankNo) (l : LaneNo) (t : Option Nat) (extra : List Byte), k.value < 2 ^ 80 →
    (∀ x, t = some x → x < Config.dayTenths) →
    (∀ w c, w < 65536 → c < 65536 →
      readPeer .query (queryPayload k l w c ++ extra) = some (.query { key := k, lane := l, window := w, cooldown := c })) ∧
    (∀ (used : Byte) (p : Bool) (z : Option ZoneNo),
      readPeer .entryNotice (entryPayload k b l t used p z ++ extra) =
        some (.entry { key := k, bank := b, lane := l, time := t, used := used.toNat, provisional := p, zone := z }) ∧
      readPeer .reconcileNotice (entryPayload k b l t used p z ++ extra) =
        some (.reconcile { key := k, bank := b, lane := l, time := t, used := used.toNat, provisional := p, zone := z })) ∧
    (∀ st, st = .outside ∨ st = .spent →
      readPeer .exitNotice (exitPayload k b l t st ++ extra) =
        some (.exit { key := k, bank := b, lane := l, time := t, state := st })) ∧
    readPeer .withdrawNotice (withdrawPayload k b l ++ extra) = some (.withdraw { key := k, bank := b, lane := l }) ∧
    (∀ (v : AnswerVerdict) (e : Option Reason) (r : Record), r.used < 256 →
      readPeer .answer (answerPayload k v e r ++ extra) = some (.answer { key := k, verdict := v, reason := e, used := r.used })) ∧
    ∀ (draw : Nat) (v : AnswerVerdict) (e : Option Reason), ∃ n, n < 256 ∧
      readPeer .answer (answerWithout draw k v e ++ extra) = some (.answer { key := k, verdict := v, reason := e, used := n })

/-! ## Keys and the checks on a record -/

/-- What a presentation decodes to (R6 to R13): MULTIPLE_CARDS for a collision; MALFORMED for a payload or a UID of a bad length or
with a character that is not legal; NO_FORMAT where no accepted template below the usable count wins, or cards are not accepted;
the first winning template by index, whose fields must be digits within the payload, else MALFORMED; BAD_CHECK where the check
field differs from the weighted sum modulo 97; and otherwise the key, with the event code where the template has an event field.
The byte values of the digits and the capital letters are the model's (log entry 50).
The bucket index of a key (R14), which lies below B, and by which a Card key and a Barcode key with one value reach
different buckets.
The probe sequence is P different buckets, each after the first the next one modulo B, and its 4 × P different slots stand bucket
by bucket, by ascending number in each (R15, R21). A lookup searches those slots and finds a record exactly where one of them holds
the key; in a well-formed table it finds the record of that key; while a sweep runs it finds nothing (R21). -/
def Obligations.BucketsAndProbeSequence : Prop :=
  (∀ (p : Policy) (prof : Profile),
    let decoded := decodePresentation p prof
    let digit := fun (b : Byte) => 0x30 ≤ b.toNat ∧ b.toNat ≤ 0x39
    let legal := fun (b : Byte) => digit b ∨ (0x41 ≤ b.toNat ∧ b.toNat ≤ 0x5A)
    let accepted := fun (i : Fin 16) (t : Template) =>
      prof.templates.getLsbD i.val = true ∧ i.val < min 16 ((48 - 4 * p.np) / 2) ∧ p.templates.get i = some t
    let wins := fun (t : Template) (x : List Byte) =>
      (t.lenMin ≤ x.length ∧ x.length ≤ t.lenMax) ∧
      (t.marker = [] ∨ (t.markerAt + t.marker.length ≤ x.length ∧ (x.drop t.markerAt).take t.marker.length = t.marker))
    decoded .collision = .failed .multipleCards ∧
    (∀ uid : List Byte,
      (uid.length ≠ 4 → uid.length ≠ 7 → uid.length ≠ 10 → decoded (.card uid) = .failed .malformed) ∧
      (uid.length = 4 ∨ uid.length = 7 ∨ uid.length = 10 →
        (prof.cards = false → decoded (.card uid) = .failed .noFormat) ∧
        (prof.cards = true →
          decoded (.card uid) = .decoded ⟨.card, uid.foldl (fun a b => a * 256 + b.toNat) 0⟩ none))) ∧
    (∀ x : List Byte,
      (x.length < 4 ∨ 48 < x.length ∨ (∃ b ∈ x, ¬legal b) → decoded (.barcode x) = .failed .malformed) ∧
      (4 ≤ x.length → x.length ≤ 48 → (∀ b ∈ x, legal b) →
        ((∀ i t, accepted i t → ¬wins t x) → decoded (.barcode x) = .failed .noFormat) ∧
        ∀ i t, accepted i t → wins t x → (∀ j u, j < i → accepted j u → ¬wins u x) →
          let chars := fun (o n : Nat) => (x.drop o).take n
          let digits := fun (o n : Nat) => o + n ≤ x.length ∧ ∀ b ∈ chars o n, digit b
          let value := fun (ds : List Byte) => ds.foldl (fun a b => a * 10 + (b.toNat - 0x30)) 0
          let good := (t.eventLen = 0 ∨ digits t.eventAt t.eventLen) ∧ digits t.serialAt t.serialLen ∧
            (t.checkLen = 0 ∨ digits t.checkAt t.checkLen)
          let d := (if t.eventLen = 0 then [] else chars t.eventAt t.eventLen) ++ chars t.serialAt t.serialLen
          let sum := (d.zipIdx.map fun y => (y.1.toNat - 0x30) * (y.2 % 7 + 2)).sum % 97
          (¬good → decoded (.barcode x) = .failed .malformed) ∧
          (good → t.checkLen ≠ 0 → value (chars t.checkAt t.checkLen) ≠ sum → decoded (.barcode x) = .failed .badCheck) ∧
          (good → t.checkLen = 0 ∨ value (chars t.checkAt t.checkLen) = sum →
            decoded (.barcode x) = .decoded ⟨.barcode, value (chars t.serialAt t.serialLen)⟩
              (if t.eventLen = 0 then none else some (value (chars t.eventAt t.eventLen))))))) ∧
  (∀ (B v : Nat), B ∈ [1024, 2048, 4096, 8192, 16384, 32768] →
    bucketOf B ⟨.barcode, v⟩ = v % 65521 % B ∧ bucketOf B ⟨.card, v⟩ = (v % 65521 + 29959) % 65521 % B ∧
    bucketOf B ⟨.barcode, v⟩ < B ∧ bucketOf B ⟨.card, v⟩ < B ∧ bucketOf B ⟨.card, v⟩ ≠ bucketOf B ⟨.barcode, v⟩) ∧
  (∀ (s : State) (k : Key),
    (s.table.sweeping = true → s.lookup k = none) ∧
    (s.table.sweeping = false →
      (s.lookup k = none ↔ ∀ n ∈ s.table.probeSlots k, ∀ r, s.table.slotAt n = some r → r.key ≠ k) ∧
      (∀ n r, s.lookup k = some (n, r) → n ∈ s.table.probeSlots k ∧ s.table.slotAt n = some r ∧ r.key = k) ∧
      (s.table.wf → ∀ n r, (n, r) ∈ s.table.slots → r.key = k → s.lookup k = some (n, r)))) ∧
  (∀ (t : Table) (k : Key), t.buckets ∈ [1024, 2048, 4096, 8192, 16384, 32768] → t.probe ≤ 8 →
    (probeBuckets t.buckets t.probe k).length = t.probe ∧ (probeBuckets t.buckets t.probe k).Nodup ∧
    (∀ (i : Nat) (h : i < (probeBuckets t.buckets t.probe k).length),
      (probeBuckets t.buckets t.probe k)[i] = (bucketOf t.buckets k + i) % t.buckets) ∧
    (t.probeSlots k).length = 4 * t.probe ∧ (t.probeSlots k).Nodup ∧
    (∀ (i : Nat) (h : i < (t.probeSlots k).length),
      (t.probeSlots k)[i] = 4 * ((bucketOf t.buckets k + i / 4) % t.buckets) + i % 4) ∧
    ∀ n, n ∈ t.probeSlots k ↔ n / 4 ∈ probeBuckets t.buckets t.probe k)

/-- The window test on a Set clock (R45, R46): a window within one day, and one that wraps midnight, whose gap takes the reason
of its nearer edge.
The cooldown test on event times of a day (R49): it fails exactly while the time since the last movement, taken modulo a
day, is below ten times the cooldown in seconds.
The state test by class (R48): a STAFF record passes; GROUP enters again while INSIDE and below its allowance; UNUSED and
OUTSIDE fail at the allowance, and OUTSIDE by the cooldown. -/
def Obligations.ChecksOnARecord : Prop :=
  ((∀ t, windowTest (some t) none = none) ∧
  (∀ t opens closes : Nat, opens < closes →
    (t < opens → windowTest (some t) (some ⟨opens, closes⟩) = some .tooEarly) ∧
    (opens ≤ t → t < closes → windowTest (some t) (some ⟨opens, closes⟩) = none) ∧
    (closes ≤ t → windowTest (some t) (some ⟨opens, closes⟩) = some .tooLate)) ∧
  ∀ t opens closes : Nat, closes < opens →
    (opens ≤ t ∨ t < closes → windowTest (some t) (some ⟨opens, closes⟩) = none) ∧
    (closes ≤ t → t < opens →
      (opens - t ≤ t - closes → windowTest (some t) (some ⟨opens, closes⟩) = some .tooEarly) ∧
      (t - closes < opens - t → windowTest (some t) (some ⟨opens, closes⟩) = some .tooLate))) ∧
  (∀ (cooldown now : Nat) (last : Last),
    (now < 864000 → ∀ lt, last.time = some lt → lt < 864000 →
      (cooldownTest cooldown (some now) (some last) = some .cooldown ↔ ((now : Int) - lt) % 864000 < 10 * cooldown) ∧
      (cooldownTest cooldown (some now) (some last) = none ↔ ¬((now : Int) - lt) % 864000 < 10 * cooldown)) ∧
    cooldownTest 0 (some now) (some last) = none ∧ cooldownTest cooldown (some now) none = none) ∧
  (∀ (cooldown : Nat) (t : Option Nat) (r : Record),
    (r.cls = .staff → r.stateTest cooldown t = none) ∧
    (r.cls ≠ .staff →
      (∀ h, r.state = .held h → r.stateTest cooldown t = some .inPassage) ∧
      (r.state = .resting .inside →
        (r.cls = .group ∧ r.used < r.allowance → r.stateTest cooldown t = none) ∧
        (¬(r.cls = .group ∧ r.used < r.allowance) → r.stateTest cooldown t = some .alreadyIn)) ∧
      (r.state = .resting .spent → r.stateTest cooldown t = some .spent) ∧
      (r.state = .resting .unused →
        (r.used < r.allowance → r.stateTest cooldown t = none) ∧ (r.allowance ≤ r.used → r.stateTest cooldown t = some .spent)) ∧
      (r.state = .resting .outside →
        (r.used < r.allowance → r.stateTest cooldown t = cooldownTest cooldown t r.last) ∧
        (r.allowance ≤ r.used → r.stateTest cooldown t = some .spent))))

/-! ## Shared operations -/

/-- One raising of a cause (R180): its count rises, saturating at 255, its detail is replaced, it is pending; a cause that becomes
pending while it is reportable and no event frame waits makes the report wanted (R182). In STANDBY a cause that becomes pending
below the wake threshold releases the mode (R159), but for a cause of the dormant entry itself (R158).
An error occurs (R185, R186): its flag and count; where it is unmasked, ERROR_SERIOUS or ERROR_ADVISORY with the kind's
number, and for a serious kind the armed First Error capture; for OVERSIZE, MALFORMED_FRAME and UNKNOWN_REQUEST the armed header
log. -/
def Obligations.EventsAndErrorsRecorded : Prop :=
  (∀ (s : State) (c : Cause) (d : Option Nat),
    let i := causeIndex c
    let old := s.evu.causes.get i
    let causes := s.evu.causes.set i.val { pending := true, count := min 255 (old.count + 1), detail := d } i.isLt
    let offered := old.pending = false ∧ s.evu.level i < s.evu.reportThreshold ∧ s.evu.level i ≠ 7 ∧
      ∀ f ∈ s.trunk.reportQ, f.body ≠ .eventList
    let released := s.bcm.mode = .standby ∧ s.bcm.entering = false ∧ old.pending = false ∧ s.evu.level i < s.evu.wakeThreshold
    let t := s.raise c d
    (¬released → offered → t = { s with evu := { s.evu with causes := causes, wanted := true } }) ∧
    (¬released → ¬offered → t = { s with evu := { s.evu with causes := causes } }) ∧
    (released →
      t.bcm = { s.bcm with mode := .service } ∧ (t.evu.causes.get 23).pending = true ∧ (t.evu.causes.get 18).pending = true ∧
      (∀ j, j ≠ 23 → j ≠ 18 → t.evu.causes.get j = causes.get j) ∧
      (s.link.running = false → s.link.stopping = false →
        t.link.running = true ∧ t.link.parity = false ∧ t.link.next = 0 ∧ t.link.cycleStart = s.now) ∧
      t = { s with evu := t.evu, bcm := t.bcm, link := t.link })) ∧
  (∀ (s : State) (k : ErrorKind) (lane : Option LaneNo) (bytes : List Byte),
    let i := errorIndex k
    let old := s.evu.errors.get i
    let number : Fin 24 := if k.serious then 20 else 21
    let t := s.errorOccurs k lane bytes
    t.evu.errors = s.evu.errors.set i.val { old with detected := true, count := min 255 (old.count + 1) } i.isLt ∧
    (old.masked = true → t.evu.causes = s.evu.causes ∧ t.evu.firstError = s.evu.firstError) ∧
    (old.masked = false →
      t.evu.causes.get number =
        { pending := true, count := min 255 ((s.evu.causes.get number).count + 1), detail := some i.val } ∧
      (k.serious = true → s.evu.firstError = none →
        t.evu.firstError = some { kind := k, time := s.bcm.clock, lane := lane }) ∧
      (k.serious = false ∨ s.evu.firstError ≠ none → t.evu.firstError = s.evu.firstError)) ∧
    (k = .oversize ∨ k = .malformedFrame ∨ k = .unknownRequest → s.evu.headerLog = none →
      t.evu.headerLog = some { kind := k, bytes := bytes.take 16 }) ∧
    (¬(k = .oversize ∨ k = .malformedFrame ∨ k = .unknownRequest) ∨ s.evu.headerLog ≠ none →
      t.evu.headerLog = s.evu.headerLog) ∧
    (s.bcm.mode ≠ .standby → t = { s with evu := t.evu }))

/-- An admission record is written (R140, R141): below 8,192 undrained records it is kept, a full ring losing its oldest; at
8,192 it is dropped under REFUSE, and under OVERWRITE the oldest goes. LOG_HIGH and LOG_FULL mark the rise to 6,144 and 8,160
(R142), and the drain tests (R145). The rise of LogFull makes the triggers of R133. -/
def Obligations.LogRecordWritten : Prop :=
  ∀ (s : State) (a : Admission),
    let e : Entry := { seq := s.log.nextSeq, written := s.now, admission := a }
    let g := s.log
    let t := s.writeLog a
    (g.undrained < 8192 →
      t.log = { g with
        nextSeq := (g.nextSeq + 1) % 2 ^ 32, undrained := g.undrained + 1, due := t.tallyDue,
        kept := (if g.kept.length < 8192 then g.kept else g.kept.tail) ++ [e] } ∧
      (g.undrained + 1 = 6144 → (t.evu.causes.get 12).pending = true) ∧
      (g.undrained + 1 = 8160 → (t.evu.causes.get 13).pending = true) ∧
      (g.undrained + 1 ≠ 6144 → g.undrained + 1 ≠ 8160 → t.evu = s.evu)) ∧
    (8192 ≤ g.undrained → g.policy = .refuse →
      t.log = { g with lost := min 65535 (g.lost + 1) } ∧ (t.evu.errors.get 11).detected = true) ∧
    (8192 ≤ g.undrained → g.policy = .overwrite →
      t.log = { g with
        nextSeq := (g.nextSeq + 1) % 2 ^ 32, lost := min 65535 (g.lost + 1), kept := g.kept.tail ++ [e],
        due := t.tallyDue } ∧ (t.evu.errors.get 11).detected = true) ∧
    t = { s with log := t.log, evu := t.evu, bcm := { s.bcm with mode := t.bcm.mode }, link := { t.link with slots := s.link.slots } } ∧
    s.triggers t ∧ (s.bcm.mode ≠ .standby → t.bcm = s.bcm)

/-- A Refuse or Refer verdict reaches the lane (R52, R79, R85): the count, the command with the display time in force, and
REFUSING without a key while the bank is OPEN, CLOSED otherwise. With its record the reservation is released before and the
record is written (R52); the refer set decides which verdict it is (R51). That the record has the event time of its writing (log
entry 46) and a clear provisional flag (log entry 43), and that a refusal without a reason, as a home's answer may bring it, is no
Referral and is logged without a reason (log entry 52), is the model's choice.
A Grant verdict reaches the lane (R54, R79, R81, R89): OPEN with its key and result, the pass window not yet running, the
mate mark cleared, the count, and the Grant command in the lane's slots with the pass window in force and the direction of
the lane. -/
def Obligations.VerdictsReachTheLane : Prop :=
  (∀ (s : State) (l : LaneNo),
    (∀ (v : Verdict) (cls : Option TicketClass),
      let t := s.sendRefusal l v cls
      let n := s.lane l
      let counts := if v = .refer then { n.counts with refers := min 65535 (n.counts.refers + 1) }
        else { n.counts with refusals := min 65535 (n.counts.refusals + 1) }
      let command := if v = .refer then VerdictCommand.refer n.profile.display else .refuse n.profile.display
      (s.bcm.mode = .opened → t.lane l = { n with
        state := .refusing, key := none, query := none, passTimer := none, displayTimer := none, counts := counts,
        result := some { verdict := v, authority := none, cls := cls, zone := none, provisional := false, held := false } }) ∧
      (s.bcm.mode ≠ .opened → (t.lane l).state = .closed ∧ (t.lane l).key = none ∧ (t.lane l).result = none ∧
        (t.lane l).counts = counts) ∧
      (∀ k ∈ s.slotsOf l, (t.slot k).verdict = some command ∧ (t.slot k).undelivered = false ∧
        (t.slot k).lamp = if s.bcm.mode = .opened then none else some .closed) ∧
      (∀ m, m ≠ l → t.lane m = s.lane m) ∧ (∀ k, k ∉ s.slotsOf l → t.slot k = s.slot k) ∧
      t = { s with lanes := t.lanes, link := { s.link with slots := t.link.slots } }) ∧
    ∀ (reason : Option Reason) (key : Option Key) (cls : Option TicketClass) (used : Option Nat),
      let referred := ∃ e, reason = some e ∧ (s.lane l).profile.refer.getLsbD (reasonCode e) = true
      let record := fun (o : Outcome) => State.writeLog
        { time := s.bcm.clock, bank := s.ownBank, lane := l, outcome := o, reason := reason, cls := cls, key := key,
          zone := none, used := used, provisional := false }
      (referred → s.refuse l reason key cls used = (record .referred (s.release l)).sendRefusal l .refer cls) ∧
      (¬referred → s.refuse l reason key cls used = (record .refused (s.release l)).sendRefusal l .refuse cls)) ∧
  (∀ (s : State) (l : LaneNo) (key : Option Key) (res : DecisionResult),
    let t := s.openLane l key res
    let n := s.lane l
    t.lane l = { n with
      state := .opened, key := key, result := some res, query := none, passTimer := none, displayTimer := none, mate := none,
      counts := { n.counts with grants := min 65535 (n.counts.grants + 1) } } ∧
    (∀ k ∈ s.slotsOf l,
      t.slot k = { s.slot k with
        lamp := none, undelivered := false,
        verdict := some (.grant (if n.direction = .exit then .exit else .entry) n.profile.passWindow) }) ∧
    (∀ m, m ≠ l → t.lane m = s.lane m) ∧ (∀ k, k ∉ s.slotsOf l → t.slot k = s.slot k) ∧
    t = { s with lanes := t.lanes, link := { s.link with slots := t.link.slots } })

/-- A lane's reservation (R62 to R65): reserve, commit and release move the zone's counts, and change nothing else but the lane's
reservation. A reservation or a commit after which the zone is full raises ZONE_FULL with the zone's number, and no other does, nor
does a release (R70). A change of AnyZoneFull makes the triggers of R133, and nothing else does. -/
def Obligations.ReservationMovesZoneCounts : Prop :=
  ∀ (s : State) (l : LaneNo) (z : ZoneNo),
    let x := s.zone z
    let filled := fun (t : State) => t.evu.causes.get 6 =
      { pending := true, count := min 255 ((s.evu.causes.get 6).count + 1), detail := some z.val }
    let framed := fun (t : State) =>
      t = { s with
        zones := t.zones, lanes := t.lanes, evu := t.evu, bcm := { s.bcm with mode := t.bcm.mode },
        link := { t.link with slots := s.link.slots } } ∧ s.triggers t ∧
      (s.bcm.mode ≠ .standby → t.bcm = s.bcm ∧ t.link = { s.link with trigger := t.link.trigger })
    (let t := s.reserve l z
     t.zone z = { x with held := x.held + 1 } ∧ t.lane l = { s.lane l with reservation := some z } ∧
     (∀ y, y ≠ z → t.zone y = s.zone y) ∧ (∀ m, m ≠ l → t.lane m = s.lane m) ∧
     (0 < x.quota → x.quota ≤ x.entered + x.held + 1 → filled t) ∧
     (x.quota = 0 ∨ x.entered + x.held + 1 < x.quota → t.evu = s.evu) ∧ framed t) ∧
    ((s.lane l).reservation = some z →
      (let t := s.release l
       t.zone z = { x with held := x.held - 1 } ∧ t.lane l = { s.lane l with reservation := none } ∧
       (∀ y, y ≠ z → t.zone y = s.zone y) ∧ (∀ m, m ≠ l → t.lane m = s.lane m) ∧ s.triggers t ∧
       t = { s with zones := t.zones, lanes := t.lanes, link := { s.link with trigger := t.link.trigger } }) ∧
      (let t := s.commitZone l
       (0 < x.held → t.zone z = { x with held := x.held - 1, entered := x.entered + 1 }) ∧
       t.lane l = { s.lane l with reservation := none } ∧
       (∀ y, y ≠ z → t.zone y = s.zone y) ∧ (∀ m, m ≠ l → t.lane m = s.lane m) ∧
       (0 < x.quota → x.quota ≤ x.entered + x.held → filled t) ∧
       (x.quota = 0 ∨ x.entered + x.held < x.quota → t.evu = s.evu) ∧ framed t)) ∧
    ((s.lane l).reservation = none → s.release l = s ∧ s.commitZone l = s)

/-! ## Decisions -/

/-- The nine checks in their order and the reason of the first that fails (R40 to R50), and then the authority (R53): STAFF
without a hold, the bank by a hold, the home by a query, and a Degraded decision by the offline set. -/
def Obligations.EntryDecisionOrder : Prop :=
  ∀ (s : State) (l : LaneNo) (p : Presentation),
    let prof := (s.lane l).profile
    let granted := fun (a : Authority) (r : Record) (z : Option ZoneNo) (held : Bool) => ({
      verdict := .grant, authority := some a, cls := some r.cls, zone := z, provisional := decide (a = .degraded),
      held := held } : DecisionResult)
    s.entryDecision l p =
      if s.log.policy = .refuse ∧ 8160 ≤ s.log.undrained then
        { s with log := { s.log with unlogged := min 65535 (s.log.unlogged + 1) } }.sendRefusal l
          (if prof.refer.getLsbD 0 then .refer else .refuse) none
      else match decodePresentation s.policy prof p with
        | .failed e => s.refuse l (some e) none none none
        | .decoded k code =>
          match s.lookup k with
          | none => s.refuse l (some .unknown) (some k) none none
          | some (i, r) =>
            let refused := fun (e : Reason) (u : State) => u.refuse l (some e) (some k) (some r.cls) (some r.used)
            let held := fun (u : State) (a : Authority) => (u.putRecord i (r.hold (.lane l (u.lane l).reservation))).openLane l (some k)
              (granted a r (u.lane l).reservation true)
            let decided := fun (u : State) =>
              if r.cls = .staff then u.openLane l (some k) (granted .byBank r none false)
              else if u.bank = some r.home ∨ (u.peer r.home).present = false then held u .byBank
              else if (u.peer r.home).state = .down then
                (if prof.offline.getLsbD (classCode r.cls) then held u .degraded else refused .homeUnreachable u)
              else u.sendQuery l k code r
            if r.isRevoked then refused .revoked s
            else if code.isSome ∧ r.multiEvent = false ∧ s.bcm.code ≠ code then refused .wrongEvent s
            else match windowTest s.bcm.clock r.window with
              | some e => refused e s
              | none =>
                if r.zones &&& prof.zones = 0 then refused .wrongGate s
                else match r.stateTest prof.cooldown s.bcm.clock with
                  | some e => refused e s
                  | none =>
                    if r.cls = .staff ∨ (r.state = .resting .outside ∧ 1 ≤ r.used) then decided s
                    else match (List.finRange 16).find? fun z =>
                        (r.zones &&& prof.zones).getLsbD z.val && decide ((s.zone z).entered + (s.zone z).held < (s.zone z).quota) with
                      | none => refused .zoneFull s
                      | some z => decided (s.reserve l z)

/-- An Admission Query goes to the record's home with the first tag, counting up from the next-tag value, that no list holds, and the
next-tag value becomes the one after it; the lane waits QUERYING with its reservation
kept, and the deadline is the query timeout away (R55, R102 to R104); an undelivered verdict of the REFUSING that it leaves, in the
lane's slots, is discarded (R126). Where the Peer Queue is full the confirming hold decides
at once (R103). -/
def Obligations.QuerySentToHome : Prop :=
  ∀ (s : State) (l : LaneNo) (k : Key) (code : Option Nat) (r : Record),
    let prof := (s.lane l).profile
    let tag := s.peers.freshTag
    let left := s.endVerdict l
    left = { s with link := { s.link with slots := left.link.slots } } ∧
    (∀ m, left.slot m = if m ∈ s.slotsOf l ∧ (s.slot m).undelivered = true then
      { s.slot m with verdict := none, undelivered := false } else s.slot m) ∧
    (s.trunk.peerQ.length < 32 →
      s.sendQuery l k code r = { s with
        link := left.link,
        trunk := { s.trunk with peerQ := s.trunk.peerQ ++ [{
          dst := bankByte r.home, kind := .query, tag := tag,
          body := .bytes (keyBytes k ++ [laneByte l] ++ be 2 prof.passWindow ++ be 2 prof.cooldown) }] },
        peers := { s.peers with
          nextTag := tag + 1,
          queries := s.peers.queries ++ [{
            tag := tag, lane := l, home := r.home, key := k, zone := (s.lane l).reservation,
            deadline := s.now + s.peers.queryTimeout }] },
        lanes := s.lanes.set l.val { s.lane l with
          state := .querying, key := some k, query := some { code := code, cls := r.cls }, result := none,
          passTimer := none, displayTimer := none } l.isLt }) ∧
    (32 ≤ s.trunk.peerQ.length →
      s.sendQuery l k code r = ({ s with peers := { s.peers with nextTag := tag + 1 } }.confirmHold l k code).1) ∧
    (s.peers.queries.length + s.peers.lapsed.length < 256 →
      (∀ q ∈ s.peers.queries, q.tag ≠ tag) ∧ (∀ q ∈ s.peers.lapsed, q.tag ≠ tag) ∧
      ∃ i : Nat, i < 256 ∧ tag = s.peers.nextTag + BitVec.ofNat 8 i ∧ ∀ j < i,
        (∃ q ∈ s.peers.queries, q.tag = s.peers.nextTag + BitVec.ofNat 8 j) ∨
        ∃ q ∈ s.peers.lapsed, q.tag = s.peers.nextTag + BitVec.ofNat 8 j)

/-- The confirming hold (R57): checks 3 to 8 on the record as now found, then STAFF without a hold or a charge, a class of the
offline set with a provisional hold and the kept reservation, any other class HOME_UNREACHABLE. The answer says whether it
granted. That the STAFF grant stands under authority Local, not provisional, with the reservation released, is the model's choice
(log entry 19). -/
def Obligations.ConfirmingHoldDecides : Prop :=
  ∀ (s : State) (l : LaneNo) (k : Key) (code : Option Nat),
    (s.lookup k = none → s.confirmHold l k code = (s.refuse l (some .unknown) (some k) none none, false)) ∧
    ∀ i r, s.lookup k = some (i, r) →
      (∀ e, checkRecord s.bcm.code code s.bcm.clock (s.lane l).profile r = some e →
        s.confirmHold l k code = (s.refuse l (some e) (some k) (some r.cls) (some r.used), false)) ∧
      (checkRecord s.bcm.code code s.bcm.clock (s.lane l).profile r = none →
        (r.cls = .staff → s.confirmHold l k code =
          ((s.release l).openLane l (some k)
            { verdict := .grant, authority := some .byBank, cls := some .staff, zone := none, provisional := false,
              held := false }, true)) ∧
        (r.cls ≠ .staff → (s.lane l).profile.offline.getLsbD (classCode r.cls) = false →
          s.confirmHold l k code = (s.refuse l (some .homeUnreachable) (some k) (some r.cls) (some r.used), false)) ∧
        (r.cls ≠ .staff → (s.lane l).profile.offline.getLsbD (classCode r.cls) = true → ∀ p, r.state = .resting p →
          s.confirmHold l k code =
            ((s.putRecord i { r with state := (.held
                { holder := .lane l (s.lane l).reservation, prior := p, revokePending := none }) }).openLane l (some k)
              { verdict := .grant, authority := some .degraded, cls := some r.cls, zone := (s.lane l).reservation,
                provisional := true, held := true }, true)))

/-! ## The Lane Link -/

/-- A new cycle starts once the last slot has ended, never before the period has passed (R123): parity alternates, every Lost slot
becomes Absent (R128), the automatic header's place comes from the start offset in force (R132), a link test set up begins
(R134), and a change of CycleParity at a selected position with its edge enabled makes a trigger (R133).
That the cycle moves the time base up to its start is the model's choice (log entry 3).
What the end of a slot does (R94, R123, R134, R136): the next slot follows, no reply is awaited, the slot's command is no longer
in progress, the access at the lane counts the slot, and slot 15 counts a cycle of the test in progress. A link told to stop stops
as the slot ends, with all that the stop does (R136, `State.linkStopped`), and starts anew where the bank has left the dormant mode
meanwhile (the model's choice, log entry 7); that the stop takes the lanes by ascending number is the model's choice too (log entry
48). -/
def Obligations.LaneCycleStarts : Prop :=
  (∀ s : State, s.mayDrive = true → s.link.next = 16 →
    ∃ t, exec .laneCycleStart s = .next t ∧
      t.now = max s.now (s.link.cycleStart + s.link.period) ∧
      t.link = { s.link with
        cycleStart := t.now, next := 0, gapHeader := false, autoDone := false, autoAt := s.link.settings.offset,
        parity := !s.link.parity, trigger := t.link.trigger, slots := t.link.slots,
        test := s.link.test.map fun x => { x with begun := true } } ∧
      (∀ l, t.slot l = { s.slot l with link := if (s.slot l).link = .lost then .absent else (s.slot l).link }) ∧
      (t.link.trigger = true ↔ s.link.trigger = true ∨ (s.link.settings.bankWord = true ∧ ∃ p : Fin 8,
        s.link.settings.select.get p = .cycleParity ∧
        ((s.link.parity = false ∧ s.link.settings.rising.getLsbD p.val = true) ∨
         (s.link.parity = true ∧ s.link.settings.falling.getLsbD p.val = true)))) ∧
      t = { s with now := t.now, link := t.link }) ∧
  (∀ (s : State) (l : LaneNo),
    let t := s.endSlot l
    let counts := l.val = 15 ∧ ∃ x, s.link.test = some x ∧ x.begun = true
    let cycles := if l.val = 15 ∧ (s.link.test.map fun x => x.begun) = some true then s.link.cyclesRun + 1 else s.link.cyclesRun
    (s.link.stopping = false →
      (counts → cycles = s.link.cyclesRun + 1) ∧ (¬counts → cycles = s.link.cyclesRun) ∧
      t = { s with
        link := { s.link with
          awaiting := false, next := l.val + 1, gapHeader := false, cyclesRun := cycles,
          slots := s.link.slots.set l.val { s.slot l with sent := none } l.isLt },
        mge := { s.mge with phase := match s.mge.phase with
          | .accessing h a => .accessing h (if a.lane = l then { a with slots := a.slots.map fun n => n + 1 } else a)
          | p => p } }) ∧
    (s.link.stopping = true →
      t.link.stopping = false ∧ t.link.awaiting = false ∧ (∀ k, (t.slot k).link = .absent) ∧ s.linkStopped t ∧
      (s.bcm.mode = .standby ∨ s.bcm.mode = .deep → t.link.running = false ∧ t.link.trigger = false) ∧
      (s.bcm.mode ≠ .standby → s.bcm.mode ≠ .deep →
        t.link.running = true ∧ t.link.parity = false ∧ t.link.next = 0 ∧ t.link.cycleStart = s.now)))

/-- A header (R130 to R133, R195): the automatic one before the slot of the start offset, with the pending settings come into
force, and a triggered one in a gap that neither holds nor will hold a header. It carries the configured words and then, where
enabled, the Bank Word, whose low byte is the eight selected flags and whose high byte their complement; it satisfies every
pending trigger.
The flag sources of R131, each with its condition (R71, R98, R142, R155). The triggers of R133 (`State.triggers`): an operation that
changes a flag leaves a trigger pending exactly where one was, or where a flag selected at a position rose or fell with that
edge enabled there and the Bank Word enabled; so it is for a change of a zone, of a peer, of the mode, and of any part of the state
that leaves the trigger itself alone. -/
def Obligations.HeadersSent : Prop :=
  (∀ s : State,
    s.flag .zero = false ∧ s.flag .one = true ∧ (s.flag .bankOpen = true ↔ s.bcm.mode = .opened) ∧
    (s.flag .closing = true ↔ s.bcm.mode = .closing) ∧ s.flag .surge = s.bcm.surge.flag ∧
    (s.flag .degraded = true ↔ ∃ b : BankNo, (s.peer b).present = true ∧ (s.peer b).state = .down ∧ s.bank ≠ some b) ∧
    (s.flag .anyZoneFull = true ↔
      ∃ z : ZoneNo, 0 < (s.zone z).quota ∧ (s.zone z).quota ≤ (s.zone z).entered + (s.zone z).held) ∧
    (s.flag .logFull = true ↔ 8160 ≤ s.log.undrained) ∧ s.flag .cycleParity = s.link.parity) ∧
  (∀ (s : State) (f : State → State), (f s).link.trigger = s.link.trigger →
    s.triggers (s.flagging f) ∧ s.flagging f = { f s with link := { (f s).link with trigger := (s.flagging f).link.trigger } }) ∧
  (∀ (s : State) (z : ZoneNo) (f : Zone → Zone), s.triggers (s.modZone z f) ∧
    s.modZone z f = { s with
      zones := s.zones.set z.val (f (s.zone z)) z.isLt, link := { s.link with trigger := (s.modZone z f).link.trigger } }) ∧
  (∀ (s : State) (b : BankNo) (f : Peer → Peer), s.triggers (s.modPeer b f) ∧
    s.modPeer b f = { s with
      peers := { s.peers with entries := s.peers.entries.set b.val (f (s.peer b)) b.isLt },
      link := { s.link with trigger := (s.modPeer b f).link.trigger } }) ∧
  (∀ (s : State) (m : BankMode), s.triggers (s.setMode m) ∧
    s.setMode m = { s with
      bcm := { s.bcm with mode := m }, link := { s.link with trigger := (s.setMode m).link.trigger } }) ∧
  ∀ s : State, s.mayDrive = true → s.link.next < 16 →
    let header := fun (h : HeaderSettings) (w : BitVec 16) =>
      let words := h.words.toList.take h.count ++ (if h.bankWord then [w] else [])
      withCheck ([128, byte (words.length + 128 * bit h.bankWord)] ++ words.flatMap fun x => be 2 x.toNat)
    let sampled := fun (h : HeaderSettings) (w : BitVec 16) =>
      ∀ p : Fin 8, w.getLsbD p.val = s.flag (h.select.get p) ∧ w.getLsbD (p.val + 8) = !s.flag (h.select.get p)
    (s.link.autoDone = false → s.link.autoAt = s.link.next →
      let h := s.link.pendingSettings.getD s.link.settings
      ∃ w, sampled h w ∧ exec .automaticHeader s = .next { s with link := { s.link with
        settings := h, pendingSettings := none, line := header h w, trigger := false, gapHeader := true, autoDone := true } }) ∧
    (s.link.autoDone = true ∨ s.link.autoAt ≠ s.link.next → s.link.trigger = true → s.link.gapHeader = false →
      ∃ w, sampled s.link.settings w ∧ exec .triggeredHeader s = .next { s with link := { s.link with
        line := header s.link.settings w, trigger := false, gapHeader := true } }) ∧
    ((s.link.autoDone = false ∧ s.link.autoAt = s.link.next) ∨ s.link.trigger = false ∨ s.link.gapHeader = true →
      exec .triggeredHeader s = .next s)

/-- The command that a reached slot carries (R79, R124): the reset indication; Poll in Absent and Joining; in an Active slot
Test while a test runs, else a due Repeat, else the first waiting of verdict, Parameter, Mode and Lamp, else Poll. That Test
comes before a due Repeat, which R124's table names first, follows R127 and R135 (log entry 27); that what waits is sent while the
lane is QUERYING too, and that a verdict starts a timer in its lane's own slot alone, is the model's choice (log entry 13), and so is that one Mode command
waits at most and carries the control image of its sending (log entry 51).
What the sending of a slot's command does: the message by the layout of R195, the reply window, the outstanding command
(R126), the repeat count (R127), the pass window timer of an OPEN lane and the display timer of a REFUSING one (R81, R85), and
the count of an access's slots (R94). Bytes that no rule gives are open (log entry 1). -/
def Obligations.SlotCarriesDueCommand : Prop :=
  (∀ (s : State) (l : LaneNo), s.slotReached l = true →
    let k := s.slot l
    (k.resetDue = true → exec (.modeCommand l) s = .next (s.sendSlot l (.mode none))) ∧
    (k.resetDue = false → k.link = .absent → exec (.poll l) s = .next (s.sendSlot l (.poll true))) ∧
    (k.resetDue = false → k.link = .joining → exec (.poll l) s = .next (s.sendSlot l (.poll false))) ∧
    (k.resetDue = false → k.link = .active →
      (∀ x, s.link.test = some x → x.begun = true → exec (.testCommand l) s = .next (s.sendSlot l (.test x.word))) ∧
      ((∀ x, s.link.test = some x → x.begun = false) →
        (k.repeatDue = true → exec (.repeatCommand l) s = .next (s.sendSlot l .again)) ∧
        (k.repeatDue = false →
          (∀ d w, k.verdict = some (.grant d w) →
            exec (.grantCommand l) s = .next (s.sendSlot l (.verdict (.grant d w)))) ∧
          (∀ d, k.verdict = some (.refuse d) → exec (.refuseCommand l) s = .next (s.sendSlot l (.verdict (.refuse d)))) ∧
          (∀ d, k.verdict = some (.refer d) → exec (.referCommand l) s = .next (s.sendSlot l (.verdict (.refer d)))) ∧
          (k.verdict = none →
            (∀ h a, k.parameterDue = true → s.mge.phase = .accessing h a → a.lane = l →
              exec (.parameterCommand l) s = .next (s.sendSlot l (.parameter a.number a.write a.value))) ∧
            (k.parameterDue = false →
              (k.modeDue = true → exec (.modeCommand l) s = .next (s.sendSlot l (.mode (some (s.lane l).control)))) ∧
              (k.modeDue = false →
                (∀ d, k.lamp = some d → exec (.lampCommand l) s = .next (s.sendSlot l (.lamp d))) ∧
                (k.lamp = none → exec (.poll l) s = .next (s.sendSlot l (.poll false)))))))))) ∧
  (∀ (s : State) (l : LaneNo) (c : SlotCommand),
    let t := s.sendSlot l c
    let k := s.slot l
    let kept := c = .again
    let counted := (∃ v, c = .verdict v) ∨ (∃ d, c = .lamp d) ∨ (∃ i, c = .mode (some i)) ∨ ∃ n w v, c = .parameter n w v
    t.link.line = withCheck (laneByte l :: match c with
      | .poll join => [0, byte (bit join)]
      | .verdict (.grant d w) => [1, byte (directionCode d)] ++ be 2 w
      | .verdict (.refuse x) => [2] ++ be 1 x
      | .verdict (.refer x) => [3] ++ be 1 x
      | .lamp d => [4, match d with | .ready => 0 | .closed => 1]
      | .mode (some i) => [5, 0] ++ imageBytes i
      | .mode none => [5, 1] ++ (List.range 6).map fun j => Config.freeByte s.draws j
      | .parameter n true v => [6, byte n, 1] ++ be 2 v.toNat
      | .parameter n false _ => [6, byte n, 0] ++ (List.range 2).map fun j => Config.freeByte s.draws j
      | .again => [7]
      | .test w => [8] ++ be 2 w.toNat) ∧
    t.link.awaiting = true ∧ (t.slot l).sent = some c ∧ (t.slot l).repeatDue = false ∧
    (kept → (t.slot l).repeatCount = k.repeatCount + 1 ∧ (t.slot l).outstanding = k.outstanding) ∧
    (¬kept → (t.slot l).repeatCount = 0) ∧ (counted → (t.slot l).outstanding = some c) ∧
    (¬kept → ¬counted → (t.slot l).outstanding = none) ∧
    ((∃ v, c = .verdict v) → (t.slot l).verdict = none ∧ (t.slot l).undelivered = false) ∧ ((∃ d, c = .lamp d) → (t.slot l).lamp = none) ∧
    ((∃ i, c = .mode (some i)) → (t.slot l).modeDue = false) ∧ (c = .mode none → (t.slot l).resetDue = false) ∧
    (∀ n w v, c = .parameter n w v → (t.slot l).parameterDue = false ∧
      ∀ h a, s.mge.phase = .accessing h a → t.mge.phase = .accessing h { a with slots := some (a.slots.getD 0) }) ∧
    (∀ d w, c = .verdict (.grant d w) → (s.lane l).state = .opened →
      t.lane l = { s.lane l with passTimer := some (s.now + 100 * w) }) ∧
    (∀ x, c = .verdict (.refuse x) ∨ c = .verdict (.refer x) → (s.lane l).state = .refusing →
      t.lane l = { s.lane l with displayTimer := some (s.now + 100 * x) }) ∧
    ((∀ v, c ≠ .verdict v) → t.lane l = s.lane l) ∧
    (∀ m, m ≠ l → t.lane m = s.lane m ∧ t.slot m = s.slot m) ∧
    t = { s with
      draws := s.draws + 1, lanes := t.lanes, mge := t.mge,
      link := { s.link with slots := t.link.slots, awaiting := true, line := t.link.line } })

/-- A new report from an Active slot goes where R125 says, its lane's outstanding command delivered (R126): nothing for
Nothing, a presentation to the sequencer of the lane, which is lane 2k for both heads of a combined pair (R89), ATTENTION and
JAM with the lane (R87); and it counts where a mate mark stands on its head (R89; when it counts is the model's choice, log entry
20). One that repeats the last report number is a duplicate and is not handed on; in answer to a Repeat it shows the outstanding
command undelivered, which becomes due again where no later command has replaced it and its verdict still stands, and is discarded
otherwise (R126), as one that waits again is when the lane leaves OPEN or REFUSING (LaneRestsIdleOrClosed, QuerySentToHome); that a Parameter command is so where its
access has ended (log entry 32), and that an undelivered Mode command becomes due as the one Mode command that waits (log entry 51), is
the model's choice.
A presentation at a sequencer (R80): decided in IDLE and REFUSING on an entry lane, granted there on an exit lane (R58), each
counted by the lane and by the surge estimator, which counts it also where the lane's count is saturated (the model's choice, log
entry 53); discarded and counted in QUERYING and OPEN; discarded otherwise. That the effective
direction decides, an override before the profile's direction, is the model's choice between R80 and R39 (log entry 44). -/
def Obligations.ReportsReachTheSequencer : Prop :=
  (∀ (s : State) (l : LaneNo) (k : Fin 8), k.val = l.val / 2 →
    let wide := (s.pairs.get k).inForce = true
    (s.combined l = true ↔ wide) ∧ (wide → (s.sequencer l).val = 2 * k.val) ∧ (¬wide → s.sequencer l = l) ∧
    (∀ m, m ∈ s.slotsOf l ↔ m = l ∨ (wide ∧ l.val = 2 * k.val ∧ m.val = l.val + 1)) ∧ (s.slotsOf l).Nodup) ∧
  (∀ (s : State) (l : LaneNo) (n : Fin 16), s.listens l .active →
    let u := s.heardReport l n
    let ends := fun (v : State) => (v.countMate l).thenSlotEnds l
    ((s.slot l).lastNumber ≠ some n →
      exec (.nothingReport l n) s = .next (ends u) ∧
      (∀ p, exec (.presentationReport l n p) s = .next (ends (u.present (s.sequencer l) p))) ∧
      exec (.buttonReport l n) s = .next (ends (u.raise .attention (some l.val))) ∧
      exec (.faultReport l n) s = .next (ends (u.raise .jam (some l.val)))) ∧
    ((s.slot l).lastNumber = some n → (s.slot l).sent ≠ some .again → ∀ p d,
      let v := (s.modSlot l fun k => { k with failureRun := 0, repeatCount := 0, repeatDue := false }).thenSlotEnds l
      exec (.presentationReport l n p) s = .next v ∧ exec (.passageReport l n d) s = .next v ∧
      exec (.buttonReport l n) s = .next v ∧ exec (.faultReport l n) s = .next v)) ∧
  (∀ (s : State) (l : LaneNo) (n : Fin 16) (c : SlotCommand), s.listens l .active → (s.slot l).lastNumber = some n →
    (s.slot l).sent = some .again → (s.slot l).outstanding = some c →
    let k := s.slot l
    let x := s.lane (s.sequencer l)
    let again := fun (f : Slot → Slot) => ∀ p d i,
      let v := (s.modSlot l fun y => f { y with failureRun := 0, repeatCount := 0, repeatDue := false, outstanding := none }).thenSlotEnds l
      exec (.presentationReport l n p) s = .next v ∧ exec (.passageReport l n d) s = .next v ∧
      exec (.buttonReport l n) s = .next v ∧ exec (.confirmReport l n i) s = .next v
    (∀ v, c = .verdict v →
      let stands := match v with
        | .grant _ _ => x.state = .opened
        | .refuse _ => x.state = .refusing ∧ ∃ r, x.result = some r ∧ r.verdict = .refuse
        | .refer _ => x.state = .refusing ∧ ∃ r, x.result = some r ∧ r.verdict = .refer
      (k.verdict = none → stands → again fun y => { y with verdict := some v, undelivered := true, lamp := none }) ∧
      (k.verdict ≠ none ∨ ¬stands → again id)) ∧
    (∀ d, c = .lamp d →
      (k.verdict = none → k.lamp = none → again fun y => { y with lamp := some d }) ∧
      (k.verdict ≠ none ∨ k.lamp ≠ none → again id)) ∧
    (∀ i, c = .mode (some i) → again fun y => { y with modeDue := true }) ∧
    (∀ i w v, c = .parameter i w v →
      ((∃ h a, s.mge.phase = .accessing h a ∧ a.lane = l) → again fun y => { y with parameterDue := true }) ∧
      ((∀ h a, s.mge.phase = .accessing h a → a.lane ≠ l) → again id))) ∧
  (∀ (s : State) (l : LaneNo) (p : Presentation),
    let n := s.lane l
    let counted := { s with
      lanes := s.lanes.set l.val { n with
        displayTimer := none, counts := { n.counts with presentations := min 65535 (n.counts.presentations + 1) } } l.isLt,
      bcm := { s.bcm with surge := { s.bcm.surge with count := min 65535 (s.bcm.surge.count + 1) } } }
    (n.state = .idle ∨ n.state = .refusing →
      (n.direction = .entry → s.present l p = counted.entryDecision l p) ∧
      (n.direction = .exit → s.present l p = counted.openLane l
        (match decodePresentation s.policy n.profile p with | .decoded k _ => some k | .failed _ => none)
        { verdict := .grant, authority := some .byBank, cls := none, zone := none, provisional := false, held := false }) ∧
      (n.direction = .freeExit ∨ n.direction = .closed → s.present l p = s)) ∧
    (n.state = .querying ∨ n.state = .opened →
      s.present l p = { s with
        lanes := s.lanes.set l.val { n with
          counts := { n.counts with busyDiscards := min 65535 (n.counts.busyDiscards + 1) } } l.isLt }) ∧
    (n.state = .closed → s.present l p = s))

/-- A Confirm from an Active slot (R91): equal to the control image it ends the lane command in progress, with
LANE_COMMAND_DONE where the confirmed image changed to it, also where it answers the Mode command of the unit's becoming Active (the
model's choice, log entry 41); unequal it queues a Mode command, one with any that waits already (the model's choice, log entry 51).
A Lane Parameter Access (R94): a Parameter Answer after its Parameter command ends it OK with the value, and the end of the
lane's third slot without one ends it REFUSED with cause FAILED; either way LANE_ACCESS_DONE is raised with the lane. That a
Parameter command still waiting is discarded with the access is the model's choice (log entry 32), and so are a timeout out of its
turn, which does nothing (log entry 4), and the count of a report at a marked head (log entry 20). -/
def Obligations.ConfirmAndAnswerEndWork : Prop :=
  (∀ (s : State) (l : LaneNo) (n : Fin 16) (i : ControlImage), s.listens l .active → (s.slot l).lastNumber ≠ some n →
    let u := s.heardReport l n
    let ends := fun (v : State) => (v.countMate l).thenSlotEnds l
    let x := s.lane l
    let done := u.modLane l fun _ => { x with confirmed := some i, commanding := false }
    (i = x.control → x.commanding = true → x.confirmed ≠ some i →
      exec (.confirmReport l n i) s = .next (ends (done.raise .laneCommandDone (some l.val)))) ∧
    (i = x.control → x.commanding = false ∨ x.confirmed = some i → exec (.confirmReport l n i) s = .next (ends done)) ∧
    (i ≠ x.control → exec (.confirmReport l n i) s = .next
      (ends ((u.modLane l fun _ => { x with confirmed := some i }).modSlot l fun k => { k with modeDue := true })))) ∧
  (∀ (s : State) (l : LaneNo) (h : ReplyHead) (a : Access), s.mge.phase = .accessing h a → a.lane = l →
    let ended := fun (y : Reply) (u : State) =>
      ((u.modSlot l fun k => { k with parameterDue := false }).raise .laneAccessDone (some l.val)).sendReply h y
    (∀ (n : Fin 16) (v : BitVec 16), s.listens l .active → (s.slot l).lastNumber ≠ some n → a.slots.isSome = true →
      exec (.parameterAnswer l n v) s =
        .next (((ended (Reply.ok (be 2 v.toNat)) (s.heardReport l n)).countMate l).thenSlotEnds l)) ∧
    (a.slots = some 3 → exec .laneAccessTimeout s = .next (ended (Reply.refuse .failed) s)) ∧
    (a.slots ≠ some 3 → exec .laneAccessTimeout s = .next s))

/-- Joining (R128, R129): a Hello moves an Absent slot to Joining with its identity, and restarts the join run of a Joining one;
any other good report raises the join run, and the third in a row makes the slot Active, with PRESENCE, a Mode command, and
IDLE where the conditions hold (`offerIdle`, see LaneRestsIdleOrClosed). A Hello in an Active slot loses it, its
identity kept (`loseSlot`, see LossMarkAndTestEnd; the model's choice, log entry 49). Where a mate mark stands on the slot's head, a
report that is no duplicate counts, in every link state (R89; the model's choice, log entry 20). -/
def Obligations.HelloStartsJoining : Prop :=
  ∀ (s : State) (l : LaneNo) (n : Fin 16),
    let heard := fun (f : Slot → Slot) =>
      s.modSlot l fun k => f { k with failureRun := 0, repeatCount := 0, repeatDue := false, lastNumber := some n }
    let ends := fun (v : State) => (if (s.slot l).lastNumber = some n then v else v.countMate l).thenSlotEnds l
    (∀ u, s.listens l .absent ∨ s.listens l .joining → exec (.helloReport l n u) s = .next
      (ends (heard fun k => { k with link := .joining, joinRun := 0, identity := some u }))) ∧
    (s.listens l .absent → ∀ p d, exec (.nothingReport l n) s = .next (ends (heard id)) ∧
      exec (.presentationReport l n p) s = .next (ends (heard id)) ∧
      exec (.passageReport l n d) s = .next (ends (heard id))) ∧
    (s.listens l .joining → ∀ p,
      ((s.slot l).joinRun < 2 →
        let v := ends (heard fun k => { k with joinRun := k.joinRun + 1 })
        exec (.nothingReport l n) s = .next v ∧ exec (.presentationReport l n p) s = .next v) ∧
      (2 ≤ (s.slot l).joinRun →
        let v := ends ((((heard fun k => { k with link := .active, joinRun := 0 }).raise .presence (some l.val)).modSlot l
          fun k => { k with modeDue := true }).offerIdle l)
        exec (.nothingReport l n) s = .next v ∧ exec (.presentationReport l n p) s = .next v)) ∧
    (∀ u, s.listens l .active → exec (.helloReport l n u) s = .next (ends ((heard id).loseSlot l)))

/-- A missing or a garbled reply (R125, R127, R128): in an Active slot the failure run rises, and a Repeat is due outside a link
test while fewer than two were sent (a test counts here from its first cycle, log entry 27); in a Joining slot the join run restarts and the fourth failure in a row returns the slot
to Absent, its failure run 0; in an Absent slot nothing changes, a garbled reply's failure run neither (both runs the model's choice,
log entry 40). A garbled
one makes LANE_REPLY occur in any slot.
The reply to a Test (R135): a new or duplicate Test Echo that carries the Test Word is a match; any other echo, and a missing or
garbled reply, count a mismatch at the slot, and no Repeat follows. That a new report counts at a marked head is the model's choice
(log entry 20). Once the test has ended its counts are kept: an echo is discarded (R125), and no Repeat
follows a failed Test slot (log entry 27).
The reply in the slot that carried the reset indication is discarded, good or missing; LANE_REPLY still occurs for a garbled one
(R125, R137). -/
def Obligations.FailedAndTestReplies : Prop :=
  (∀ (s : State) (l : LaneNo) (st : SlotLink), s.listens l st →
    let k := s.slot l
    let testing := (s.link.test.map fun x => x.begun) = some true
    let failed := fun (u : State) => match st with
      | .active => u.modSlot l fun x => { x with
          failureRun := min 4 (k.failureRun + 1), repeatDue := decide (k.repeatCount < 2 ∧ ¬testing) }
      | .joining => u.modSlot l fun x =>
          if k.failureRun < 3 then { x with failureRun := k.failureRun + 1, joinRun := 0 }
          else { x with link := .absent, failureRun := 0, joinRun := 0 }
      | .absent | .lost => u
    exec (.missingReply l) s = .next ((failed s).endSlot l) ∧
    ∀ bytes, readReply bytes = none → exec (.garbledReply l bytes) s = .next ((failed (s.errorOccurs .laneReply none [])).endSlot l)) ∧
  (∀ (s : State) (l : LaneNo) (n : Fin 16) (w : BitVec 16),
    s.link.running = true → s.link.awaiting = true → s.link.next = l.val → s.link.stopping = false →
    (s.slot l).link = .active → (s.slot l).sent = some (.test w) → (s.slot l).lastNumber ≠ some n →
    let running := ∃ x, s.link.test = some x ∧ x.begun = true
    let ends := fun (v : State) => (v.countMate l).thenSlotEnds l
    (running →
      exec (.testEcho l n w) s = .next (ends (s.heardReport l n)) ∧
      (∀ v, v ≠ w → exec (.testEcho l n v) s = .next
        (ends ((s.heardReport l n).modSlot l fun k => { k with mismatches := min 65535 (k.mismatches + 1) }))) ∧
      exec (.buttonReport l n) s = .next
        (ends (((s.heardReport l n).modSlot l fun k => { k with mismatches := min 65535 (k.mismatches + 1) }).raise .attention
          (some l.val))) ∧
      exec (.missingReply l) s = .next ((s.modSlot l fun k => { k with
        mismatches := min 65535 (k.mismatches + 1), failureRun := min 4 (k.failureRun + 1), repeatDue := false }).endSlot l)) ∧
    (¬running →
      (∀ v, exec (.testEcho l n v) s = .next (ends (s.heardReport l n))) ∧
      exec (.missingReply l) s = .next ((s.modSlot l fun k => { k with
        failureRun := min 4 (k.failureRun + 1), repeatDue := false }).endSlot l))) ∧
  (∀ (s : State) (l : LaneNo) (n : Fin 16) (w : BitVec 16),
    s.link.running = true → s.link.awaiting = true → s.link.next = l.val → s.link.stopping = false →
    (s.slot l).link = .active → (s.slot l).sent = some (.test w) →
    let running := ∃ x, s.link.test = some x ∧ x.begun = true
    let heard := s.modSlot l fun k => { k with failureRun := 0, repeatCount := 0, repeatDue := false }
    let missed := fun (k : Slot) => { k with mismatches := min 65535 (k.mismatches + 1) }
    let unheard := fun (k : Slot) => { k with failureRun := min 4 (k.failureRun + 1), repeatDue := false }
    ((s.slot l).lastNumber = some n →
      exec (.testEcho l n w) s = .next (heard.thenSlotEnds l) ∧
      ∀ v, v ≠ w →
        (running → exec (.testEcho l n v) s = .next ((heard.modSlot l missed).thenSlotEnds l) ∧
          exec (.buttonReport l n) s = .next ((heard.modSlot l missed).thenSlotEnds l)) ∧
        (¬running → exec (.testEcho l n v) s = .next (heard.thenSlotEnds l))) ∧
    ∀ bytes, readReply bytes = none →
      let noted := s.errorOccurs .laneReply none []
      (running →
        exec (.garbledReply l bytes) s = .next (((noted.modSlot l missed).modSlot l unheard).endSlot l)) ∧
      (¬running → exec (.garbledReply l bytes) s = .next ((noted.modSlot l unheard).endSlot l))) ∧
  (∀ (s : State) (l : LaneNo) (n : Fin 16), s.link.running = true → s.link.awaiting = true → s.link.next = l.val →
    (s.slot l).sent = some (.mode none) → ∀ p u d,
    exec (.presentationReport l n p) s = .next (s.endSlot l) ∧ exec (.helloReport l n u) s = .next (s.endSlot l) ∧
    exec (.passageReport l n d) s = .next (s.endSlot l) ∧ exec (.nothingReport l n) s = .next (s.endSlot l) ∧
    exec (.missingReply l) s = .next (s.endSlot l) ∧
    ∀ bytes, readReply bytes = none →
      exec (.garbledReply l bytes) s = .next ((s.errorOccurs .laneReply none []).endSlot l))

/-- A slot whose failure run has reached 4 is lost (R129): its commands are discarded, PRESENCE is raised, the confirmed image is
none and the lane CLOSED; an entry lane that was OPEN makes LANE_LOST_IN_PASSAGE occur and writes LANE_LOST (R93), and a Lane
Parameter Access at the lane ends FAILED with LANE_ACCESS_DONE (R94).
What an abort does to the operation (`abortOperation`, R92): an OPEN entry lane ends as OperationEndsWithoutEntry says, the record
reverted, the zone released, the outcome written and the Withdraw Notice sent; a QUERYING lane's query goes to the Lapsed List and its
reservation is released; nothing else is aborted.
What a lane reset leaves (R92, R137): the slot Absent with its commands and runs cleared, the reset indication due and the identity
kept, PRESENCE only where it was Active, the lane CLOSED with its operation ended, its query on the Lapsed List with verdict ABORTED,
and its settings and counts kept. That the Closed display is queued after the commands of the slot are cleared, so that it stays
(log entry 18), that a lane already CLOSED queues none (log entry 39), and that a wide lane's verdict in slot 2k + 1 waits on where
it was not yet sent (log entry 13; an undelivered one goes, R126), is the model's choice.
The steps due between slots: the mate mark of a wide lane clears after two further reports (R89), each of which raised its
count; a link test ends with TEST_DONE when the cycles run reach its count (R135). What counts as a further report (log entry 20),
and that such a step out of its turn does nothing (log entry 4), is the model's choice. -/
def Obligations.LossMarkAndTestEnd : Prop :=
  (∀ (s : State) (l : LaneNo), (s.slot l).link = .active → 4 ≤ (s.slot l).failureRun →
    let t := s.loseSlot l
    exec (.slotLoss l) s = .next t.settle ∧
    t.slot l = { s.slot l with
      link := .lost, failureRun := 0, joinRun := 0, repeatCount := 0, repeatDue := false, verdict := none, undelivered := false,
      parameterDue := false, modeDue := false, outstanding := none,
      lamp := if (s.lane l).state = .closed then none else some .closed } ∧
    (t.lane l).state = .closed ∧ (t.lane l).confirmed = none ∧ (t.lane l).commanding = false ∧ (t.lane l).mate = none ∧
    (t.evu.causes.get 0).pending = true ∧
    ((s.lane l).state = .opened → (s.lane l).direction ≠ .exit → (t.evu.errors.get 12).detected = true) ∧
    (∀ m, m ≠ l → t.lane m = s.lane m) ∧ s.abortedFor t [l] .laneLost ∧
    (∀ h a, s.mge.phase = .accessing h a → a.lane = l → ∃ v : State,
      v.mge = s.mge ∧ v.trunk.replyQ = s.trunk.replyQ ∧ v.trunk.maxPayload = s.trunk.maxPayload ∧
      t = (v.raise .laneAccessDone (some l.val)).sendReply h (Reply.refuse .failed)) ∧
    ((∀ h a, s.mge.phase = .accessing h a → a.lane ≠ l) → t.mge = s.mge) ∧
    t.policy = s.policy ∧ t.bank = s.bank ∧ t.pairs = s.pairs ∧ t.now = s.now) ∧
  (∀ (s : State) (l : LaneNo), ((s.slot l).link ≠ .active ∨ (s.slot l).failureRun < 4) → exec (.slotLoss l) s = .next s) ∧
  (∀ (s : State) (l : LaneNo),
    let t := s.resetLane l
    let n := s.lane l
    let x := t.lane l
    let closed := fun (k : Slot) => if n.state = .closed then k else
      { k with lamp := some .closed, verdict := if k.undelivered then none else k.verdict, undelivered := false }
    t.slot l = { s.slot l with
      link := .absent, failureRun := 0, joinRun := 0, repeatCount := 0, repeatDue := false, verdict := none, undelivered := false, resetDue := true,
      parameterDue := false, modeDue := false, outstanding := none, lamp := if n.state = .closed then none else some .closed } ∧
    (∀ k, k ≠ l → t.slot k = if k ∈ s.slotsOf l then closed (s.slot k) else s.slot k) ∧
    x.state = .closed ∧ x.mate = none ∧ x.confirmed = none ∧ x.commanding = false ∧
    (n.state ≠ .closed → x.key = none ∧ x.result = none ∧ x.reservation = none ∧ x.query = none ∧ x.passTimer = none ∧
      x.displayTimer = none) ∧
    x.choice = n.choice ∧ x.inForce = n.inForce ∧ x.override = n.override ∧ x.power = n.power ∧ x.control = n.control ∧
    x.counts = n.counts ∧ (∀ m, m ≠ l → t.lane m = s.lane m) ∧ s.abortedFor t [l] .withdrawn ∧
    t.trunk.replyQ = s.trunk.replyQ ∧ t.trunk.reportQ = s.trunk.reportQ ∧
    ((s.slot l).link = .active → (t.evu.causes.get 0).pending = true ∧ (t.evu.causes.get 0).detail = some l.val) ∧
    ((s.slot l).link ≠ .active → t.evu.causes.get 0 = s.evu.causes.get 0) ∧
    (∀ q, n.state = .querying → (s.peers.queries.find? fun y => decide (y.lane = l)) = some q →
      t.peers.queries = (s.peers.queries.filter fun y => decide (y.lane ≠ l)) ∧
      ∃ e, t.peers.lapsed.getLast? = some e ∧ e.tag = q.tag ∧ e.key = q.key ∧ e.home = q.home ∧ e.verdict = .aborted) ∧
    t.mge = s.mge ∧ t.policy = s.policy ∧ t.bank = s.bank ∧ t.pairs = s.pairs ∧ t.now = s.now) ∧
  (∀ (s : State) (l : LaneNo) (o : Outcome),
    let n := s.lane l
    (n.state = .opened → n.direction ≠ .exit → s.abortOperation l o = s.endWithout l o) ∧
    (∀ q, n.state = .querying → (s.peers.queries.find? fun y => decide (y.lane = l)) = some q →
      s.abortOperation l o = (State.addLapsed q .aborted { s with peers := { s.peers with
        queries := s.peers.queries.filter fun y => decide (y.lane ≠ l) } }).release l) ∧
    (n.state = .idle ∨ n.state = .refusing ∨ n.state = .closed ∨ (n.state = .opened ∧ n.direction = .exit) →
      s.abortOperation l o = s)) ∧
  (∀ s : State,
    (∀ (l : LaneNo) (m : MateMark), s.combined l = true → (s.lane (s.sequencer l)).mate = some m → m.head = l →
      s.countMate l = s.modLane (s.sequencer l) fun x => { x with mate := some { head := l, reports := m.reports + 1 } }) ∧
    (∀ l : LaneNo, s.combined l = false ∨ (∀ m, (s.lane (s.sequencer l)).mate = some m → m.head ≠ l) → s.countMate l = s) ∧
    (∀ l : LaneNo, (s.lane l).mate = none → exec (.mateMarkClear l) s = .next s) ∧
    (∀ (l : LaneNo) (m : MateMark), (s.lane l).mate = some m →
      (2 ≤ m.reports → exec (.mateMarkClear l) s = .next (s.modLane l fun n => { n with mate := none })) ∧
      (m.reports < 2 → exec (.mateMarkClear l) s = .next s)) ∧
    (∀ (l : LaneNo) (n : Fin 16) (m : MateMark), s.listens l .active → s.combined l = true → (s.slot l).lastNumber ≠ some n →
      (s.lane (s.sequencer l)).mate = some m → m.head = l →
      exec (.nothingReport l n) s = .next (((s.heardReport l n).modLane (s.sequencer l)
        fun x => { x with mate := some { head := l, reports := m.reports + 1 } }).thenSlotEnds l)) ∧
    (s.link.test = none ∨ (∃ x, s.link.test = some x ∧ x.begun = false) → exec .linkTestEnd s = .next s) ∧
    ∀ x : LinkTest, s.link.test = some x → x.begun = true →
      (x.count ≤ s.link.cyclesRun → exec .linkTestEnd s = .next ({ s with link := { s.link with test := none } }.raise .testDone none)) ∧
      (s.link.cyclesRun < x.count → exec .linkTestEnd s = .next s))

/-! ## Passages, timers and time -/

/-- A Passage or Forced report of the granted direction ends the operation of an entry lane (R81), at once for both heads of a
combined pair, whose other head takes the mate mark (R89). A report against the granted direction backs the operation out, and so
does a Reverse, which sets no mark (R82 to R84); that the former sets the mark is the model's choice (log entry 20).
A Passage or Forced report from the marked head, whatever the state of the lane, clears the mark and is discarded (R89). -/
def Obligations.PassageEndsOperation : Prop :=
  (∀ (s : State) (l : LaneNo) (n : Fin 16) (x : MateMark), s.listens l .active → (s.slot l).lastNumber ≠ some n →
    s.combined l = true → (s.lane (s.sequencer l)).mate = some x → x.head = l → ∀ d,
    let t := ((s.heardReport l n).modLane (s.sequencer l) fun y => { y with mate := none }).thenSlotEnds l
    exec (.passageReport l n d) s = .next t ∧ exec (.forcedReport l n d) s = .next t) ∧
  ∀ (s : State) (l : LaneNo) (n : Fin 16) (k : Option Key) (res : DecisionResult) (d : Direction), s.listens l .active →
    (s.slot l).lastNumber ≠ some n → s.openFor (s.sequencer l) k res d →
    let u := s.heardReport l n
    let m := s.sequencer l
    let mark := fun (v : State) => if s.combined m then v.modLane m fun x => { x with
      mate := some { head := if l.val % 2 = 1 then lowerLane (pairOf l) else upperLane (pairOf l), reports := 0 } } else v
    let passed := if d = .exit then (u.exitUpdate m).rest m else u.endByPassage m
    let backed := if d = .exit then u.rest m else (u.endWithout m .backedOut).rest m
    (s.isMarked m l = false →
      (∀ e, e = d → exec (.passageReport l n e) s = .next ((mark passed).thenSlotEnds l) ∧
        exec (.forcedReport l n e) s = .next ((mark passed).thenSlotEnds l)) ∧
      (∀ e, e ≠ d → exec (.passageReport l n e) s = .next ((mark backed).thenSlotEnds l) ∧
        exec (.forcedReport l n e) s = .next ((mark backed).thenSlotEnds l))) ∧
    exec (.reverseReport l n) s = .next ((backed.countMate l).thenSlotEnds l)

/-- The five steps of a passage on an entry lane (R81), on the record as found: the commit of a hold or the unheld entry, the
zone, the admission record, the Entry Notice with destination 32, the Reconcile List of a Degraded grant whose home is not Up
(R119); and the lane rests. A ticket purged meanwhile leaves the grant's class on the record, and an open used byte in the
notice (log entry 1). That the home is that of the record as found at the passage, so that a ticket not found joins no list, is the
model's choice (log entry 11). -/
def Obligations.PassageRecordsEntry : Prop :=
  ∀ (s : State) (l : LaneNo) (k : Key) (res : DecisionResult), (s.lane l).key = some k → (s.lane l).result = some res →
    let last := fun (z : Option ZoneNo) => some ({ time := s.bcm.clock, bank := s.ownBank, lane := l, zone := z } : Last)
    let up := fun (r : Record) => if r.cls = .staff then min 255 (r.used + 1) else min r.allowance (r.used + 1)
    let logged := fun (cls : Option TicketClass) (used : Option Nat) (p : Bool) (u : State) => (u.commitZone l).writeLog
      { time := s.bcm.clock, bank := s.ownBank, lane := l, outcome := .entry, reason := none, cls := cls, key := some k,
        zone := res.zone, used := used, provisional := p }
    let noticed := fun (used : Byte) (p : Bool) (u : State) => (u.offerPeer {
      dst := 32, kind := .entryNotice, tag := 0,
      body := .bytes (entryPayload k s.ownBank l s.bcm.clock used p res.zone) }).drawn
    (s.lookup k = none →
      s.endByPassage l = (noticed (Config.freeByte s.draws 0) res.provisional (logged res.cls none res.provisional s)).rest l) ∧
    ∀ i r, s.lookup k = some (i, r) →
      let held := ∃ h z, r.state = .held h ∧ h.holder = .lane l z
      let reconciled := fun (q : Record) (u : State) =>
        if res.authority = some .degraded ∧ (s.peer r.home).state ≠ .up then
          u.addReconcile { key := k, home := r.home, time := s.bcm.clock, lane := l, used := q.used, zone := res.zone }
        else u
      let written := fun (q : Record) (p : Bool) =>
        (reconciled q (noticed (byte q.used) p (logged (some r.cls) (some q.used) p (s.putRecord i q)))).rest l
      (∀ h z, res.held = true → r.state = .held h → h.holder = .lane l z →
        s.endByPassage l = written { r with
          used := up r, last := last res.zone, provisional := res.provisional,
          state := match h.revokePending with | some e => .revoked e | none => .resting .inside } res.provisional) ∧
      (res.held = true → ¬held → s.endByPassage l = written r res.provisional) ∧
      (res.held = false →
        s.endByPassage l = written { r with
          used := up r, last := last none, provisional := false,
          state := match r.state with | .resting _ => .resting .inside | st => st } false)

/-- The exit update (R59): an INSIDE record of STAFF, RETURNING or SINGLE takes its new state and last with its zone kept,
ScanOuts of that zone rises (R66), EXIT is written and an Exit Notice sent; any other record, a key that is not found and a
passage without a key write UNMATCHED_EXIT alone. That its record has a clear provisional flag, whatever the flag of the record found,
is the model's choice (log entry 43). -/
def Obligations.ExitUpdateByRecord : Prop :=
  ∀ (s : State) (l : LaneNo),
    let unmatched := fun (k : Option Key) (r : Option Record) => State.writeLog
      { time := s.bcm.clock, bank := s.ownBank, lane := l, outcome := .unmatchedExit, reason := none,
        cls := r.map fun x => x.cls, key := k, zone := none, used := r.map fun x => x.used, provisional := false }
    ((s.lane l).key = none → s.exitUpdate l = unmatched none none s) ∧
    ∀ k, (s.lane l).key = some k →
      (s.lookup k = none → s.exitUpdate l = unmatched (some k) none s) ∧
      ∀ i r, s.lookup k = some (i, r) →
        (r.state ≠ .resting .inside ∨ r.cls = .group → s.exitUpdate l = unmatched (some k) (some r) s) ∧
        (r.state = .resting .inside → r.cls ≠ .group →
          let st : Resting := if r.cls = .staff ∨ (r.cls = .returning ∧ r.used < r.allowance) then .outside else .spent
          let zone := match r.last with | some x => x.zone | none => none
          let q : Record := { r with
            state := .resting st, last := some { time := s.bcm.clock, bank := s.ownBank, lane := l, zone := zone } }
          let counted := match zone with
            | some z => { s.putRecord i q with
                zones := s.zones.set z.val { s.zone z with scanOuts := min 65535 ((s.zone z).scanOuts + 1) } z.isLt }
            | none => s.putRecord i q
          s.exitUpdate l = (counted.writeLog
            { time := s.bcm.clock, bank := s.ownBank, lane := l, outcome := .exit, reason := none, cls := some r.cls,
              key := some k, zone := zone, used := some r.used, provisional := r.provisional }).offerPeer
            { dst := 32, kind := .exitNotice, tag := 0, body := .bytes (exitPayload k s.ownBank l s.bcm.clock st) })

/-- An operation of an entry lane that ends without an entry (R82): a record that this lane holds reverts, the reservation is
released, the record is written with the class found, and a Remote grant sends a Withdraw Notice to the record's home, which is offered
to the Peer Queue with tag 0, the key, this bank and the lane (R111). The
pass window's expiry logs WITHDRAWN and lets the lane rest, an exit lane without any record (R83); the refusal display's
expiry lets the lane rest (R85). That the home is that of the record as found then, and that no notice is sent where it is not
found (log entry 11), that the record's provisional flag is clear also after a Degraded grant (log entry 43), that an expiry moves the time base up to its time (`reach`, log entry 3), and that an expiry whose timer does not
run does nothing (log entry 4), is the model's choice. -/
def Obligations.OperationEndsWithoutEntry : Prop :=
  ∀ (s : State) (l : LaneNo),
    (∀ t : Nat, s.reach t = { s with now := max s.now t }) ∧
    (∀ (home : BankNo) (k : Key), s.sendWithdrawNotice home k l = s.offerPeer {
      dst := bankByte home, kind := .withdrawNotice, tag := 0, body := .bytes (keyBytes k ++ [bankByte s.ownBank, laneByte l]) }) ∧
    (∀ k res d t, s.openFor l k res d → (s.lane l).passTimer = some t →
      (d = .entry → exec (.passWindowExpiry l) s = .next ((((s.reach t).endWithout l .withdrawn).rest l).settle)) ∧
      (d = .exit → exec (.passWindowExpiry l) s = .next (((s.reach t).rest l).settle))) ∧
    ((s.lane l).passTimer = none → exec (.passWindowExpiry l) s = .next s.settle) ∧
    (∀ t, (s.lane l).state = .refusing → (s.lane l).displayTimer = some t →
      exec (.refusalDisplayExpiry l) s = .next (((s.reach t).rest l).settle)) ∧
    ∀ (k : Key) (res : DecisionResult) (o : Outcome), (s.lane l).key = some k → (s.lane l).result = some res →
      let written := fun (cls : Option TicketClass) (used : Option Nat) (u : State) => (u.release l).writeLog
        { time := s.bcm.clock, bank := s.ownBank, lane := l, outcome := o, reason := none, cls := cls, key := some k,
          zone := none, used := used, provisional := false }
      let told := fun (r : Record) (u : State) =>
        if res.authority = some .remote then u.sendWithdrawNotice r.home k l else u
      (s.lookup k = none → s.endWithout l o = written res.cls none s) ∧
      ∀ i r, s.lookup k = some (i, r) →
        (∀ h z, res.held = true → r.state = .held h → h.holder = .lane l z →
          s.endWithout l o = told r (written (some r.cls) (some r.used) (s.putRecord i { r with
            state := match h.revokePending with | some e => .revoked e | none => .resting h.prior }))) ∧
        (res.held = false ∨ (∀ h z, r.state = .held h → h.holder ≠ .lane l z) →
          s.endWithout l o = told r (written (some r.cls) (some r.used) s))

/-- A rotation at a lane that is not OPEN (R84, R86): a tailgate raises TAILGATE with the lane, writes its record and counts; an
exit on a lane with a direction writes UNMATCHED_EXIT; a free exit counts; and a CLOSED lane sees only a tailgate, while the
bank is OPEN or CLOSING. That the records have a clear provisional flag is the model's choice (log entry 43). -/
def Obligations.UngrantedRotation : Prop :=
  ∀ (s : State) (l : LaneNo) (n : Fin 16), s.listens l .active → (s.slot l).lastNumber ≠ some n →
    s.isMarked (s.sequencer l) l = false →
    let m := s.sequencer l
    let u := s.heardReport l n
    let x := s.lane m
    let logged := fun (o : Outcome) => State.writeLog
      { time := s.bcm.clock, bank := s.ownBank, lane := m, outcome := o, reason := none, cls := none, key := none, zone := none,
        used := none, provisional := false }
    let tailgated := (logged .tailgate (u.raise .tailgate (some m.val))).modLane m fun y => { y with
      counts := { y.counts with tailgates := min 65535 (y.counts.tailgates + 1) } }
    let sends := fun (d : Direction) (v : State) =>
      exec (.forcedReport l n d) s = .next (v.thenSlotEnds l) ∧ exec (.passageReport l n d) s = .next (v.thenSlotEnds l)
    (x.state = .closed →
      (s.bcm.mode = .opened ∨ s.bcm.mode = .closing → sends .entry tailgated) ∧
      (s.bcm.mode ≠ .opened → s.bcm.mode ≠ .closing → sends .entry u) ∧ sends .exit u) ∧
    (x.state = .idle ∨ x.state = .querying ∨ x.state = .refusing → x.direction = .entry ∨ x.direction = .exit →
      sends .entry tailgated ∧ sends .exit (logged .unmatchedExit u)) ∧
    (x.state = .idle → x.direction = .freeExit →
      sends .entry tailgated ∧
      sends .exit (u.modLane m fun y => { y with counts := { y.counts with freeExits := min 65535 (y.counts.freeExits + 1) } }))

/-- A lane that rests takes what waits into force and is IDLE, with Ready, exactly where its slot is Active, it has a profile
in force, its effective direction is not closed, it is no upper lane of a combined pair, and the bank is OPEN; CLOSED, with
Closed, otherwise (R77, R78); an undelivered verdict waiting in its slots is discarded (R126). A CLOSED lane that adopts (`tryIdle`) tries the same conditions and stays as it is, with what waits in
force, where they fail. One that only meets the conditions anew, as its unit becomes Active or the bank OPEN (`offerIdle`), adopts
where they hold on what it has in force, and adopts nothing where they fail. The effective direction is that of R74. A requested combine setting comes into force as soon as both lanes are IDLE or CLOSED (R88): on combine the upper lane, if IDLE,
enters CLOSED; on separate a CLOSED upper lane adopts and may enter IDLE, an IDLE lower lane adopts at once, and the lower lane's mate
mark goes (the model's choice, log entry 33). No other lane changes. That a lane which enters CLOSED takes what waits into force as it
does so, and that `offerIdle` tests the conditions before it adopts (log entry 15), and that an upper lane already CLOSED stays as it is on combine (log entry 39), is the model's choice. -/
def Obligations.LaneRestsIdleOrClosed : Prop :=
  ∀ (s : State) (l : LaneNo),
    let t := s.rest l
    let n := s.lane l
    let x := t.lane l
    let idle := (s.slot l).link = .active ∧ x.inForce.isSome = true ∧ x.direction ≠ .closed ∧
      ¬(s.combined l = true ∧ l.val % 2 = 1) ∧ s.bcm.mode = .opened
    let taken := fun (y : Lane) => { y with
      override := n.control.override, power := n.control.power, profileMissing := decide (s.policy.np ≤ n.choice.val),
      inForce := if n.choice.val < s.policy.np then some { index := n.choice, profile := s.policy.profiles.get n.choice }
        else none }
    x = { taken n with
      state := x.state, key := none, result := none, reservation := none, query := none, passTimer := none,
      displayTimer := none } ∧
    (idle → x.state = .idle ∧ (t.slot l).lamp = some .ready) ∧
    (¬idle → x.state = .closed ∧ (t.slot l).lamp = some .closed) ∧
    (∀ m, m ≠ l → t.lane m = s.lane m) ∧
    (∀ m, t.slot m = if m ∈ s.slotsOf l then { s.slot m with
      lamp := (t.slot l).lamp, verdict := if (s.slot m).undelivered then none else (s.slot m).verdict, undelivered := false }
      else s.slot m) ∧
    t = { s with lanes := t.lanes, link := { s.link with slots := t.link.slots } } ∧
    (n.state = .closed → (idle → s.tryIdle l = t) ∧ (¬idle → s.tryIdle l = s.modLane l taken)) ∧
    (n.state ≠ .closed → s.tryIdle l = s) ∧
    (let ready := (s.slot l).link = .active ∧ n.inForce.isSome = true ∧ n.direction ≠ .closed ∧
       ¬(s.combined l = true ∧ l.val % 2 = 1) ∧ s.bcm.mode = .opened
     (n.state = .closed → ready → s.offerIdle l = s.tryIdle l) ∧ (n.state ≠ .closed ∨ ¬ready → s.offerIdle l = s)) ∧
    (∀ y : Lane, (y.power = false → y.direction = .closed) ∧ (y.power = true →
      (y.override = .none → y.direction = match y.inForce with | some a => a.profile.direction | none => .closed) ∧
      (y.override = .entry → y.direction = .entry) ∧ (y.override = .exit → y.direction = .exit) ∧
      (y.override = .freeExit → y.direction = .freeExit) ∧ (y.override = .closed → y.direction = .closed))) ∧
    ∀ k : Fin 8,
      let quiet := fun (m : LaneNo) => (s.lane m).state = .idle ∨ (s.lane m).state = .closed
      (quiet ⟨2 * k.val, by omega⟩ → quiet ⟨2 * k.val + 1, by omega⟩ →
        s.settlePairs.pairs.get k = { requested := (s.pairs.get k).requested, inForce := (s.pairs.get k).requested }) ∧
      (¬quiet ⟨2 * k.val, by omega⟩ ∨ ¬quiet ⟨2 * k.val + 1, by omega⟩ → s.settlePairs.pairs.get k = s.pairs.get k) ∧
      (let low : LaneNo := ⟨2 * k.val, by omega⟩
       let up : LaneNo := ⟨2 * k.val + 1, by omega⟩
       let p := s.pairs.get k
       let u := s.settlePairs
       let v := { s with pairs := s.pairs.set k.val { requested := p.requested, inForce := p.requested } k.isLt }.modLane low
         fun y => { y with mate := none }
       let changes := p.requested ≠ p.inForce ∧ quiet low ∧ quiet up
       (¬changes → u.lane low = s.lane low ∧ u.lane up = s.lane up) ∧
       (changes → p.requested = true → u.lane low = s.lane low ∧
         ((s.lane up).state = .closed → u.lane up = s.lane up) ∧
         ((s.lane up).state = .idle → (u.lane up).state = .closed ∧ (u.slot up).lamp = some .closed)) ∧
       (changes → p.requested = false →
         u.lane up = (v.tryIdle up).lane up ∧
         ((s.lane low).state = .closed → u.lane low = v.lane low) ∧
         ((s.lane low).state = .idle → u.lane low = (v.rest low).lane low)))

/-- The event clock advances by a tenth of a second, 863,999 to 0 with CLOCK_WRAP (R151); at an armed schedule's opening time a
SERVICE or STANDBY bank with a number enters OPEN, and at its closing time an OPEN bank enters CLOSING (R154). An Unset clock
does not advance.
A whole second of the surge estimator (R161): the estimate loses an eighth and takes the count, the count restarts, and the
flag follows the two thresholds, with SURGE_ON or SURGE_OFF on a change. That each moves the time base up to its due time (log entry
3), that the clock's next advance is due 100 ms after that time (log entry 9), and that CLOCK_WRAP comes before what a schedule time of
0 does (log entry 47), is the model's choice. -/
def Obligations.ClockAndSurgeAdvance : Prop :=
  (∀ s : State,
    (s.bcm.clock = none → exec .clockAdvance s = .next s.settle) ∧
    ∀ t, s.bcm.clock = some t →
      let v := if t + 1 < 864000 then t + 1 else 0
      let moved := { s with
        now := max s.now s.bcm.tick, bcm := { s.bcm with clock := some v, tick := s.bcm.tick + 100 } }
      let u := if v = 0 then moved.raise .clockWrap none else moved
      let due := u.bcm.schedule.armed = true ∧ v = u.bcm.schedule.opening
      let closes := u.bcm.schedule.armed = true ∧ v ≠ u.bcm.schedule.opening ∧ v = u.bcm.schedule.closing
      (due → u.bank.isSome = true → u.bcm.mode = .service →
        exec .clockAdvance s = .next ((u.enterOpen [.scheduleOpen]).settle.settle)) ∧
      (due → u.bank.isSome = true → u.bcm.mode = .standby →
        exec .clockAdvance s = .next ((u.enterOpen [.scheduleOpen, .wake]).settle.settle)) ∧
      (closes → u.bcm.mode = .opened → exec .clockAdvance s = .next ((u.enterClosing [.scheduleClose]).settle)) ∧
      (due → u.bank = none ∨ (u.bcm.mode ≠ .service ∧ u.bcm.mode ≠ .standby) → exec .clockAdvance s = .next u.settle) ∧
      (closes → u.bcm.mode ≠ .opened → exec .clockAdvance s = .next u.settle) ∧
      (¬due → ¬closes → exec .clockAdvance s = .next u.settle)) ∧
  (∀ s : State,
    let g := s.bcm.surge
    let r := g.estimate - g.estimate / 8 + g.count
    let flag := if g.flag then decide (8 * g.off ≤ r) else decide (8 * g.on ≤ r)
    ∃ t, exec .surgeUpdate s = .next t ∧ t.now = max s.now g.due ∧
      t.bcm.surge = { g with estimate := r, count := 0, flag := flag, due := g.due + 1000 } ∧
      (g.flag = flag → t.evu = s.evu ∧ t.bcm.mode = s.bcm.mode) ∧
      (g.flag = false → flag = true → (t.evu.causes.get 10).pending = true ∧ t.log.due = t.tallyDue) ∧
      (g.flag = true → flag = false → (t.evu.causes.get 11).pending = true ∧ t.log.due = t.tallyDue) ∧
      s.triggers t ∧ t = { s with
        now := t.now, evu := t.evu, log := { s.log with due := t.log.due }, link := { t.link with slots := s.link.slots },
        bcm := { s.bcm with mode := t.bcm.mode, surge := t.bcm.surge } })

/-! ## The Trunk Link: frames received -/

/-- A good Request frame from the central server joins the tail of the Request Queue, or is discarded with RX_DROP where it
holds 8 (R168, R173). It is counted Taken; nothing else changes. A bank without a number takes it under Destination 33 alone. That a request
dropped with RX_DROP is counted Taken is the model's choice (log entry 21). -/
def Obligations.RequestFrameJoinsQueue : Prop :=
  ∀ (s : State) (f : FrameFields), s.fits f → f.src = 34 → s.bcm.mode ≠ .deep →
    (f.dst = 33 ∨ ∃ b, s.bank = some b ∧ (f.dst = bankByte b ∨ f.dst = 32)) →
    (s.mge.queue.length < 8 →
      exec (.requestFrame f) s = .next { s with
        trunk := { s.trunk with taken := sat16 s.trunk.taken },
        mge := { s.mge with queue := s.mge.queue ++
          [{ src := f.src, tag := f.tag, payload := f.payload, lead := (frameBytes .request f).take 16 }] } }) ∧
    (8 ≤ s.mge.queue.length →
      exec (.requestFrame f) s = .next
        ({ s with trunk := { s.trunk with taken := sat16 s.trunk.taken } }.errorOccurs .rxDrop none []))

/-- The seven receive checks in their order (R165): the first that fails discards the frame, and only its error occurs, with the
bytes received offered to the header log.
The lines of the table of R168 that discard a good frame: counted Foreign where its Destination is not for this bank, and
Unwanted by its kind, its Destination, its Source or the mode. Nothing but the count changes (R167).
A peer frame handed to the Peer Coordinator is counted Taken and then discarded (R97): in STANDBY, without a bank number, with a
Source that is no other bank, or as a notice whose bank field is not its Source; with a payload that fails its check
MALFORMED_FRAME occurs (R196). The order of these checks is the model's choice (log entry 21). -/
def Obligations.FramesDiscarded : Prop :=
  (∀ s : State,
    (∀ bytes : List Byte,
      (bytes.length < 8 → exec (.damagedFrame bytes) s = .next (s.errorOccurs .malformedFrame none bytes)) ∧
      (8 ≤ bytes.length → 8 + s.trunk.maxPayload < bytes.length →
        exec (.damagedFrame bytes) s = .next (s.errorOccurs .oversize none bytes)) ∧
      (8 ≤ bytes.length → bytes.length ≤ 8 + s.trunk.maxPayload →
        bytes.drop (bytes.length - 2) ≠ be 2 (crc16 (bytes.take (bytes.length - 2))).toNat →
        exec (.damagedFrame bytes) s = .next (s.errorOccurs .frameCheck none bytes))) ∧
    ∀ (dst src kind tag l1 l0 : Byte) (payload bytes : List Byte),
      bytes = withCheck (dst :: src :: kind :: tag :: l1 :: l0 :: payload) → payload.length ≤ s.trunk.maxPayload →
      (s.trunk.maxPayload < ofBytes [l1, l0] → exec (.damagedFrame bytes) s = .next (s.errorOccurs .oversize none bytes)) ∧
      (ofBytes [l1, l0] ≤ s.trunk.maxPayload → ofBytes [l1, l0] ≠ payload.length →
        exec (.damagedFrame bytes) s = .next (s.errorOccurs .malformedFrame none bytes)) ∧
      (ofBytes [l1, l0] = payload.length → (kind.toNat = 0 ∨ 13 < kind.toNat) →
        exec (.damagedFrame bytes) s = .next (s.errorOccurs .malformedFrame none bytes)) ∧
      (ofBytes [l1, l0] = payload.length → 1 ≤ kind.toNat → kind.toNat ≤ 13 → ¬(src.toNat < 32 ∨ src = 33 ∨ src = 34) →
        exec (.damagedFrame bytes) s = .next (s.errorOccurs .malformedFrame none bytes))) ∧
  (∀ (s : State) (k : FrameKind) (f : FrameFields), s.fits f → (f.src.toNat < 32 ∨ f.src = 33 ∨ f.src = 34) →
    let foreign := { s with trunk := { s.trunk with foreign := sat16 s.trunk.foreign } }
    let unwanted := { s with trunk := { s.trunk with unwanted := sat16 s.trunk.unwanted } }
    (¬s.addressed f.dst → exec (.unwantedFrame k f) s = .next foreign) ∧
    (s.addressed f.dst → s.bcm.mode = .deep → k ≠ .wake → exec (.unwantedFrame k f) s = .next unwanted) ∧
    (s.addressed f.dst → s.bcm.mode ≠ .deep →
      ((k = .wake ∨ k = .reply ∨ k = .tally ∨ k = .event ∨ k = .status ∨ k = .audit →
          exec (.unwantedFrame k f) s = .next unwanted) ∧
       (k = .request → (f.src ≠ 34 ∨ (s.bank = none ∧ f.dst ≠ 33)) → exec (.unwantedFrame k f) s = .next unwanted) ∧
       (k = .query ∨ k = .answer ∨ k = .withdrawNotice ∨ k = .reconcileNotice → f.dst = 32 ∨ f.dst = 33 →
          exec (.unwantedFrame k f) s = .next unwanted) ∧
       (k = .entryNotice ∨ k = .exitNotice → f.dst = 33 → exec (.unwantedFrame k f) s = .next unwanted)))) ∧
  (∀ (s : State) (k : FrameKind) (f : FrameFields), s.fits f → (f.src.toNat < 32 ∨ f.src = 33 ∨ f.src = 34) → s.bcm.mode ≠ .deep →
    (k = .entryNotice ∨ k = .exitNotice) ∧ f.dst = 32 ∨
      (k = .query ∨ k = .answer ∨ k = .entryNotice ∨ k = .exitNotice ∨ k = .withdrawNotice ∨ k = .reconcileNotice) ∧
        (∃ own, s.bank = some own ∧ f.dst = bankByte own) →
    let taken := { s with trunk := { s.trunk with taken := sat16 s.trunk.taken } }
    let arrives := fun (t : State) => exec (.unwantedFrame k f) s = .next t ∧
      (k = .query → exec (.admissionQuery f) s = .next t) ∧ (k = .answer → exec (.answer f) s = .next t) ∧
      (k = .entryNotice → exec (.entryNotice f) s = .next t) ∧ (k = .exitNotice → exec (.exitNotice f) s = .next t) ∧
      (k = .withdrawNotice → exec (.withdrawNotice f) s = .next t) ∧
      (k = .reconcileNotice → exec (.reconcileNotice f) s = .next t)
    (s.bcm.mode = .standby ∨ s.bank = none ∨ (∃ own, s.bank = some own ∧ f.src = bankByte own) ∨ 32 ≤ f.src.toNat →
      arrives taken) ∧
    (s.bcm.mode ≠ .standby → ∀ own b : BankNo, s.bank = some own → b ≠ own → f.src = bankByte b →
      (readPeer k f.payload = none → arrives (taken.errorOccurs .malformedFrame none ((frameBytes k f).take 16))) ∧
      ∀ p x, readPeer k f.payload = some p → p.bank = some x → x ≠ b → arrives taken))

/-- In DEEP a Wake frame whose payload matches the pattern brings SERVICE: the schedule is disarmed, the clock stays as it is,
the stopped link starts with parity 0, WAKE and MODE_CHANGE are pending, and the frame is counted Taken (R160, R167). A Wake
frame that does not match is discarded, and so is every Wake frame outside DEEP. -/
def Obligations.WakeFrameReleasesDeep : Prop :=
  ∀ (s : State) (f : FrameFields), s.fits f → (f.src.toNat < 32 ∨ f.src = 33 ∨ f.src = 34) → s.addressed f.dst →
    let o := s.bcm.wakeOffset
    let n := s.bcm.wakePattern.length
    let matched := o + n ≤ f.payload.length ∧ (f.payload.drop o).take n = s.bcm.wakePattern
    (s.bcm.mode = .deep → matched →
      ∃ t, exec (.wakeFrame f) s = .next t ∧
        t.bcm = { s.bcm with mode := .service, schedule := { s.bcm.schedule with armed := false } } ∧
        t.trunk = { s.trunk with taken := sat16 s.trunk.taken } ∧
        (t.evu.causes.get 23).pending = true ∧ (t.evu.causes.get 18).pending = true ∧
        (∀ c, c ≠ 23 → c ≠ 18 → t.evu.causes.get c = s.evu.causes.get c) ∧
        (s.link.running = false → s.link.stopping = false →
          t.link.running = true ∧ t.link.parity = false ∧ t.link.next = 0 ∧ t.link.cycleStart = s.now ∧
          t.link.slots = s.link.slots ∧ t.link.settings = s.link.settings) ∧ s.triggers t ∧
        t.bank = s.bank ∧ t.mge = s.mge ∧ t.policy = s.policy ∧ t.table = s.table ∧ t.zones = s.zones ∧ t.lanes = s.lanes ∧
        t.pairs = s.pairs ∧ t.peers = s.peers ∧ t.log = s.log ∧ t.now = s.now) ∧
    (s.bcm.mode = .deep ∧ ¬matched ∨ s.bcm.mode ≠ .deep →
      exec (.wakeFrame f) s = .next { s with trunk := { s.trunk with unwanted := sat16 s.trunk.unwanted } })

/-! ## The Trunk Link: frames made and sent -/

/-- Tally frames (R145, R146): the hold time of the set in use makes one due, and a due one takes the oldest undrained records,
up to the effective batch, into the Report Queue with the report tag, where there is room; those records become drained.
A running audit transfer builds its next frame from its position on, up to the effective batch of present records, counting
the numbers that are not kept; the records are those of the span's numbers, in order; and ends with AUDIT_DONE and its counts when the span is exhausted (R147, R148); a frame without
records is not built. That a due frame is built by a step of its own (log entry 5), and that a running transfer keeps its counts until
it ends (log entry 28), is the model's choice.
The admission records of a frame follow one another in 26 bytes each (R194); the bytes of an absent key and of an absent used are
open (log entry 1).
The effective batch is the smaller of the batch of the set in use, Surge while the Surge flag is set and Calm otherwise, and of the
records that a frame can carry (R144). A tally frame is due while records are undrained and either they reach the effective batch or
the oldest has waited the hold time (R145). That an expiry moves the time base up to its time is the model's choice (log entry 3). -/
def Obligations.TallyAndAuditFramesBuilt : Prop :=
  (∀ s : State,
    (s.log.undrained = 0 ∨ s.log.kept = [] → exec .tallyHoldExpiry s = .next s) ∧
    (∀ e rest, s.log.undrainedEntries = e :: rest →
      let t := { s with now := max s.now (e.written + s.setInUse.hold) }
      0 < s.log.undrained →
      exec .tallyHoldExpiry s = .next { t with log := { t.log with due := true } }) ∧
    (s.log.due = true → s.trunk.reportQ.length < 16 →
      let es := s.log.undrainedEntries.take (min s.log.undrained s.effectiveBatch)
      let flags := byte (if s.bcm.surge.flag then 1 else 0)
      let first := match es with | e :: _ => e.seq | [] => 0
      ∃ t, exec .tallyFrameBuild s = .next t ∧
        t.trunk = { s.trunk with
          reportTag := s.trunk.reportTag + 1,
          reportQ := s.trunk.reportQ ++ [{
            dst := 34, kind := .tally, tag := s.trunk.reportTag,
            body := .bytes (be 4 first ++ [byte es.length, flags] ++ be 2 s.log.lost ++ recordsBytes s.draws 0 es) }] } ∧
        t.log = { s.log with undrained := s.log.undrained - es.length, due := t.tallyDue } ∧ s.triggers t ∧
        t = { s with
          trunk := t.trunk, log := t.log, draws := s.draws + 1, link := { s.link with trigger := t.link.trigger } }) ∧
    (s.log.due = false ∨ 16 ≤ s.trunk.reportQ.length → exec .tallyFrameBuild s = .next s)) ∧
  (∀ (s : State) (a : Audit), s.log.audit = some a → s.trunk.reportQ.length < 16 →
    let r := auditRead s.log s.effectiveBatch a.position a.left
    let flags := byte (2 + if s.bcm.surge.flag then 1 else 0)
    let framed : State := match r.found with
      | [] => s
      | e :: es => { s with
          draws := s.draws + 1,
          trunk := { s.trunk with
            reportTag := s.trunk.reportTag + 1,
            reportQ := s.trunk.reportQ ++ [({
              dst := 34, kind := .audit, tag := s.trunk.reportTag,
              body := .bytes (be 4 e.seq ++ [byte (es.length + 1), flags] ++ be 2 s.log.lost ++ recordsBytes s.draws 0 (e :: es)) } : TxFrame)] } }
    (r.left = 0 → exec .auditFrameBuild s = .next ({ framed with log := { s.log with
      audit := none, auditSent := a.sent + r.found.length, auditMissing := a.missing + r.missing } }.raise .auditDone none)) ∧
    (r.left ≠ 0 → exec .auditFrameBuild s = .next { framed with log := { s.log with audit := some {
      position := r.position, left := r.left, sent := a.sent + r.found.length, missing := a.missing + r.missing } } }) ∧
    r.found.length + r.missing + r.left = a.left ∧ r.position % 2 ^ 32 = (a.position + r.found.length + r.missing) % 2 ^ 32 ∧
    (∀ e ∈ r.found, e ∈ s.log.kept) ∧ r.found.length ≤ s.effectiveBatch ∧
    (s.log.ringOk → r.found = (List.range (r.found.length + r.missing)).filterMap fun i =>
      s.log.kept.find? fun e => decide (e.seq = (a.position + i) % 2 ^ 32)) ∧ (0 < r.left → r.found.length = s.effectiveBatch)) ∧
  (∀ draw site : Nat,
    recordsBytes draw site [] = [] ∧
    ∀ (e : Entry) (es : List Entry),
      let a := e.admission
      ∃ (key : List Byte) (used : Byte),
        recordsBytes draw site (e :: es) = be 4 e.seq ++ timeBytes a.time ++
          [bankByte a.bank, laneByte a.lane, byte (outcomeCode a.outcome), optByte (a.reason.map reasonCode),
            optByte (a.cls.map classCode)] ++ key ++
          [optByte (a.zone.map fun z => z.val), used, byte (bit a.provisional + 2 * bit a.used.isSome)] ++
          recordsBytes draw (site + 11) es ∧
        key.length = 11 ∧ (∀ k, a.key = some k → key = keyBytes k) ∧ (a.key = none → key.head? = some 0) ∧
        ∀ n, a.used = some n → used = byte n) ∧
  (∀ s : State,
    let used := if s.bcm.surge.flag then s.log.surge else s.log.calm
    s.setInUse = used ∧ s.effectiveBatch = min used.batch ((s.trunk.maxPayload - 8) / 26) ∧
    s.log.undrainedEntries = s.log.kept.drop (s.log.kept.length - s.log.undrained) ∧
    (s.tallyDue = true ↔ 0 < s.log.undrained ∧ (s.effectiveBatch ≤ s.log.undrained ∨
      ∃ e rest, s.log.undrainedEntries = e :: rest ∧ e.written + used.hold ≤ s.now)))

/-- Event and status frames (R182, R184): a wanted event frame is placed once the holdoff has run out, none waits and there is
room, and restarts the holdoff; a status report becomes due at its interval and is placed in parts, the interval restarting
with the last. That the frames are placed by steps of their own (log entry 5), that a holdoff time of 0 starts no holdoff (log
entry 34), that every part of a report but the last is full (log entry 54), and that the two expiries move the time base up to their
times (log entry 3), is the model's choice.
The contents of a status report and of Read Status, section by section (R184, R194): Bank, Zones, Lanes, Link, Peers, Log, Trunk,
Events and Errors. The bytes of an identity that is not known and of pending settings that are absent are open (log entry 1); the
events stand in the order of event frames (the model's choice, log entry 31). -/
def Obligations.EventAndStatusFramesPlaced : Prop :=
  (∀ s : State,
    let waiting := ∃ f ∈ s.trunk.reportQ, f.body = .eventList
    let frame : TxFrame := { dst := 34, kind := .event, tag := s.trunk.reportTag, body := .eventList }
    let placed := fun (u : State) => { u with
      trunk := { u.trunk with reportTag := u.trunk.reportTag + 1, reportQ := u.trunk.reportQ ++ [frame] },
      evu := { u.evu with
        wanted := false, holdoff := if u.evu.holdoffTime = 0 then none else some (u.now + u.evu.holdoffTime) } }
    let ready := s.evu.wanted = true ∧ ¬waiting ∧ s.trunk.reportQ.length < 16
    (ready → s.evu.holdoff = none → exec .eventFramePlace s = .next (placed s)) ∧
    (¬ready ∨ s.evu.holdoff ≠ none → exec .eventFramePlace s = .next s) ∧
    (∀ x, s.evu.holdoff = some x →
      let u := { s with now := max s.now x, evu := { s.evu with holdoff := none } }
      (ready → exec .eventHoldoffExpiry s = .next (placed u)) ∧ (¬ready → exec .eventHoldoffExpiry s = .next u)) ∧
    (∀ x, s.evu.statusTimer = some x → exec .statusIntervalExpiry s = .next { s with
      now := max s.now x, evu := { s.evu with statusTimer := none, statusDue := true } }) ∧
    (s.trunk.reportQ.length < 16 → ∀ part rest,
      (s.evu.statusRest = some (part, rest) ∨
        (s.evu.statusRest = none ∧ s.evu.statusDue = true ∧ part = 0 ∧ rest = s.statusContents)) →
      ∃ t, exec .statusReportPlace s = .next t ∧
        (let more := rest.drop (s.trunk.maxPayload - 1)
        let number := byte (part % 128 + if more = [] then 128 else 0)
        t.trunk = { s.trunk with
          reportTag := s.trunk.reportTag + 1,
          reportQ := s.trunk.reportQ ++ [{
            dst := 34, kind := .status, tag := s.trunk.reportTag,
            body := .bytes (number :: rest.take (s.trunk.maxPayload - 1)) }] } ∧
        (more = [] → t.evu = { s.evu with
          statusRest := none, statusDue := false, statusTimer := some (s.now + s.evu.statusInterval * 1000) }) ∧
        (more ≠ [] → t.evu = { s.evu with statusRest := some (part + 1, more) }) ∧
        t = { s with
          trunk := t.trunk, evu := t.evu, draws := if s.evu.statusRest = none then s.draws + 1 else s.draws })) ∧
    (16 ≤ s.trunk.reportQ.length ∨ (s.evu.statusRest = none ∧ s.evu.statusDue = false) →
      exec .statusReportPlace s = .next s)) ∧
  (∀ s : State, s.evu.inRange →
    let flag := fun (b : Bool) => byte (if b then 1 else 0)
    let full := fun (z : ZoneNo) => decide (0 < (s.zone z).quota ∧ (s.zone z).quota ≤ (s.zone z).entered + (s.zone z).held)
    let settings := fun (h : HeaderSettings) => [byte h.count] ++ (h.words.toList.flatMap fun w => be 2 w.toNat) ++
      [flag h.bankWord] ++ (h.select.toList.map fun f => byte (flagCode f)) ++ [h.rising, h.falling, byte h.offset]
    let place := fun (n : Nat) => (s.log.nextSeq % 8192 + 8192 - n % 8192) % 8192
    ∃ (identity : LaneNo → List Byte) (pending : List Byte) (causes : List (Fin 24)) (detected : Nat),
      (∀ l, (identity l).length = 4) ∧ (∀ l u, (s.slot l).identity = some u → identity l = be 4 u.toNat) ∧
      pending.length = 27 ∧ (∀ h, s.link.pendingSettings = some h → pending = settings h) ∧
      (∀ c, c ∈ causes ↔ (s.evu.causes.get c).pending = true) ∧
      (causes.Pairwise fun a b => s.evu.level a < s.evu.level b ∨ (s.evu.level a = s.evu.level b ∧ a < b)) ∧
      (∀ k : Fin 14, detected.testBit k.val = (s.evu.errors.get k).detected) ∧ detected < 2 ^ 14 ∧
      s.statusContents =
        [optByte (s.bank.map fun b => b.val), byte (modeCode s.bcm.mode)] ++ timeBytes s.bcm.clock ++
          [flag s.bcm.surge.flag] ++ be 3 s.bcm.surge.estimate ++
        ((List.finRange 16).flatMap fun z =>
          let x := s.zone z
          be 2 x.quota ++ be 2 x.entered ++ be 1 x.held ++ be 2 x.scanOuts ++
            [if x.quota = 0 then 0 else if x.quota ≤ x.entered + x.held then 2 else 1]) ++ [flag ((List.finRange 16).any full)] ++
        ((List.finRange 16).flatMap fun l =>
          let n := s.lane l
          let k := s.slot l
          let c := n.counts
          [byte (laneStateCode n.state), byte n.choice.val, optByte (n.inForce.map fun a => a.index.val),
            byte (bit n.profileMissing + 2 * bit k.identity.isSome)] ++
          be 2 c.presentations ++ be 2 c.grants ++ be 2 c.refusals ++ be 2 c.refers ++ be 2 c.busyDiscards ++ be 2 c.tailgates ++
          be 2 c.freeExits ++ [byte (slotLinkCode k.link)] ++ identity l ++ be 2 k.mismatches) ++ be 2 s.link.cyclesRun ++
        [byte s.link.period] ++ settings s.link.settings ++ [flag s.link.pendingSettings.isSome] ++ pending ++
        ((List.finRange 32).flatMap fun b =>
          [byte (128 * bit (s.peer b).present + peerStateCode (s.peer b).state), byte (s.peer b).timeouts]) ++
          [flag ((List.finRange 32).any fun b => decide ((s.peer b).present = true ∧ (s.peer b).state = .down ∧ s.bank ≠ some b))] ++
          be 2 s.peers.reconcile.length ++
        be 4 s.log.nextSeq ++ be 2 s.log.kept.length ++ be 2 s.log.undrained ++ be 2 (s.log.nextSeq % 8192) ++
          be 2 (place s.log.undrained) ++ be 2 (place s.log.kept.length) ++ be 2 s.log.lost ++ be 2 s.log.unlogged ++
          [byte (bit (decide (8160 ≤ s.log.undrained)) + 2 * bit s.log.audit.isSome)] ++ be 2 s.log.auditSent ++
          be 2 s.log.auditMissing ++
        be 2 s.trunk.taken ++ be 2 s.trunk.foreign ++ be 2 s.trunk.unwanted ++
        [byte causes.length] ++ (causes.flatMap fun c =>
          [byte c.val, byte (s.evu.level c), byte (s.evu.causes.get c).count, optByte (s.evu.causes.get c).detail]) ++
        be 2 detected)

/-- The arbiter's choice (R172). The Peer Queue goes first. Between the Report and the Reply Queue the mode decides; under
WEIGHTED the Report count follows the choice; under REPORT_OFF the Report Queue is not served. The frame leaves its queue
and is sent with this bank's Source (R168) and its frame check.
The list of an event frame as it is sent (R183): every reportable pending cause and no other, most urgent level first and by
ascending number within a level, after the mode and the event time. That the last queue served is noted on every serve of
either queue, in every mode, is the model's choice (log entry 30). -/
def Obligations.ArbiterSendsFrame : Prop :=
  (∀ (s : State) (f : TxFrame) (rest : List TxFrame),
    let line := trunkFrame f.dst s.source (byte (kindCode f.kind)) f.tag
      (match f.body with | .bytes p => p | .eventList => s.eventPayload)
    let k := s.trunk
    let replyGoes := k.reportQ = [] ∨ k.arbiter = .reportOff ∨ (k.arbiter = .roundRobin ∧ k.lastServed = some .report) ∨
      (k.arbiter = ArbiterMode.weighted ∧ k.weight ≤ k.reportCount)
    let reportGoes := k.arbiter ≠ .reportOff ∧ (k.replyQ = [] ∨ (k.arbiter = .roundRobin ∧ k.lastServed ≠ some .report) ∨
      (k.arbiter = .weighted ∧ k.reportCount < k.weight))
    (k.peerQ = f :: rest → exec .trunkFrameSend s = .next { s with trunk := { k with peerQ := rest, line := line } }) ∧
    (k.peerQ = [] → k.replyQ = f :: rest → replyGoes →
      exec .trunkFrameSend s = .next { s with trunk := { k with
        replyQ := rest, lastServed := some .reply, line := line,
        reportCount := if k.arbiter = ArbiterMode.weighted then 0 else k.reportCount } }) ∧
    (k.peerQ = [] → k.reportQ = f :: rest → reportGoes →
      exec .trunkFrameSend s = .next ({ s with trunk := { k with
        reportQ := rest, lastServed := some .report, line := line,
        reportCount := if k.arbiter = ArbiterMode.weighted then min k.weight (k.reportCount + 1) else k.reportCount } }.drainTest)) ∧
    (k.peerQ = [] → k.replyQ = [] → k.reportQ = [] ∨ k.arbiter = .reportOff → exec .trunkFrameSend s = .next s)) ∧
  (∀ s : State, s.evu.inRange →
    ∃ cs : List (Fin 24),
      s.eventPayload = [byte (modeCode s.bcm.mode)] ++ timeBytes s.bcm.clock ++ [byte cs.length] ++
        cs.flatMap (fun c => [byte c.val, byte (s.evu.level c), byte (s.evu.causes.get c).count,
          optByte (s.evu.causes.get c).detail]) ∧
      (∀ c, c ∈ cs ↔ (s.evu.causes.get c).pending = true ∧ s.evu.level c < s.evu.reportThreshold ∧ s.evu.level c ≠ 7) ∧
      cs.Pairwise fun a b => s.evu.level a < s.evu.level b ∨ (s.evu.level a = s.evu.level b ∧ a < b))

/-! ## Peer frames and deadlines -/

/-- A taken peer frame sets its Source Up with timeout count 0 and leaves every other entry (R100): from Up nothing more
happens; from Suspect the reconcile send starts, and from Down PEER_UP is raised before it.
The reconcile send for a bank (R120): its entries, oldest first, are queued as Reconcile Notices while the Peer Queue has
room, and leave the list; the others stay in order. Nothing else changes.
An answer or a notice offered to the Peer Queue joins its tail, or is dropped with PEER_TX_DROP where it holds 32 (R106, R111). An
entry added to the Reconcile List goes to its end; a full list loses its oldest entry with RECONCILE_DROP (R119). -/
def Obligations.PeerFrameSetsSourceUp : Prop :=
  (∀ (s : State) (b : BankNo),
    let up := (s.countTaken).modPeer b fun p => { p with state := .up, timeouts := 0 }
    ((s.heardFrom b).peer b = { s.peer b with state := .up, timeouts := 0 }) ∧
    (∀ c, c ≠ b → (s.heardFrom b).peer c = s.peer c) ∧
    ((s.peer b).state = .up →
      s.heardFrom b = { s with
        trunk := { s.trunk with taken := sat16 s.trunk.taken },
        peers := { s.peers with entries := s.peers.entries.set b.val { s.peer b with state := .up, timeouts := 0 } b.isLt } }) ∧
    ((s.peer b).state = .suspect → s.heardFrom b = up.reconcileSend b) ∧
    ((s.peer b).state = .down → s.heardFrom b = (up.raise .peerUp (some b.val)).reconcileSend b)) ∧
  (∀ (s : State) (b : BankNo),
    let mine := s.peers.reconcile.filter fun e => decide (e.home = b)
    let room := 32 - s.trunk.peerQ.length
    let t := s.reconcileSend b
    t.trunk = { s.trunk with peerQ := s.trunk.peerQ ++ (mine.take room).map fun e =>
      { dst := bankByte b, kind := .reconcileNotice, tag := 0,
        body := .bytes (entryPayload e.key s.ownBank e.lane e.time (byte e.used) true e.zone) } } ∧
    t.peers.reconcile.filter (fun e => decide (e.home = b)) = mine.drop room ∧
    t.peers.reconcile.filter (fun e => decide (e.home ≠ b)) = s.peers.reconcile.filter (fun e => decide (e.home ≠ b)) ∧
    t.peers.reconcile.Sublist s.peers.reconcile ∧
    t = { s with trunk := t.trunk, peers := { s.peers with reconcile := t.peers.reconcile } }) ∧
  (∀ (s : State) (f : TxFrame),
    (s.trunk.peerQ.length < 32 → s.offerPeer f = { s with trunk := { s.trunk with peerQ := s.trunk.peerQ ++ [f] } }) ∧
    (32 ≤ s.trunk.peerQ.length → s.offerPeer f = s.errorOccurs .peerTxDrop none [])) ∧
  (∀ (s : State) (e : Reconcile),
    (s.peers.reconcile.length < 256 →
      s.addReconcile e = { s with peers := { s.peers with reconcile := s.peers.reconcile ++ [e] } }) ∧
    (256 ≤ s.peers.reconcile.length →
      s.addReconcile e = ({ s with peers := { s.peers with
        reconcile := s.peers.reconcile.drop 1 ++ [e] } }).errorOccurs .reconcileDrop none []))

/-- A taken query is answered from this bank's copy by the table of R105, its answer offered to the Peer Queue (R106): Unavailable
during a sweep; Refuse with the first reason; Grant with a remote hold whose deadline is the greater of the remote hold time and the
pass window plus 2 s (R106). The answer carries state and used as found; where there is no copy its used byte is open (R191,
log entry 1). -/
def Obligations.QueryAnsweredByHome : Prop :=
  ∀ (s : State) (own b : BankNo) (f : FrameFields) (q : QueryFields), s.hears own b f → f.dst = bankByte own →
    readPeer .query f.payload = some (.query q) →
    let u := s.heardFrom b
    let answer := fun (v reason st used : Byte) => State.offerPeer
      { dst := bankByte b, kind := .answer, tag := f.tag, body := .bytes (keyBytes q.key ++ [v, reason, st, used]) }
    let refused := fun (e : Reason) (r : Record) => answer 1 (byte (reasonCode e)) (byte (stateCode r.state)) (byte r.used)
    (u.table.sweeping = true →
      exec (.admissionQuery f) s = .next ((answer 2 0xFF 0xFF (Config.freeByte u.draws 0) u).drawn)) ∧
    (u.table.sweeping = false → u.lookup q.key = none →
      exec (.admissionQuery f) s = .next ((answer 1 5 0xFF (Config.freeByte u.draws 0) u).drawn)) ∧
    ∀ i r, u.lookup q.key = some (i, r) →
      (∀ e, r.state = .revoked e → exec (.admissionQuery f) s = .next (refused .revoked r u)) ∧
      (∀ h, r.state = .held h →
        exec (.admissionQuery f) s =
          .next (refused (if h.revokePending.isSome then .revoked else .inPassage) r u)) ∧
      ∀ p, r.state = .resting p →
        (∀ e, r.cls ≠ .staff → r.stateTest q.cooldown u.bcm.clock = some e →
          exec (.admissionQuery f) s = .next (refused e r u)) ∧
        (r.cls = .staff ∨ r.stateTest q.cooldown u.bcm.clock = none →
          exec (.admissionQuery f) s = .next (answer 0 0xFF (byte (stateCode r.state)) (byte r.used)
            (u.putRecord i { r with state := (.held
              { holder := .remote b q.lane (u.now + max (u.peers.remoteHold * 1000) (q.window * 100 + 2000)), prior := p,
                revokePending := none }) })))

/-- A taken answer ends the query that it matches by tag, Source and key (R107, R108): a Grant takes the plain hold, and the lane
opens under authority Remote with its reservation kept; a Grant whose plain hold does not take the record is refused and a
Withdraw Notice goes to the home; a Refuse brings the home's reason; Unavailable the confirming hold.
An answer that matches no query (R107, R110): on the Lapsed List its entry leaves with LATE_ANSWER, a late Grant on a lapsed
Refuse or ABORTED sends a Withdraw Notice, a late Refuse on a lapsed Grant writes CONFLICT and raises it, and nothing more
happens otherwise; on neither list ORPHAN_ANSWER occurs. That the CONFLICT record has the class of this bank's copy and a clear
provisional flag, and CONFLICT the detail of the entry's lane (log entries 24, 20), that a Grant whose plain hold finds no record is
refused without class and used (log entry 18), that a refusal's record has the time of its writing (log entry 46), and that a Refuse
answer without a reason is logged without one (log entry 52), is the model's choice. -/
def Obligations.AnswersMatchedByTag : Prop :=
  (∀ (s : State) (own b : BankNo) (f : FrameFields) (a : AnswerFields) (q : Query), s.hears own b f → f.dst = bankByte own →
    readPeer .answer f.payload = some (.answer a) →
    (s.peers.queries.find? fun x => decide (x.tag = f.tag ∧ x.home = b ∧ x.key = a.key)) = some q →
    let u := (s.heardFrom b).dropQuery q.lane
    let cls := (s.lane q.lane).query.map fun x => x.cls
    let withdrawn := fun (e : Reason) (r : Option Record) =>
      ((u.refuse q.lane (some e) (some q.key) (r.map fun x => x.cls) (r.map fun x => x.used)).sendWithdrawNotice q.home q.key
        q.lane).settle
    (a.verdict = .grant →
      (u.lookup q.key = none → exec (.answer f) s = .next (withdrawn .unknown none)) ∧
      ∀ i r, u.lookup q.key = some (i, r) →
        (∀ h, r.state = .held h → exec (.answer f) s = .next (withdrawn .inPassage (some r))) ∧
        (∀ e, r.state = .revoked e → exec (.answer f) s = .next (withdrawn .revoked (some r))) ∧
        ∀ p, r.state = .resting p →
          exec (.answer f) s = .next (((u.putRecord i { r with state := (.held
            { holder := .lane q.lane q.zone, prior := p, revokePending := none }) }).openLane q.lane (some q.key)
              { verdict := .grant, authority := some .remote, cls := cls, zone := q.zone, provisional := false,
                held := true }).settle)) ∧
    (a.verdict = .refuse →
      exec (.answer f) s = .next ((u.refuse q.lane a.reason (some q.key) cls
        (if a.reason = some .unknown then none else some a.used)).settle)) ∧
    (a.verdict = .unavailable →
      exec (.answer f) s = .next ((u.confirmHold q.lane q.key ((s.lane q.lane).query.bind fun x => x.code)).1.settle))) ∧
  (∀ (s : State) (own b : BankNo) (f : FrameFields) (a : AnswerFields), s.hears own b f → f.dst = bankByte own →
    readPeer .answer f.payload = some (.answer a) →
    (s.peers.queries.find? fun x => decide (x.tag = f.tag ∧ x.home = b ∧ x.key = a.key)) = none →
    let u := s.heardFrom b
    ((s.peers.lapsed.find? fun x => decide (x.tag = f.tag ∧ x.home = b ∧ x.key = a.key)) = none →
      exec (.answer f) s = .next ((u.errorOccurs .orphanAnswer none []).settle)) ∧
    ∀ e, (s.peers.lapsed.find? fun x => decide (x.tag = f.tag ∧ x.home = b ∧ x.key = a.key)) = some e →
      let v := (u.modPeers fun p => { p with lapsed := p.lapsed.filter fun x => decide (x.tag ≠ e.tag) }).errorOccurs
        .lateAnswer none []
      (a.verdict = .grant → e.verdict ≠ .grant → exec (.answer f) s = .next ((v.sendWithdrawNotice e.home e.key e.lane).settle)) ∧
      (a.verdict = .refuse → e.verdict = .grant →
        exec (.answer f) s = .next (((v.writeLog
          { time := v.bcm.clock, bank := v.ownBank, lane := e.lane, outcome := .conflict, reason := a.reason,
            cls := (v.lookup e.key).map fun x => x.2.cls, key := some e.key, zone := none,
            used := if a.reason = some .unknown then none else some a.used, provisional := false }).raise .conflict
              (some e.lane.val)).settle)) ∧
      ((a.verdict = .grant ∧ e.verdict = .grant) ∨ (a.verdict = .refuse ∧ e.verdict ≠ .grant) ∨ a.verdict = .unavailable →
        exec (.answer f) s = .next v.settle))

/-- A notice from the holder of a remote hold (R112, R113): an Entry Notice commits the record from this bank's own count,
provisional clear, REVOKED where a revoke was pending; a Withdraw Notice reverts it. Neither writes an admission record. A
Withdraw Notice from any other, an Entry, Reconcile or Exit Notice that repeats the record's last, and any notice for a key that is not
found, as during a sweep, change nothing but the Peer Table (R112). That absent times are equal in the test for a repeat is the model's
choice (log entry 37). -/
def Obligations.HolderNoticeEndsRemoteHold : Prop :=
  ∀ (s : State) (own b : BankNo) (f : FrameFields), s.hears own b f →
    let u := s.heardFrom b
    (∀ n : EntryFields, f.dst = 32 ∨ f.dst = bankByte own → readPeer .entryNotice f.payload = some (.entry n) → n.bank = b →
      (u.lookup n.key = none → exec (.entryNotice f) s = .next u) ∧
      ∀ i r, u.lookup n.key = some (i, r) →
        (∀ z, r.last = some { time := n.time, bank := b, lane := n.lane, zone := z } → exec (.entryNotice f) s = .next u) ∧
        (∀ d p w, r.state = .held { holder := .remote b n.lane d, prior := p, revokePending := w } →
          (∀ z, r.last ≠ some { time := n.time, bank := b, lane := n.lane, zone := z }) →
          exec (.entryNotice f) s = .next (u.putRecord i { r with
            used := if r.cls = .staff then min 255 (r.used + 1) else min r.allowance (r.used + 1),
            last := some { time := n.time, bank := b, lane := n.lane, zone := n.zone }, provisional := false,
            state := match w with | some e => .revoked e | none => .resting .inside }))) ∧
    (∀ n : WithdrawFields, f.dst = bankByte own → readPeer .withdrawNotice f.payload = some (.withdraw n) → n.bank = b →
      (u.lookup n.key = none → exec (.withdrawNotice f) s = .next u) ∧
      ∀ i r, u.lookup n.key = some (i, r) →
        (∀ d p w, r.state = .held { holder := .remote b n.lane d, prior := p, revokePending := w } →
          exec (.withdrawNotice f) s = .next (u.putRecord i { r with
            state := match w with | some e => .revoked e | none => .resting p })) ∧
        ((∀ d p w, r.state ≠ .held { holder := .remote b n.lane d, prior := p, revokePending := w }) →
          exec (.withdrawNotice f) s = .next u)) ∧
    (∀ n : EntryFields, f.dst = bankByte own → readPeer .reconcileNotice f.payload = some (.reconcile n) → n.bank = b →
      (u.lookup n.key = none → exec (.reconcileNotice f) s = .next u) ∧
      ∀ i r z, u.lookup n.key = some (i, r) → r.last = some { time := n.time, bank := b, lane := n.lane, zone := z } →
        exec (.reconcileNotice f) s = .next u) ∧
    ∀ n : ExitFields, f.dst = 32 ∨ f.dst = bankByte own → readPeer .exitNotice f.payload = some (.exit n) → n.bank = b →
      (u.lookup n.key = none → exec (.exitNotice f) s = .next u) ∧
      ∀ i r z, u.lookup n.key = some (i, r) → r.last = some { time := n.time, bank := b, lane := n.lane, zone := z } →
        exec (.exitNotice f) s = .next u

/-- An Entry or Reconcile Notice from a bank that does not hold the record (R115, R116): the rows that take the entry, and the
rows that keep the state and log CONFLICT; at the home a final entry logs LATE_ENTRY in its place, without an event. The records' event time is the notice's, and absent where
this bank's clock is Unset (R138, R150; the model's reading, log entry 36); CONFLICT's detail is the notice's lane (the model's
choice, log entry 20). -/
def Obligations.EntryElsewhereApplied : Prop :=
  ∀ (s : State) (own b : BankNo) (f : FrameFields) (n : EntryFields) (i : Nat) (r : Record) (entry : Bool), s.hears own b f → f.dst = bankByte own ∨ (entry = true ∧ f.dst = 32) →
    (if entry then readPeer .entryNotice f.payload = some (.entry n)
      else readPeer .reconcileNotice f.payload = some (.reconcile n)) → n.bank = b →
    (s.heardFrom b).lookup n.key = some (i, r) →
    (∀ z, r.last ≠ some { time := n.time, bank := b, lane := n.lane, zone := z }) →
    (entry = true → ∀ d p w, r.state ≠ .held { holder := .remote b n.lane d, prior := p, revokePending := w }) →
    let u := s.heardFrom b
    let outcome := if entry then exec (.entryNotice f) s else exec (.reconcileNotice f) s
    let home := decide (r.home = own)
    let cap := fun (x : Nat) => if r.cls = .staff then min 255 x else min r.allowance x
    let last : Last := { time := n.time, bank := b, lane := n.lane, zone := n.zone }
    let late := entry = true ∧ r.home = own ∧ n.provisional = false ∧ r.cls ≠ .staff
    let takes := r.state = .resting .unused ∨ r.state = .resting .outside ∨
      (r.state = .resting .inside ∧ (r.cls = .staff ∨ (r.cls = .group ∧ r.used < r.allowance))) ∨
      (r.state = .resting .spent ∧ r.cls = .staff)
    let record := fun (o : Outcome) (q : Record) (w : State) => w.writeLog
      { time := if s.bcm.clock.isSome then n.time else none, bank := b, lane := n.lane, outcome := o, reason := none,
        cls := some r.cls, key := some n.key, zone := n.zone, used := some q.used, provisional := n.provisional }
    (takes →
      let q : Record := { r with
        state := .resting .inside, last := some last, provisional := if home then false else n.provisional,
        used := if r.cls = .staff then min 255 (r.used + 1) else cap (if home then r.used + 1 else max r.used n.used) }
      (late → outcome = .next (record .lateEntry q (u.putRecord i q))) ∧
      (¬late → outcome = .next (u.putRecord i q))) ∧
    (¬takes →
      let q : Record := { r with
        used := cap (r.used + 1), last := some last, provisional := if home then false else r.provisional }
      (late → outcome = .next (record .lateEntry q (u.putRecord i q))) ∧
      (¬late → outcome = .next ((record .conflict q (u.putRecord i q)).raise .conflict (some n.lane.val))))

/-- An Exit Notice applied to the record as found (R117; for a repeat and a key that is not found see HolderNoticeEndsRemoteHold): a record that is not held takes the new state, a held one takes it as
its prior state and the hold runs on, a revoked one stays revoked. Last takes time, bank and lane, and keeps its zone; used and
the provisional flag do not change. A hold that reverts afterwards returns the record to the notice's state, or to REVOKED where a
revoke is pending (R34), and the cooldown of a later decision runs from the notice's event time (R49). -/
def Obligations.ExitNoticeApplied : Prop :=
  ∀ (s : State) (own b : BankNo) (f : FrameFields) (n : ExitFields) (i : Nat) (r : Record), s.hears own b f → f.dst = 32 ∨ f.dst = bankByte own →
    readPeer .exitNotice f.payload = some (.exit n) → n.bank = b → (s.heardFrom b).lookup n.key = some (i, r) →
    (∀ z, r.last ≠ some { time := n.time, bank := b, lane := n.lane, zone := z }) →
    let u := s.heardFrom b
    let zone := match r.last with | some x => x.zone | none => none
    let last : Last := { time := n.time, bank := b, lane := n.lane, zone := zone }
    (∀ p, r.state = .resting p →
      exec (.exitNotice f) s = .next (u.putRecord i { r with state := .resting n.state, last := some last })) ∧
    (∀ h, r.state = .held h →
      exec (.exitNotice f) s = .next (u.putRecord i { r with state := .held { h with prior := n.state }, last := some last })) ∧
    (∀ e, r.state = .revoked e → exec (.exitNotice f) s = .next (u.putRecord i { r with last := some last })) ∧
    (∀ h, r.state = .held h →
      let q : Record := { r with state := .held { h with prior := n.state }, last := some last }
      q.revert = { q with state := match h.revokePending with | some e => .revoked e | none => .resting n.state }) ∧
    (∀ p, r.state = .resting p → n.state = .outside → r.cls ≠ .staff → r.used < r.allowance →
      let q : Record := { r with state := .resting n.state, last := some last }
      ∀ cooldown now x, now < 864000 → n.time = some x →
        (q.stateTest cooldown (some now) = some .cooldown ↔ ((now : Int) - x) % 864000 < 10 * cooldown))

/-- The deadline of a query expires (R109, R101): the timeout acts on the home's Peer Table entry, the entry leaves the Query
Table, the lane takes the confirming hold, and the query joins the Lapsed List with the verdict that it brought.
The deadline of a remote hold reverts the record, writes HOLD_LAPSED with the holder's bank and lane and the record's class
and used, and raises HOLD_LAPSED (R114); on a key that is not held by a remote bank it does nothing (R37). A Lapsed List entry
that expires leaves the list, and a full list loses its oldest entry to a new one (R110). That each expiry moves the time base up to
its deadline (log entry 3), and that the HOLD_LAPSED record has a clear provisional flag (log entry 43), is the model's choice. -/
def Obligations.PeerDeadlinesExpire : Prop :=
  (∀ (s : State) (l : LaneNo) (q : Query), (s.peers.queries.find? fun x => decide (x.lane = l)) = some q →
    let v := s.reach q.deadline
    let p := s.peer q.home
    let n := min s.peers.downAfter (p.timeouts + 1)
    let st : PeerState := if p.state = .down then .down else if p.timeouts + 1 < s.peers.downAfter then .suspect else .down
    let counted := v.modPeer q.home fun _ => { p with timeouts := n, state := st }
    let told := if p.state ≠ .down ∧ st = .down then counted.raise .peerDown (some q.home.val) else counted
    let c := (told.dropQuery l).confirmHold l q.key ((s.lane l).query.bind fun x => x.code)
    exec (.queryDeadlineExpiry l) s = .next ((c.1.addLapsed q (if c.2 then .grant else .refuse)).settle)) ∧
  (∀ s : State,
    (∀ (k : Key) (i : Nat) (r : Record) (b : BankNo) (l : LaneNo) (d : Nat) (p : Resting) (w : Option (Fin 16)),
      s.lookup k = some (i, r) → r.state = .held { holder := .remote b l d, prior := p, revokePending := w } →
      exec (.remoteHoldDeadline k) s = .next ((((s.reach d).putRecord i { r with
          state := match w with | some e => .revoked e | none => .resting p }).writeLog
        { time := s.bcm.clock, bank := b, lane := l, outcome := .holdLapsed, reason := none, cls := some r.cls, key := some k,
          zone := none, used := some r.used, provisional := false }).raise .holdLapsed (some b.val))) ∧
    (∀ k : Key, (∀ i r b l d p w, s.lookup k = some (i, r) →
        r.state ≠ .held { holder := .remote b l d, prior := p, revokePending := w }) →
      exec (.remoteHoldDeadline k) s = .next s) ∧
    (∀ (q : Query) (v : LapsedVerdict), s.addLapsed q v = { s with peers := { s.peers with
      lapsed := (if s.peers.lapsed.length < 16 then s.peers.lapsed else s.peers.lapsed.tail) ++ [{
        tag := q.tag, lane := q.lane, home := q.home, key := q.key, verdict := v,
        expiry := s.now + s.peers.remoteHold * 1000 }] } }) ∧
    ∀ (tag : Byte) (e : Lapsed), (s.peers.lapsed.find? fun x => decide (x.tag = tag)) = some e →
      exec (.lapsedEntryExpiry tag) s = .next { s with
        now := max s.now e.expiry,
        peers := { s.peers with lapsed := s.peers.lapsed.filter fun x => decide (x.tag ≠ tag) } })

/-! ## Management requests -/

/-- What the engine decides before a request's own rule (R174, R175), for every type: an empty payload and a type outside 1 to 35;
BAD_VALUE for a payload that ends before its fields do, be they fixed, optional or a list (R192, R193); then WRONG_MODE for the five
requests that SERVICE alone takes. A request command does nothing where the request at the head is of another type, where none
waits, and while the engine is at work (R173; the model's choice, log entry 4); as it begins one, the request leaves the head of the
queue and nothing else changes. The place of Write Template's load byte is the
model's choice (log entry 35).
A reply (R173, R174, R192): its parts, each with the type, the status, the cause and its number, the last one marked, enter the
Reply Queue in order while there is room; with the last part the engine is idle, and otherwise it waits for room with the
part it has reached, and goes on when room comes. That every part but the last is full is the model's choice (log entry 54). -/
def Obligations.RequestsCheckedAndReplied : Prop :=
  (∀ s : State, s.beginRequest = { s with mge := { s.mge with queue := s.mge.queue.tail } }) ∧
  (∀ (s : State) (r : Request), s.mge.phase = .idle → s.mge.queue.head? = some r →
    let t := s.beginRequest
    let refused := fun (n : Nat) (c : Instr) (why : RefusalCause) (fields : List Byte) =>
      r.payload = byte n :: fields → exec c s = .next (r.answered n (Reply.refuse why) t)
    (r.payload = [] → exec .unknownRequest s = .next (r.answered 0 (Reply.refuse .badValue) t)) ∧
    (∀ c rest, r.payload = c :: rest →
      (c = 0 ∨ 35 < c.toNat → exec .unknownRequest s = .next (r.answered c.toNat
        { status := .unknownRequest, cause := .none, contents := [] } (t.errorOccurs .unknownRequest none r.lead))) ∧
      (c ≠ 0 → c.toNat ≤ 35 → exec .unknownRequest s = .next s)) ∧
    (∀ x ∈ requestTypes,
      (r.payload.head? ≠ some (byte x.1) → exec x.2.1 s = .next s) ∧
      ∀ fields,
        (fields.length < x.2.2 → refused x.1 x.2.1 .badValue fields) ∧
        (x.1 = 2 ∨ x.1 = 8 ∨ x.1 = 14 ∨ x.1 = 21 → s.bcm.mode ≠ .service → x.2.2 ≤ fields.length →
          refused x.1 x.2.1 .wrongMode fields)) ∧
    (∀ (n m : Byte) (rest : List Byte),
      (rest.length < 32 * n.toNat → refused 9 .upsertRecords .badValue (n :: rest)) ∧
      (rest.length < 11 * n.toNat → refused 12 .purgeRecords .badValue (n :: rest)) ∧
      (rest.length < 11 * n.toNat → refused 11 .revokeRecords .badValue (m :: n :: rest)) ∧
      (rest.length < n.toNat → refused 29 .setWakePattern .badValue (m :: n :: rest)) ∧
      (rest.length < 2 → refused 20 .laneParameterAccess .badValue (m :: n :: 1 :: rest)) ∧
      (rest.length < 3 → refused 17 .writeTemplate .badValue (m :: 1 :: rest)) ∧
      ∀ a b : Byte,
        (rest.length < n.toNat + 7 → refused 17 .writeTemplate .badValue (m :: 1 :: a :: b :: n :: rest)) ∧
        (rest.length < 32 * n.toNat → refused 10 .fillSlots .badValue (m :: a :: b :: n :: rest)) ∧
        (32 * n.toNat ≤ rest.length → s.bcm.mode ≠ .service → refused 10 .fillSlots .wrongMode (m :: a :: b :: n :: rest))) ∧
    (∀ (m : Nat) (x : Byte) (rest : List Byte), m < 2 ^ 32 →
      (rest.length < givenSize m [3, 3, 1, 1] → refused 5 .setSchedule .badValue (be 4 m ++ rest)) ∧
      (rest.length < givenSize m [1, 14, 1, 8, 1, 1, 1, 1] → refused 22 .setLinkHeader .badValue (be 4 m ++ rest)) ∧
      (rest.length < givenSize m [1, 2, 1, 2, 2, 2, 1, 1, 1, 2, 1, 2] → refused 27 .setReporting .badValue (be 4 m ++ rest)) ∧
      (rest.length < givenSize m [12, 1, 1, 2] → refused 28 .setEventLevels .badValue (be 4 m ++ rest)) ∧
      (rest.length < givenSize m [3, 1, 1, 1, 1] → refused 19 .setLaneControl .badValue (x :: (be 4 m ++ rest))) ∧
      (rest.length < givenSize m [1, 1, 2, 1] → refused 26 .setPeer .badValue (x :: (be 4 m ++ rest))))) ∧
  (∀ s : State, s.mge.phase ≠ .idle ∨ s.mge.queue = [] →
    exec .unknownRequest s = .next s ∧ ∀ x ∈ requestTypes, exec x.2.1 s = .next s) ∧
  (∀ (s : State) (r : ReplyRest), 4 < s.trunk.maxPayload →
    let size := s.trunk.maxPayload - 4
    let parts := max 1 ((r.rest.length + size - 1) / size)
    let room := 8 - s.trunk.replyQ.length
    let frames := (List.range parts).map fun i => ({
      dst := r.head.dst, kind := .reply, tag := r.head.tag,
      body := .bytes ([byte r.head.code, byte (statusCode r.status), byte (refusalCode r.cause),
        byte ((r.part + i) % 128 + if i + 1 = parts then 128 else 0)] ++ (r.rest.drop (i * size)).take size) } : TxFrame)
    let placed := { s with
      trunk := { s.trunk with replyQ := s.trunk.replyQ ++ frames.take room },
      mge := { s.mge with
        phase := if parts ≤ room then .idle else .replying { r with part := r.part + room, rest := r.rest.drop (room * size) } } }
    (s.mge.phase = .replying r → exec .replyPlace s = .next placed) ∧
    (r.part = 0 → s.sendReply r.head { status := r.status, cause := r.cause, contents := r.rest } = placed))

/-- Identify, Assign Bank, Set Event, Set Clock, Set Schedule and Set Wake Pattern (R151 to R154, R160, R169, R176): a clock that is
set to a time of the armed schedule reaches it; a bank number that changes Degraded makes the triggers of R133. The names and
the revision that Identify carries are open (log entry 2). That the clock's next advance is due 100 ms after Set Clock (log entry 9),
and the codes of the armed indication and the after-close mode (log entry 16), are the model's choice. -/
def Obligations.BankRequestsTakeEffect : Prop :=
  ∀ (s : State) (r : Request) (extra : List Byte), s.bcm.mode ≠ .deep →
    let t := s.beginRequest
    (s.asked r 1 extra → exec .identify s = .next (r.answered 1 (Reply.ok (
      [byte Config.familyName.length] ++ Config.familyName ++ [byte Config.partName.length] ++ Config.partName ++
      [Config.siliconRevision, optByte (s.bank.map fun b => b.val), byte (modeCode s.bcm.mode)] ++ be 2 s.trunk.maxPayload ++
      be 2 s.table.buckets ++ [byte s.table.probe])) t)) ∧
    (∀ n, s.asked r 2 (n :: extra) → s.bcm.mode = .service →
      (∀ b : BankNo, n = bankByte b → ∃ u, exec .assignBank s = .next (r.answered 2 (Reply.ok []) u) ∧
        u = { t with bank := some b, link := { s.link with trigger := u.link.trigger } } ∧ s.triggers u) ∧
      (32 ≤ n.toNat → exec .assignBank s = .next (r.answered 2 (Reply.refuse .badValue) t))) ∧
    (∀ n, n < 65536 → s.asked r 3 (be 2 n ++ extra) →
      (n = 65535 → exec .setEvent s = .next (r.answered 3 (Reply.ok []) { t with bcm := { s.bcm with code := none } })) ∧
      (n ≤ 9999 → exec .setEvent s = .next (r.answered 3 (Reply.ok []) { t with bcm := { s.bcm with code := some n } })) ∧
      (9999 < n → n ≠ 65535 → exec .setEvent s = .next (r.answered 3 (Reply.refuse .badValue) t))) ∧
    (∀ v, v < 2 ^ 24 → s.asked r 4 (be 3 v ++ extra) →
      (v < 864000 →
        let u := { t with bcm := { s.bcm with clock := some v, tick := s.now + 100 } }
        exec .setClock s = .next (r.answered 4 (Reply.ok (be 3 v)) (u.scheduleAt v)) ∧
        (let due := s.bcm.schedule.armed = true ∧ v = s.bcm.schedule.opening
         let closes := s.bcm.schedule.armed = true ∧ v ≠ s.bcm.schedule.opening ∧ v = s.bcm.schedule.closing
         (due → s.bank.isSome = true →
           (s.bcm.mode = .service → u.scheduleAt v = (u.enterOpen [.scheduleOpen]).settle) ∧
           (s.bcm.mode = .standby → u.scheduleAt v = (u.enterOpen [.scheduleOpen, .wake]).settle)) ∧
         (closes → s.bcm.mode = .opened → u.scheduleAt v = u.enterClosing [.scheduleClose]) ∧
         ((due ∧ (s.bank = none ∨ (s.bcm.mode ≠ .service ∧ s.bcm.mode ≠ .standby))) ∨ (closes ∧ s.bcm.mode ≠ .opened) ∨
           (¬due ∧ ¬closes) → u.scheduleAt v = u))) ∧
      (864000 ≤ v → exec .setClock s = .next (r.answered 4 (Reply.refuse .badValue) t))) ∧
    (∀ (o c a m : Option Nat), optFits 3 o → optFits 3 c → optFits 1 a → optFits 1 m →
      s.asked r 5 (be 4 (maskOf [o.isSome, c.isSome, a.isSome, m.isSome]) ++ optField 3 o ++ optField 3 c ++ optField 1 a ++
        optField 1 m ++ extra) →
      let old := s.bcm.schedule
      let opening := o.getD old.opening
      let closing := c.getD old.closing
      let refused := exec .setSchedule s = .next (r.answered 5 (Reply.refuse .badValue) t)
      (∀ armed after, (a = none ∧ armed = old.armed ∨ a = some (bit armed)) →
        (m = none ∧ after = old.afterClose ∨ m = some (modeCode after.mode)) →
        (opening < 864000 → closing < 864000 → (armed = true → opening ≠ closing) →
          exec .setSchedule s = .next (r.answered 5 (Reply.ok []) { t with bcm := { s.bcm with
            schedule := { opening := opening, closing := closing, armed := armed, afterClose := after } } })) ∧
        (864000 ≤ opening ∨ 864000 ≤ closing ∨ (armed = true ∧ opening = closing) → refused)) ∧
      ((∃ x, a = some x ∧ 2 ≤ x) ∨ (∃ x, m = some x ∧ x ≠ 0 ∧ x ≠ 3 ∧ x ≠ 4) → refused)) ∧
    ∀ (o : Byte) (p : List Byte), p.length < 256 → s.asked r 29 (o :: byte p.length :: (p ++ extra)) →
      (1 ≤ p.length → p.length ≤ 16 →
        exec .setWakePattern s = .next (r.answered 29
          (if o.toNat ≤ 63 then Reply.ok [] else { status := .clamped, cause := .none, contents := [63] })
          { t with bcm := { s.bcm with wakeOffset := min 63 o.toNat, wakePattern := p } })) ∧
      (p = [] ∨ 16 < p.length → exec .setWakePattern s = .next (r.answered 29 (Reply.refuse .badValue) t))

/-- Set Bank Mode by the table of R156 with the checks of R156 to R158, BAD_VALUE for a mode code outside its list (R196), and Bank Reset (R96, R163, R176): every
sequencer is aborted in turn with the outcome WITHDRAWN (`abortOperation`, see LossMarkAndTestEnd), every lane is CLOSED with its
operation gone, takes its chosen profile, the requested override and power into force (R77), and keeps its control image, choice and
counts; the requested combine settings come into force and the bank is in SERVICE. Each slot keeps its link state, runs and identity;
a verdict that waits or is outstanding is discarded, and a lane that was not CLOSED queues its Closed display (R137; not one that was,
the model's choice, log entry 39). The link goes on with its settings, triggers and test.
That the lanes are aborted by ascending number, and that the confirmed images are kept, is the model's choice (log entry 33). -/
def Obligations.BankModeByTable : Prop :=
  ∀ (s : State) (r : Request) (extra : List Byte),
    let t := s.beginRequest
    let ok := fun (u : State) => exec .setBankMode s = .next (r.answered 6 (Reply.ok []) u)
    let refused := fun (c : RefusalCause) => exec .setBankMode s = .next (r.answered 6 (Reply.refuse c) t)
    let m := s.bcm.mode
    let pending := ∃ c : Fin 24, (s.evu.causes.get c).pending = true ∧ s.evu.level c < s.evu.wakeThreshold
    (∀ target, m ≠ .deep → s.asked r 6 (byte (modeCode target) :: extra) →
      (m = target → ok t) ∧
      (target = .opened → m = .service ∨ m = .standby →
        (s.bank = none → refused .notAssigned) ∧
        (s.bank.isSome = true → s.bcm.clock = none → refused .clockUnset) ∧
        (s.bank.isSome = true → s.bcm.clock.isSome = true →
          (m = .service → ok ((t.enterOpen []).settle)) ∧ (m = .standby → ok ((t.enterOpen [.wake]).settle)))) ∧
      (target = .opened → m = .closing → ok ((t.enterOpen []).settle)) ∧
      (target = .closing → m = .opened → ok (t.enterClosing [])) ∧
      (∀ x : RestMode, target = x.mode → x ≠ .service →
        (m = .service ∨ (m = .standby ∧ x = .deep) → (pending → refused .pending) ∧ (¬pending → ok (t.enterDormant x))) ∧
        (m = .closing → ok { t with bcm := { s.bcm with requested := some x } }) ∧
        (m = .opened → refused .wrongMode)) ∧
      (target = .service → m = .standby → ok t.leaveStandby) ∧
      (target = .service → m = .opened ∨ m = .closing → refused .wrongMode) ∧
      (target = .closing → m = .service ∨ m = .standby → refused .wrongMode)) ∧
    (∀ n : Byte, m ≠ .deep → 4 < n.toNat → s.asked r 6 (n :: extra) → refused .badValue) ∧
    (m ≠ .deep → s.asked r 7 extra →
      ∃ u, exec .bankReset s = .next (r.answered 7 (Reply.ok []) u) ∧ u.bcm.mode = .service ∧ u.bcm.requested = none ∧
        (∀ l, (u.lane l).state = .closed) ∧ (∀ k, (u.pairs.get k).inForce = (s.pairs.get k).requested) ∧
        (m ≠ .service → (u.evu.causes.get 18).pending = true) ∧ (m = .standby → (u.evu.causes.get 23).pending = true) ∧
        s.abortedFor u (List.finRange 16) .withdrawn ∧
        (∀ k, u.slot k = { s.slot k with
          verdict := none, undelivered := false,
          outstanding := (match (s.slot k).outstanding with | some (.verdict _) => none | o => o),
          lamp := if ∃ l, k ∈ s.slotsOf l ∧ (s.lane l).state ≠ .closed then some .closed else (s.slot k).lamp }) ∧
        (∀ l, let n := s.lane l
          let ended : Lane := if n.state = .closed then n else { n with
            key := none, result := none, reservation := none, query := none, passTimer := none, displayTimer := none }
          u.lane l = { ended with
            state := .closed, mate := none,
            inForce := if n.choice.val < s.policy.np then
              some { index := n.choice, profile := s.policy.profiles.get n.choice } else none,
            profileMissing := decide (s.policy.np ≤ n.choice.val), override := n.control.override, power := n.control.power }) ∧
        (m ≠ .standby → u.link = { s.link with slots := u.link.slots, trigger := u.link.trigger } ∧
          (s.link.trigger = true → u.link.trigger = true)) ∧
        u.policy = s.policy ∧ u.bank = s.bank ∧ u.bcm.clock = s.bcm.clock ∧ u.now = s.now)

/-- What a change of bank mode does (R136, R156 to R160): OPEN raises MODE_CHANGE and its causes with the link running and no
link test, and offers IDLE to every CLOSED lane (`offerIdle`, R78); a change of the mode's flags makes the triggers of R133; CLOSING closes IDLE and REFUSING lanes, and ends when every lane is CLOSED, in the deeper of the requested and the
after-close mode, or in SERVICE where a pending cause would wake it; a dormant entry ends a link test with TEST_DONE and stops the
link, at once or with the slot in progress: PRESENCE and the abort for each slot that was Active, every command and trigger discarded,
an access ended FAILED (R136, `State.linkStopped`); it closes every lane that was IDLE or REFUSING and releases nothing of its own (the
model's choice, log entry 7), and DEEP unsets the clock and discards the waiting requests; STANDBY is left with WAKE and the
link running. That the stop takes the lanes by ascending number is the model's choice (log entry 48). -/
def Obligations.ModeChangesTakeEffect : Prop :=
  ∀ s : State,
    (∀ causes : List Cause, s.link.stopping = false →
      let t := s.enterOpen causes
      t.bcm = { s.bcm with mode := .opened, requested := none } ∧ t.link.running = true ∧ t.link.test = none ∧
      (t.evu.causes.get 18).pending = true ∧ (∀ c ∈ causes, (t.evu.causes.get (causeIndex c)).pending = true) ∧
      (∀ l, t.lane l = (State.offerIdle l { s with bcm := { s.bcm with mode := .opened } }).lane l) ∧
      (∀ l, (s.lane l).state ≠ .closed → t.lane l = s.lane l) ∧ s.triggers t ∧ t.table = s.table ∧ t.zones = s.zones ∧ t.log = s.log) ∧
    (s.bcm.mode = .opened → ∀ causes : List Cause,
      let t := s.enterClosing causes
      (∀ l, (s.lane l).state = .opened ∨ (s.lane l).state = .querying →
        t.bcm.mode = .closing ∧ (t.lane l).state = (s.lane l).state) ∧
      (∀ l, (s.lane l).state = .idle ∨ (s.lane l).state = .refusing → (t.lane l).state = .closed) ∧
      (t.bcm.mode = .closing → s.triggers t) ∧
      (t.evu.causes.get 18).pending = true ∧ ∀ c ∈ causes, (t.evu.causes.get (causeIndex c)).pending = true) ∧
    (s.pairsSettled →
      (s.bcm.mode ≠ .closing ∨ (∃ l, (s.lane l).state ≠ .closed) → s.settle = s) ∧
      (s.bcm.mode = .closing → (∀ l, (s.lane l).state = .closed) →
        let deep := s.bcm.requested = some .deep ∨ s.bcm.schedule.afterClose = .deep
        let standby := ¬deep ∧ (s.bcm.requested = some .standby ∨ s.bcm.schedule.afterClose = .standby)
        let waking := ∃ c : Fin 24, (s.evu.causes.get c).pending = true ∧ s.evu.level c < s.evu.wakeThreshold
        let t := { s with bcm := { s.bcm with requested := none } }
        (waking ∨ (¬deep ∧ ¬standby) → s.settle.bcm = { t.bcm with mode := .service } ∧
          (s.settle.evu.causes.get 18).pending = true ∧ s.settle.lanes = s.lanes ∧ s.triggers s.settle) ∧
        (¬waking → deep → s.settle = t.enterDormant .deep) ∧
        (¬waking → standby → s.settle = t.enterDormant .standby))) ∧
    (∀ x : RestMode, x ≠ .service →
      let t := s.enterDormant x
      t.bcm.mode = x.mode ∧ (t.evu.causes.get 18).pending = true ∧
      (∀ l, (s.lane l).state = .idle ∨ (s.lane l).state = .refusing → (t.lane l).state = .closed) ∧
      (s.link.running = true → s.link.awaiting = false →
        t.link.running = false ∧ t.link.trigger = false ∧ (∀ l, (t.slot l).link = .absent) ∧ s.linkStopped t) ∧
      t.link.test = none ∧ (s.link.test ≠ none → (t.evu.causes.get 22).pending = true) ∧
      (s.link.running = true → s.link.awaiting = true → t.link.running = true ∧ t.link.stopping = true ∧ s.triggers t) ∧
      (x = .deep → t.bcm.clock = none ∧ t.mge.queue = []) ∧
      (x = .standby → t.bcm.clock = s.bcm.clock ∧ t.mge.queue = s.mge.queue)) ∧
    (s.bcm.mode = .standby →
      let t := s.leaveStandby
      t.bcm = { s.bcm with mode := .service } ∧ (t.evu.causes.get 18).pending = true ∧
      (t.evu.causes.get 23).pending = true ∧ s.triggers t ∧ (s.link.stopping = false → t.link.running = true))

/-- The geometry, the sweep and single records (R17, R21 to R31): Set Table Geometry and Clear Table begin the sweep, after which
every slot is FREE and the reply counts the records removed; Read Record answers a lookup; a list request executes its
entries in order, each on the table that the ones before it left, with one status for each in that order (R23), and is refused as a
whole where it has none or more than 30, or a revoke reason above 15. The bytes of Read
Record's reply for a key that is not found (log entry 23), and that a CLAMPED reply of a list request carries the per-entry statuses
alone (log entry 17), are the model's choice.
The 32-byte image and the 7-byte hold part (R192), whose bytes for what a record does not have are open (log entries 1, 31). An image,
a list of images and the fields of Fill Slots are read back from the bytes that R192 and R193 give them. -/
def Obligations.TableRequestsTakeEffect : Prop :=
  (∀ (x : RawImage) (extra : List Byte), x.fits → x.sent.length = 32 ∧ Reader.image (x.sent ++ extra) = some (x, extra)) ∧
  (∀ (xs : List RawImage) (extra : List Byte) (n : Nat), (∀ x ∈ xs, x.fits) → xs.length < 256 → n < 2 ^ 24 →
    Reader.list Reader.image (byte xs.length :: (xs.flatMap RawImage.sent ++ extra)) = some (xs, extra) ∧
    Reader.fill (be 3 n ++ byte xs.length :: (xs.flatMap RawImage.sent ++ extra)) = some (⟨n, xs⟩, extra)) ∧
  (∀ (α : Type) (f : α → State → State × EntryResult) (front back : List α) (a : α) (s : State),
    let x := s.eachEntry f front
    let y := f a x.1
    let z := y.1.eachEntry f back
    s.eachEntry f [] = (s, []) ∧ s.eachEntry f (front ++ a :: back) = (z.1, x.2 ++ y.2 :: z.2) ∧ x.2.length = front.length) ∧
  ∀ (s : State) (r : Request) (extra : List Byte), s.bcm.mode ≠ .deep →
    let t := s.beginRequest
    let heldAny := ∃ x ∈ s.table.slots, ∃ h, x.2.state = .held h
    let listed := fun (code : Nat) (x : State × List EntryResult) =>
      r.answered code (Reply.listed (x.2.any fun e => e.2) (x.2.map fun e => byte (entryStatusCode e.1))) x.1
    (∀ (b : Nat) (p : Byte), b < 65536 → s.asked r 8 (be 2 b ++ p :: extra) → s.bcm.mode = .service →
      let probe := max 1 (min 8 p.toNat)
      (b ∈ [1024, 2048, 4096, 8192, 16384, 32768] → ¬heldAny → exec .setTableGeometry s = .next { t with
        table := { s.table with buckets := b, probe := probe, sweeping := true },
        mge := { t.mge with phase := .sweeping (r.head 8) (if p.toNat = probe then none else some probe) } }) ∧
      (b ∈ [1024, 2048, 4096, 8192, 16384, 32768] → heldAny →
        exec .setTableGeometry s = .next (r.answered 8 (Reply.refuse .holdsPresent) t)) ∧
      (b ∉ [1024, 2048, 4096, 8192, 16384, 32768] →
        exec .setTableGeometry s = .next (r.answered 8 (Reply.refuse .badValue) t))) ∧
    (s.asked r 14 extra → s.bcm.mode = .service →
      (¬heldAny → exec .clearTable s = .next { t with
        table := { s.table with sweeping := true }, mge := { t.mge with phase := .sweeping (r.head 14) none } }) ∧
      (heldAny → exec .clearTable s = .next (r.answered 14 (Reply.refuse .holdsPresent) t))) ∧
    (∀ h c, s.mge.phase = .sweeping h c → exec .sweepEnd s = .next (
      { s with table := { s.table with slots := [], sweeping := false } }.sendReply h
        (match c with
         | none => Reply.ok (be 3 s.table.slots.length)
         | some p => { status := .clamped, cause := .none, contents := byte p :: be 3 s.table.slots.length }))) ∧
    (∀ k : Key, k.value < 2 ^ 80 → s.asked r 13 (keyBytes k ++ extra) →
      exec .readRecord s = .next (r.answered 13 (Reply.ok (match s.lookup k with
        | none => 1 :: keyBytes k
        | some (i, x) => [0] ++ be 3 i ++ x.image s.draws ++ x.holdPart s.draws s.now)) t.drawn)) ∧
    (∀ fields xs, s.asked r 9 fields → Reader.list Reader.image fields = some (xs, extra) → 1 ≤ xs.length → xs.length ≤ 30 →
      exec .upsertRecords s = .next (listed 9 (t.eachEntry State.upsertOne xs))) ∧
    (∀ fields (n : Nat) xs, s.asked r 10 fields → s.bcm.mode = .service → Reader.fill fields = some (⟨n, xs⟩, extra) →
      1 ≤ xs.length → xs.length ≤ 30 →
      exec .fillSlots s = .next (listed 10 (t.eachEntry State.fillOne (xs.zipIdx.map fun x => (n + x.2, x.1))))) ∧
    (∀ ks : List Key, (∀ k ∈ ks, k.value < 2 ^ 80) → 1 ≤ ks.length → ks.length ≤ 30 →
      (∀ e : Fin 16, s.asked r 11 (byte e.val :: byte ks.length :: ks.flatMap keyBytes ++ extra) →
        exec .revokeRecords s = .next (listed 11 (t.eachEntry (State.revokeOne e) ks))) ∧
      (s.asked r 12 (byte ks.length :: ks.flatMap keyBytes ++ extra) →
        exec .purgeRecords s = .next (listed 12 (t.eachEntry State.purgeOne ks)))) ∧
    (∀ fields xs, Reader.list Reader.image fields = some (xs, extra) → xs = [] ∨ 30 < xs.length →
      (s.asked r 9 fields → exec .upsertRecords s = .next (r.answered 9 (Reply.refuse .badValue) t)) ∧
      ∀ n, n < 2 ^ 24 → s.asked r 10 (be 3 n ++ fields) → s.bcm.mode = .service →
        exec .fillSlots s = .next (r.answered 10 (Reply.refuse .badValue) t)) ∧
    (∀ (ks : List Key) (e : Byte), (∀ k ∈ ks, k.value < 2 ^ 80) → ks.length < 256 →
      (ks = [] ∨ 30 < ks.length ∨ 16 ≤ e.toNat → s.asked r 11 (e :: byte ks.length :: ks.flatMap keyBytes ++ extra) →
        exec .revokeRecords s = .next (r.answered 11 (Reply.refuse .badValue) t)) ∧
      (ks = [] ∨ 30 < ks.length → s.asked r 12 (byte ks.length :: ks.flatMap keyBytes ++ extra) →
        exec .purgeRecords s = .next (r.answered 12 (Reply.refuse .badValue) t))) ∧
    ∀ (x : Record) (draw now : Nat),
      (∃ window last : List Byte, window.length = 6 ∧ last.length = 6 ∧
        x.image draw = keyBytes x.key ++ [byte (classCode x.cls), byte x.allowance, bankByte x.home] ++ be 2 x.zones.toNat ++
          [byte (bit x.multiEvent + 2 * bit x.window.isSome + 4 + 8 * bit x.provisional + 16 * bit x.last.isSome)] ++ window ++
          [byte (stateCode x.state), byte x.used, match x.state with
            | .revoked e => byte e.val
            | .held h => (match h.revokePending with | some e => byte e.val | none => 0xFF)
            | .resting _ => 0xFF] ++ last ∧
        (∀ w, x.window = some w → window = be 3 w.opens ++ be 3 w.closes) ∧
        ∀ y, x.last = some y →
          last = timeBytes y.time ++ [bankByte y.bank, laneByte y.lane, optByte (y.zone.map fun z => z.val)]) ∧
      (x.holdPart draw now).length = 7 ∧
      ((∀ h, x.state ≠ .held h) → (x.holdPart draw now).head? = some 0) ∧
      (∀ l z p w, x.state = .held { holder := .lane l z, prior := p, revokePending := w } → ∃ bank : Byte,
        (x.holdPart draw now).take 5 = [byte (1 + 4 * bit w.isSome), bank, laneByte l, byte (restingCode p),
          optByte (z.map fun y => y.val)]) ∧
      ∀ b l d p w, x.state = .held { holder := .remote b l d, prior := p, revokePending := w } →
        (x.holdPart draw now).take 5 = [byte (3 + 4 * bit w.isSome), bankByte b, laneByte l, byte (restingCode p), 0xFF] ∧
        (d - now ≤ 65535 → (x.holdPart draw now).drop 5 = be 2 (d - now))

/-- One entry of a list request (R22, R24 to R29): an upsert replaces the record found, keeping its dynamic fields while it is
HELD or where the image gives none, or takes the first FREE slot of the probe sequence; without one TABLE_FULL occurs. A revoke
marks or revokes, a purge frees the slot of a record that is not HELD, and a fill takes a named slot of the probe sequence.
The first FREE slot is the first slot of the probe sequence, in probe order, that holds no record (R22).
The check of an image (R24): BAD_VALUE, then BAD_WINDOW, then the image accepted with its allowance and its given used clamped. A
list entry whose image fails it gets its status and changes nothing. A record that an image makes new (R25, R27): the loadable fields,
and the state, used, last and provisional flag given, or UNUSED, 0, absent and clear.
A record put into a slot (R16, R21): that slot reads it, every other slot reads as before, the slots stay in rising order without
repeats, and nothing else changes; so it is for a slot made FREE. -/
def Obligations.RecordEntryResults : Prop :=
  (∀ x : RawImage,
    let given := x.flags.testBit 2 = true
    let dated := given ∧ x.flags.testBit 4 = true
    let badValue := (x.key.kind ≠ 1 ∧ x.key.kind ≠ 2) ∨ (x.key.kind = 1 ∧ 99999999999999 < x.key.value) ∨ 4 ≤ x.cls ∨ 32 ≤ x.home ∨
      x.zones = 0 ∨ (given ∧ (x.state = 1 ∨ 6 ≤ x.state)) ∨ (given ∧ x.state = 5 ∧ 16 ≤ x.reason) ∨
      (dated ∧ (32 ≤ x.lastBank ∨ 16 ≤ x.lastLane ∨ (16 ≤ x.lastZone ∧ x.lastZone ≠ 255)))
    let badWindow := (x.flags.testBit 1 = true ∧ (x.opens = x.closes ∨ 864000 ≤ x.opens ∨ 864000 ≤ x.closes)) ∨
      (dated ∧ 864000 ≤ x.lastTime)
    (badValue → x.check = .error .badValue) ∧ (¬badValue → badWindow → x.check = .error .badWindow) ∧
    (¬badValue → ¬badWindow → ∃ i : Image, x.check = .ok i ∧
      i.key = ⟨if x.key.kind = 1 then .barcode else .card, x.key.value⟩ ∧ classCode i.cls = x.cls ∧ i.home.val = x.home ∧
      i.zones = BitVec.ofNat 16 x.zones ∧ i.multiEvent = x.flags.testBit 0 ∧
      i.window = (if x.flags.testBit 1 = true then some ⟨x.opens, x.closes⟩ else none) ∧
      i.allowance = (if i.cls = .single then 1 else max 1 (min 15 x.allowance)) ∧
      (¬given → i.given = none) ∧
      (given → ∃ g, i.given = some g ∧ stateCode g.state = x.state ∧ (∀ e, g.state = .revoked e → e.val = x.reason) ∧
        g.used = (if i.cls = .staff then x.used else min x.used i.allowance) ∧ g.provisional = x.flags.testBit 3 ∧
        (¬dated → g.last = none) ∧
        (dated → ∃ y, g.last = some y ∧ y.time = some x.lastTime ∧ y.bank.val = x.lastBank ∧ y.lane.val = x.lastLane ∧
          (y.zone.map fun z => z.val) = if x.lastZone = 255 then none else some x.lastZone)) ∧
      (i.changed = true ↔ i.allowance ≠ x.allowance ∨ ∃ g, i.given = some g ∧ g.used ≠ x.used))) ∧
  (∀ (t : Table) (k : Key),
    (t.freeSlot k = none ↔ ∀ n ∈ t.probeSlots k, t.slotAt n ≠ none) ∧
    ∀ n, t.freeSlot k = some n →
      t.slotAt n = none ∧ ∃ before after, t.probeSlots k = before ++ n :: after ∧ ∀ m ∈ before, t.slotAt m ≠ none) ∧
  (∀ i : Image,
    let made : Record := {
      key := i.key, cls := i.cls, allowance := i.allowance, home := i.home, zones := i.zones,
      multiEvent := i.multiEvent, window := i.window, state := .resting .unused, used := 0, last := none, provisional := false }
    (i.given = none → i.newRecord = made) ∧
    ∀ g, i.given = some g → i.newRecord = { made with
      state := g.state, used := g.used, last := g.last, provisional := g.provisional }) ∧
  (∀ (s : State) (n : Nat) (r : Record),
    let t := s.putRecord n r
    let u := s.table.slots.filter fun x => decide (x.1 ≠ n)
    t = { s with table := { s.table with slots := t.table.slots } } ∧
    (∀ m, t.table.slotAt m = if m = n then some r else s.table.slotAt m) ∧
    (∀ m, Table.slotAt { s.table with slots := u } m = if m = n then none else s.table.slotAt m) ∧
    (s.table.sorted → t.table.sorted ∧ Table.sorted { s.table with slots := u } ∧
      ∀ m q, s.table.slotAt m = some q ↔ (m, q) ∈ s.table.slots)) ∧
  ∀ s : State,
    (∀ x e, RawImage.check x = .error e → s.upsertOne x = (s, e, false) ∧ ∀ n, s.fillOne (n, x) = (s, e, false)) ∧
    (∀ x i, RawImage.check x = .ok i →
      (∀ n q, s.lookup i.key = some (n, q) →
        let kept : Record := { q with
          cls := i.cls, allowance := i.allowance, home := i.home, zones := i.zones, multiEvent := i.multiEvent,
          window := i.window, used := if i.cls = .staff then q.used else min q.used i.allowance }
        (∀ h, q.state = .held h →
          s.upsertOne x = (s.putRecord n kept, .held, i.changed || decide (kept.used ≠ q.used))) ∧
        ((∀ h, q.state ≠ .held h) → i.given = none →
          s.upsertOne x = (s.putRecord n kept, .replaced, i.changed || decide (kept.used ≠ q.used))) ∧
        (∀ g, (∀ h, q.state ≠ .held h) → i.given = some g → s.upsertOne x = (s.putRecord n { kept with
          state := g.state, used := g.used, last := g.last, provisional := g.provisional }, .replaced, i.changed))) ∧
      (s.lookup i.key = none →
        (∀ n, s.table.freeSlot i.key = some n → s.upsertOne x = (s.putRecord n i.newRecord, .stored, i.changed)) ∧
        (s.table.freeSlot i.key = none → s.upsertOne x = (s.errorOccurs .tableFull none [], .tableFull, i.changed))) ∧
      ∀ n, (4 * s.table.buckets ≤ n ∨ n / 4 ∉ probeBuckets s.table.buckets s.table.probe i.key →
          s.fillOne (n, x) = (s, .outOfRange, i.changed)) ∧
        (n < 4 * s.table.buckets → n / 4 ∈ probeBuckets s.table.buckets s.table.probe i.key →
          (∀ q h, s.table.slotAt n = some q → q.state = .held h → s.fillOne (n, x) = (s, .held, i.changed)) ∧
          ((∀ q h, s.table.slotAt n = some q → q.state ≠ .held h) →
            (∀ m q, s.lookup i.key = some (m, q) → m ≠ n → s.fillOne (n, x) = (s, .duplicate, i.changed)) ∧
            (∀ q, s.lookup i.key = some (n, q) → s.fillOne (n, x) = (s.putRecord n i.newRecord, .replaced, i.changed)) ∧
            (s.lookup i.key = none →
              (s.table.slotAt n = none → s.fillOne (n, x) = (s.putRecord n i.newRecord, .stored, i.changed)) ∧
              ∀ q, s.table.slotAt n = some q → s.fillOne (n, x) = (s.putRecord n i.newRecord, .replaced, i.changed))))) ∧
    ∀ k : Key,
      (s.lookup k = none → ∀ e, s.revokeOne e k = (s, .unknown, false) ∧ s.purgeOne k = (s, .unknown, false)) ∧
      ∀ n q, s.lookup k = some (n, q) →
        (∀ h, q.state = .held h → s.purgeOne k = (s, .held, false) ∧ ∀ e, s.revokeOne e k =
          (s.putRecord n { q with state := .held { h with revokePending := some e } }, .pending, false)) ∧
        ((∀ h, q.state ≠ .held h) →
          (∀ e, s.revokeOne e k = (s.putRecord n { q with state := .revoked e }, .revoked, false)) ∧
          s.purgeOne k = ({ s with table := { s.table with slots := s.table.slots.filter fun x => decide (x.1 ≠ n) } },
            .purged, false))

/-- The Policy Store and the lanes' choices (R3, R5, R76): a clamped profile count, the profiles below NP, the templates that have
a place, and a choice; a lane above 15 and an index above 7 are refused. Lanes that are CLOSED or IDLE take a change of their profile or
choice at once; at a change of NP a CLOSED lane adopts, and an IDLE lane whose choice is then at or above NP is closed (R77). The
model's choice: the values of a CLAMPED reply are all contents in the order of the request (log entry 17); the direction codes and the
bits of indications (log entry 16); which lanes adopt at a change of NP, and that a
Write Profile counts as a change also where it writes the contents held, a choice of the same profile as none (log entry 15); the place of Write Template's load byte, and when
a byte that is neither 0 nor 1 is refused (log entry 35); the byte values of the legal characters (log entry 50). The fields of Write Profile and of a template's contents are read from the
bytes that R193 gives them. -/
def Obligations.PolicyRequestsTakeEffect : Prop :=
  (∀ (f : ProfileFields) (extra : List Byte), f.index < 256 → f.direction < 256 → f.zones < 65536 → f.templates < 65536 →
    f.cards < 256 → f.window < 65536 → f.display < 256 → f.cooldown < 65536 → f.refer < 2 ^ 24 → f.offline < 256 →
    Reader.profile (be 1 f.index ++ be 1 f.direction ++ be 2 f.zones ++ be 2 f.templates ++ be 1 f.cards ++ be 2 f.window ++
      be 1 f.display ++ be 2 f.cooldown ++ be 3 f.refer ++ be 1 f.offline ++ extra) = some (f, extra)) ∧
  (∀ (f : TemplateFields) (extra : List Byte), f.lenMin < 256 → f.lenMax < 256 → f.marker.length < 256 → f.markerAt < 256 →
    f.eventAt < 256 → f.eventLen < 256 → f.serialAt < 256 → f.serialLen < 256 → f.checkAt < 256 → f.checkLen < 256 →
    Reader.contents (be 1 f.lenMin ++ be 1 f.lenMax ++ be 1 f.marker.length ++ f.marker ++ be 1 f.markerAt ++ be 1 f.eventAt ++
      be 1 f.eventLen ++ be 1 f.serialAt ++ be 1 f.serialLen ++ be 1 f.checkAt ++ be 1 f.checkLen ++ extra) = some (f, extra)) ∧
  ∀ (s : State) (r : Request) (extra : List Byte), s.bcm.mode ≠ .deep →
    let t := s.beginRequest
    (∀ n : Byte, s.asked r 15 (n :: extra) →
      let np := max 1 (min 8 n.toNat)
      let y : Reply := if np = n.toNat then Reply.ok [] else { status := .clamped, cause := .none, contents := [byte np] }
      (np = s.policy.np → exec .setProfileCount s = .next (r.answered 15 y t)) ∧
      (np ≠ s.policy.np → ∃ u, exec .setProfileCount s = .next (r.answered 15 y u) ∧
        (∃ v : State, u = v.settle ∧ v.policy = u.policy ∧ ∀ l,
          let w := { t with policy := v.policy }
          v.lane l = match (s.lane l).state with
            | .closed => (w.tryIdle l).lane l
            | .idle => if np ≤ (s.lane l).choice.val then (w.rest l).lane l else s.lane l
            | _ => s.lane l) ∧
        u.policy.np = np ∧ (∀ i, u.policy.templates.get i = none) ∧
        (∀ p : Fin 8, u.policy.profiles.get p =
          if p.val < s.policy.np ∧ p.val < np then s.policy.profiles.get p else Profile.default) ∧
        ((∃ i, (s.policy.templates.get i).isSome = true) → (u.evu.errors.get 13).detected = true) ∧
        ((∀ i, s.policy.templates.get i = none) → s.bcm.mode ≠ .closing → u.evu = s.evu))) ∧
    (∀ fields f, s.asked r 16 fields → Reader.profile fields = some (f, extra) →
      (∀ p : Fin 8, f.index = p.val → p.val < s.policy.np →
        (∀ d c, f.direction = laneDirectionCode d → f.cards = bit c →
          let x : Profile := {
            direction := d, zones := BitVec.ofNat 16 f.zones, templates := BitVec.ofNat 16 f.templates, cards := c,
            passWindow := max 20 (min 300 f.window), display := max 5 (min 50 f.display), cooldown := min 600 f.cooldown,
            refer := BitVec.ofNat 17 f.refer, offline := BitVec.ofNat 4 f.offline }
          let whole := x.passWindow = f.window ∧ x.display = f.display ∧ x.cooldown = f.cooldown
          exec .writeProfile s = .next (r.answered 16
            (if whole then Reply.ok [] else { status := .clamped, cause := .none, contents := x.bytes }) (t.storeProfile p x)) ∧
          (t.storeProfile p x).policy = { s.policy with profiles := s.policy.profiles.set p.val x p.isLt } ∧
          let w := { t with policy := { s.policy with profiles := s.policy.profiles.set p.val x p.isLt } }
          ∃ v : State, t.storeProfile p x = v.settle ∧ v = { w with lanes := v.lanes, link := { s.link with slots := v.link.slots } } ∧
            ∀ l, v.lane l = if (s.lane l).choice = p then (match (s.lane l).state with
              | .closed => (w.tryIdle l).lane l
              | .idle => (w.rest l).lane l
              | _ => s.lane l) else s.lane l) ∧
        (4 < f.direction ∨ f.direction = 0 ∨ 1 < f.cards →
          exec .writeProfile s = .next (r.answered 16 (Reply.refuse .badValue) t))) ∧
      (s.policy.np ≤ f.index → f.index < 8 → exec .writeProfile s = .next (r.answered 16 (Reply.refuse .noRoom) t)) ∧
      (8 ≤ f.index → exec .writeProfile s = .next (r.answered 16 (Reply.refuse .badValue) t))) ∧
    (∀ i : Fin 16, i.val < min 16 ((48 - 4 * s.policy.np) / 2) →
      (s.asked r 17 (byte i.val :: 0 :: extra) →
        exec .writeTemplate s = .next (r.answered 17 (Reply.ok []) { t with
          policy := { s.policy with templates := s.policy.templates.set i.val none i.isLt } })) ∧
      (∀ fields f, s.asked r 17 (byte i.val :: 1 :: fields) → Reader.contents fields = some (f, extra) →
        let x : Template := {
          lenMin := max 4 (min 48 f.lenMin), lenMax := max 4 (min 48 f.lenMax), marker := f.marker,
          markerAt := min 47 f.markerAt, eventAt := min 47 f.eventAt, eventLen := f.eventLen, serialAt := min 47 f.serialAt,
          serialLen := max 4 (min 14 f.serialLen), checkAt := min 47 f.checkAt, checkLen := f.checkLen }
        let bad := (f.eventLen ≠ 0 ∧ f.eventLen ≠ 4) ∨ (f.checkLen ≠ 0 ∧ f.checkLen ≠ 2) ∨ 4 < f.marker.length ∨
          (∃ b ∈ f.marker, ¬((0x30 ≤ b.toNat ∧ b.toNat ≤ 0x39) ∨ (0x41 ≤ b.toNat ∧ b.toNat ≤ 0x5A))) ∨ x.lenMax < x.lenMin
        let whole := x.lenMin = f.lenMin ∧ x.lenMax = f.lenMax ∧ x.markerAt = f.markerAt ∧ x.eventAt = f.eventAt ∧
          x.serialAt = f.serialAt ∧ x.serialLen = f.serialLen ∧ x.checkAt = f.checkAt
        (bad → exec .writeTemplate s = .next (r.answered 17 (Reply.refuse .badValue) t)) ∧
        (¬bad → exec .writeTemplate s = .next (r.answered 17
          (if whole then Reply.ok [] else { status := .clamped, cause := .none, contents := x.bytes }) { t with
            policy := { s.policy with templates := s.policy.templates.set i.val (some x) i.isLt } })))) ∧
    (∀ (i load : Byte) (fields : List Byte), s.asked r 17 (i :: load :: fields) →
      (load = 1 → ∃ f, Reader.contents fields = some (f, extra)) →
      (15 < i.toNat → exec .writeTemplate s = .next (r.answered 17 (Reply.refuse .badValue) t)) ∧
      (i.toNat ≤ 15 → min 16 ((48 - 4 * s.policy.np) / 2) ≤ i.toNat →
        exec .writeTemplate s = .next (r.answered 17 (Reply.refuse .noRoom) t)) ∧
      (i.toNat < min 16 ((48 - 4 * s.policy.np) / 2) → load ≠ 0 → load ≠ 1 →
        exec .writeTemplate s = .next (r.answered 17 (Reply.refuse .badValue) t))) ∧
    (∀ a b : Byte, s.asked r 18 (a :: b :: extra) → 15 < a.toNat ∨ 7 < b.toNat →
      exec .setLaneProfileChoice s = .next (r.answered 18 (Reply.refuse .badValue) t)) ∧
    ∀ (l : LaneNo) (p : Fin 8), s.asked r 18 (laneByte l :: byte p.val :: extra) →
      ((s.lane l).choice = p → exec .setLaneProfileChoice s = .next (r.answered 18 (Reply.ok []) t)) ∧
      ((s.lane l).choice ≠ p →
        let u := t.modLane l fun n => { n with choice := p }
        ((s.lane l).state = .closed → exec .setLaneProfileChoice s = .next (r.answered 18 (Reply.ok []) (u.tryIdle l).settle)) ∧
        ((s.lane l).state = .idle → exec .setLaneProfileChoice s = .next (r.answered 18 (Reply.ok []) (u.rest l).settle)) ∧
        ((s.lane l).state ≠ .closed → (s.lane l).state ≠ .idle →
          exec .setLaneProfileChoice s = .next (r.answered 18 (Reply.ok []) u.settle)))

/-- Set Lane Control, Clear Counts, Lane Parameter Access, Lane Link Test and Set Link Header (R90 to R92, R94, R95, R123, R130,
R134); a lane above 15, and a code outside its list, refuse the request with BAD_VALUE (R90, R130, R196). The model's choice: the codes
of indications (log entry 16); the order of the values in a CLAMPED reply of Set Link Header (log entry 17); the combine field in the
named lane's control image alone (log entry 14); a cycle period without a header field, which leaves no settings pending (log entry
29); and a link test that counts as in progress, for BUSY and for FAILED, from its request on, a waiting Parameter command going with
the refused access (log entry 32); and a changed direction override or power that an IDLE lane takes at once, as a CLOSED one does
(`readopt`, log entry 15: R90 has the lane take it at its next IDLE); and one waiting Mode command for several requests (log entry
51). -/
def Obligations.LaneRequestsTakeEffect : Prop :=
  (∀ (s : State) (l : LaneNo),
    ((s.lane l).state = .closed → s.readopt l = s.tryIdle l) ∧ ((s.lane l).state = .idle → s.readopt l = s.rest l) ∧
    ((s.lane l).state ≠ .closed → (s.lane l).state ≠ .idle → s.readopt l = s)) ∧
  ∀ (s : State) (r : Request) (extra : List Byte), s.bcm.mode ≠ .deep →
    let t := s.beginRequest
    (∀ (l : LaneNo) (d : Option DirOverride) (p c x : Option Bool) (lamps : Option (LampOverride × LampOverride × LampOverride)),
      let code := fun (o : Option Bool) => o.map bit
      let old := (s.lane l).control
      let image : ControlImage := {
        green := (lamps.map fun y => y.1).getD old.green, red := (lamps.map fun y => y.2.1).getD old.red,
        amber := (lamps.map fun y => y.2.2).getD old.amber, override := d.getD old.override, power := p.getD old.power,
        combine := c.getD old.combine }
      s.asked r 19 (laneByte l :: be 4 (maskOf [lamps.isSome, d.isSome, p.isSome, c.isSome, x.isSome]) ++
        (match lamps with | some (g, e, a) => [byte (lampCode g), byte (lampCode e), byte (lampCode a)] | none => []) ++
        optField 1 (d.map overrideCode) ++ optField 1 (code p) ++ optField 1 (code c) ++ optField 1 (code x) ++ extra) →
      let one := t.modLane l fun n => { n with control := image }
      let two := match c with
        | some b => { one with pairs := s.pairs.set (pairOf l).val { s.pairs.get (pairOf l) with requested := b } (pairOf l).isLt }
        | none => one
      let three := if (s.slot l).link = .active then
        (two.modLane l fun n => { n with commanding := true }).modSlot l fun k => { k with modeDue := true } else two
      let four := (if old.override ≠ image.override ∨ old.power ≠ image.power then three.readopt l else three).settle
      let five := if x = some true then (four.resetLane l).settle else four
      exec .setLaneControl s = .next (r.answered 19 (Reply.ok [byte (slotLinkCode (five.slot l).link)]) five)) ∧
    (∀ (a : Byte) (lamps : Option (Byte × Byte × Byte)) (d p c x : Option Nat),
      optFits 1 d → optFits 1 p → optFits 1 c → optFits 1 x →
      s.asked r 19 (a :: be 4 (maskOf [lamps.isSome, d.isSome, p.isSome, c.isSome, x.isSome]) ++
        (match lamps with | some (g, e, b) => [g, e, b] | none => []) ++
        optField 1 d ++ optField 1 p ++ optField 1 c ++ optField 1 x ++ extra) →
      15 < a.toNat ∨ (∃ g e b, lamps = some (g, e, b) ∧ (2 < g.toNat ∨ 2 < e.toNat ∨ 2 < b.toNat)) ∨ (∃ v, d = some v ∧ 4 < v) ∨
        (∃ v, p = some v ∧ 1 < v) ∨ (∃ v, c = some v ∧ 1 < v) ∨ (∃ v, x = some v ∧ 1 < v) →
      exec .setLaneControl s = .next (r.answered 19 (Reply.refuse .badValue) t)) ∧
    (∀ (a n w : Byte) (rest : List Byte), s.asked r 20 (a :: n :: w :: rest) → (w = 1 → 2 ≤ rest.length) →
      15 < a.toNat ∨ 63 < n.toNat ∨ 1 < w.toNat →
      exec .laneParameterAccess s = .next (r.answered 20 (Reply.refuse .badValue) t)) ∧
    (∀ n, n < 65536 → s.asked r 35 (be 2 n ++ extra) →
      (n = 0 → exec .clearCounts s = .next (r.answered 35 (Reply.refuse .badValue) t)) ∧
      (n ≠ 0 → ∃ u, exec .clearCounts s = .next (r.answered 35 (Reply.ok []) u) ∧ u = { t with lanes := u.lanes } ∧
        ∀ l, u.lane l = if n.testBit l.val then { s.lane l with counts := LaneCounts.zero } else s.lane l)) ∧
    (∀ (l : LaneNo) (n : Byte) (w : Option (BitVec 16)),
      s.asked r 20 (laneByte l :: n :: (match w with | some v => 1 :: be 2 v.toNat | none => [0]) ++ extra) →
      (63 < n.toNat → exec .laneParameterAccess s = .next (r.answered 20 (Reply.refuse .badValue) t)) ∧
      (n.toNat ≤ 63 → (s.slot l).link = .active → s.link.test = none →
        exec .laneParameterAccess s = .next { t.modSlot l (fun k => { k with parameterDue := true }) with
          mge := { t.mge with
            phase := .accessing (r.head 20) ⟨l, n.toNat, w.isSome, w.getD 0, none⟩ } }) ∧
      (n.toNat ≤ 63 → (s.slot l).link ≠ .active ∨ s.link.test ≠ none →
        exec .laneParameterAccess s = .next (r.answered 20 (Reply.refuse .failed)
          ((t.modSlot l fun k => { k with parameterDue := false }).raise .laneAccessDone (some l.val))))) ∧
    (∀ (n : Nat) (w : BitVec 16), n < 65536 → s.asked r 21 (be 2 n ++ be 2 w.toNat ++ extra) → s.bcm.mode = .service →
      (s.link.test = none → exec .laneLinkTest s = .next (r.answered 21
        (if n = 0 then { status := .clamped, cause := .none, contents := be 2 1 } else Reply.ok [])
        { t with link := { s.link with
          test := some { count := max 1 n, word := w, begun := false }, cyclesRun := 0,
          slots := s.link.slots.map fun k => { k with mismatches := 0 } } })) ∧
      (∀ x, s.link.test = some x → exec .laneLinkTest s = .next (r.answered 21 Reply.busy t))) ∧
    (∀ (n b a c o p : Option Nat) (ws : Option (Vector (BitVec 16) 7)) (fs : Option (Vector Byte 8)),
      optFits 1 n → optFits 1 b → optFits 1 a → optFits 1 c → optFits 1 o → optFits 1 p →
      s.asked r 22 (be 4 (maskOf [n.isSome, ws.isSome, b.isSome, fs.isSome, a.isSome, c.isSome, o.isSome, p.isSome]) ++
        optField 1 n ++ (match ws with | some v => v.toList.flatMap fun w => be 2 w.toNat | none => []) ++ optField 1 b ++
        (match fs with | some v => v.toList | none => []) ++ optField 1 a ++ optField 1 c ++ optField 1 o ++ optField 1 p ++ extra) →
      (∃ v, b = some v ∧ 1 < v) ∨ (∃ v, fs = some v ∧ ∃ i, 8 < (v.get i).toNat) →
      exec .setLinkHeader s = .next (r.answered 22 (Reply.refuse .badValue) t)) ∧
    ∀ (n b a c o p : Option Nat) (ws : Option (Vector (BitVec 16) 7)) (fs : Option (Vector FlagSource 8)),
      optFits 1 n → optFits 1 b → optFits 1 a → optFits 1 c → optFits 1 o → optFits 1 p →
      s.asked r 22 (be 4 (maskOf [n.isSome, ws.isSome, b.isSome, fs.isSome, a.isSome, c.isSome, o.isSome, p.isSome]) ++
        optField 1 n ++ (match ws with | some v => v.toList.flatMap fun w => be 2 w.toNat | none => []) ++ optField 1 b ++
        (match fs with | some v => v.toList.map fun f => byte (flagCode f) | none => []) ++ optField 1 a ++ optField 1 c ++
        optField 1 o ++ optField 1 p ++ extra) →
      let old := s.link.pendingSettings.getD s.link.settings
      (∀ x, b = some x → 2 ≤ x → exec .setLinkHeader s = .next (r.answered 22 (Reply.refuse .badValue) t)) ∧
      ∀ bw, (b = none ∧ bw = old.bankWord ∨ b = some (bit bw)) →
        let count := min 7 (n.getD old.count)
        let h : HeaderSettings := {
          count := if (if n.isSome then count else old.count) = 0 ∧ bw = false then 1 else if n.isSome then count else old.count,
          words := ws.getD old.words, bankWord := bw, select := fs.getD old.select,
          rising := (a.map (BitVec.ofNat 8)).getD old.rising, falling := (c.map (BitVec.ofNat 8)).getD old.falling,
          offset := match o with | some x => min 15 x | none => old.offset }
        let period := match p with | some x => max 2 (min 20 x) | none => s.link.period
        let header := n.isSome ∨ ws.isSome ∨ b.isSome ∨ fs.isSome ∨ a.isSome ∨ c.isSome ∨ o.isSome
        ∃ y : Reply, exec .setLinkHeader s = .next (r.answered 22 y { t with link := { s.link with
          pendingSettings := if header then some h else s.link.pendingSettings, period := period } }) ∧
          (y = Reply.ok [] ∨ (y.status = .clamped ∧ y.contents = h.bytes ++ [byte period])) ∧
          (y = Reply.ok [] ↔ (∀ x, n = some x → x = h.count) ∧ (n = none → old.count = h.count) ∧
            (∀ x, o = some x → x ≤ 15) ∧ ∀ x, p = some x → 2 ≤ x ∧ x ≤ 20)

/-- Set Zone Quota, Reset Zone Counts, Read Zones, Set Peer, Set Reporting and Set Event Levels (R67 to R69, R99, R144, R162, R166,
R172, R177, R181): clamped values take effect together at once, and the reply is CLAMPED where one was clamped and OK otherwise; a zone above 15, a bank above 31 and a code outside its list are refused
BAD_VALUE (R196). A change of levels or thresholds that makes a pending cause reportable makes the report wanted where no event frame
waits (R181, R182), and one that brings a pending cause below the wake threshold releases STANDBY (R159). The order of the values in a
CLAMPED reply is the model's choice (log entry 17) and is not stated. The codes Present 0 and Absent 1, of the arbiter mode and of the
log full policy (log entry 16), the bytes of Read Zones' reply, without AnyZoneFull (log entry 23), and the order of the zones in Reset
Zone Counts' (log entry 38) are the model's choice. The fields of Set Reporting are read from the bytes that R193 gives them, and a
change of AnyZoneFull or Degraded makes the triggers of R133. -/
def Obligations.SettingRequestsTakeEffect : Prop :=
  (∀ (f : ReportingFields) (extra : List Byte), optFits 1 f.calmBatch → optFits 2 f.calmHold → optFits 1 f.surgeBatch →
    optFits 2 f.surgeHold → optFits 2 f.surgeOn → optFits 2 f.surgeOff → optFits 1 f.arbiter → optFits 1 f.weight →
    optFits 1 f.policy → optFits 2 f.maxPayload → optFits 1 f.interval → optFits 2 f.holdoff →
    Reader.reporting (be 4 (maskOf [f.calmBatch.isSome, f.calmHold.isSome, f.surgeBatch.isSome, f.surgeHold.isSome,
        f.surgeOn.isSome, f.surgeOff.isSome, f.arbiter.isSome, f.weight.isSome, f.policy.isSome, f.maxPayload.isSome,
        f.interval.isSome, f.holdoff.isSome]) ++
      optField 1 f.calmBatch ++ optField 2 f.calmHold ++ optField 1 f.surgeBatch ++ optField 2 f.surgeHold ++
      optField 2 f.surgeOn ++ optField 2 f.surgeOff ++ optField 1 f.arbiter ++ optField 1 f.weight ++ optField 1 f.policy ++
      optField 2 f.maxPayload ++ optField 1 f.interval ++ optField 2 f.holdoff ++ extra) = some (f, extra)) ∧
  ∀ (s : State) (r : Request) (extra : List Byte), s.bcm.mode ≠ .deep →
    let t := s.beginRequest
    let clampOf := fun (lo hi old : Nat) (f : Option Nat) => match f with | some v => max lo (min hi v) | none => old
    (∀ (z : ZoneNo) (n : Nat), n < 65536 → s.asked r 23 (byte z.val :: be 2 n ++ extra) →
      let x := s.zone z
      let q := max n (x.entered + x.held)
      let u := t.modZone z fun y => { y with quota := q }
      let raised := 0 < q ∧ q ≤ x.entered + x.held ∧ ¬(0 < x.quota ∧ x.quota ≤ x.entered + x.held)
      exec .setZoneQuota s = .next (r.answered 23
        { status := if q = n then .ok else .clamped, cause := .none, contents := byte z.val :: (be 2 q ++ be 2 x.entered ++ be 1 x.held) }
        (if raised then u.raise .zoneFull (some z.val) else u)) ∧
      s.triggers u ∧ u = { t with
        zones := s.zones.set z.val { x with quota := q } z.isLt, link := { s.link with trigger := u.link.trigger } }) ∧
    (∀ (a : Byte) (n : Nat), n < 65536 → s.asked r 23 (a :: be 2 n ++ extra) → 15 < a.toNat →
      exec .setZoneQuota s = .next (r.answered 23 (Reply.refuse .badValue) t)) ∧
    (∀ (a : Byte) (p d q h : Option Nat), optFits 1 p → optFits 1 d → optFits 2 q → optFits 1 h →
      s.asked r 26 (a :: be 4 (maskOf [p.isSome, d.isSome, q.isSome, h.isSome]) ++
        optField 1 p ++ optField 1 d ++ optField 2 q ++ optField 1 h ++ extra) →
      31 < a.toNat ∨ (∃ v, p = some v ∧ 1 < v) → exec .setPeer s = .next (r.answered 26 (Reply.refuse .badValue) t)) ∧
    (∀ n : Nat, n < 65536 → s.asked r 24 (be 2 n ++ extra) →
      (n = 0 → exec .resetZoneCounts s = .next (r.answered 24 (Reply.refuse .badValue) t)) ∧
      (n ≠ 0 → ∃ u, exec .resetZoneCounts s = .next (r.answered 24
          (Reply.ok ((List.finRange 16).flatMap fun z =>
            if n.testBit z.val then be 2 (s.zone z).entered ++ be 2 (s.zone z).scanOuts else [])) u) ∧
        u = { t with zones := u.zones, link := { s.link with trigger := u.link.trigger } } ∧ s.triggers u ∧
        ∀ z, u.zone z = if n.testBit z.val then { s.zone z with entered := 0, scanOuts := 0 } else s.zone z)) ∧
    (s.asked r 25 extra → exec .readZones s = .next (r.answered 25 (Reply.ok ((List.finRange 16).flatMap fun z =>
      let x := s.zone z
      be 2 x.quota ++ be 2 x.entered ++ be 1 x.held ++ be 2 x.scanOuts ++
        [if x.quota = 0 then 0 else if x.quota ≤ x.entered + x.held then 2 else 1])) t)) ∧
    (∀ (b : BankNo) (p : Option Bool) (d q h : Option Nat), optFits 1 d → optFits 2 q → optFits 1 h →
      s.asked r 26 (bankByte b :: be 4 (maskOf [p.isSome, d.isSome, q.isSome, h.isSome]) ++
        optField 1 (p.map fun x => bit (!x)) ++ optField 1 d ++ optField 2 q ++ optField 1 h ++ extra) →
      ∃ (y : Reply) (u : State), exec .setPeer s = .next (r.answered 26 y u) ∧ s.triggers u ∧ u = { t with
        peers := { s.peers with
          downAfter := clampOf 1 8 s.peers.downAfter d, queryTimeout := clampOf 20 1000 s.peers.queryTimeout q,
          remoteHold := clampOf 5 60 s.peers.remoteHold h,
          entries := s.peers.entries.set b.val
            (if p.getD (s.peer b).present = (s.peer b).present then s.peer b else
              { present := !(s.peer b).present, state := .down, timeouts := 0 }) b.isLt },
        link := { s.link with trigger := u.link.trigger } } ∧
        (y.status = .ok ∨ y.status = .clamped) ∧
        (y.status = .ok ↔ (∀ x, d = some x → 1 ≤ x ∧ x ≤ 8) ∧ (∀ x, q = some x → 20 ≤ x ∧ x ≤ 1000) ∧
          ∀ x, h = some x → 5 ≤ x ∧ x ≤ 60)) ∧
    (∀ fields f, s.asked r 27 fields → Reader.reporting fields = some (f, extra) →
      let k := s.trunk
      (∀ a g, (f.arbiter = none ∧ a = k.arbiter ∨ f.arbiter = some (arbiterCode a)) →
        (f.policy = none ∧ g = s.log.policy ∨ f.policy = some (policyCode g)) →
        let on := clampOf 1 1000 s.bcm.surge.on f.surgeOn
        let w := clampOf 1 15 k.weight f.weight
        let changed := k.arbiter ≠ a ∨ k.weight ≠ w
        let u := { t with
          log := { s.log with
            calm := { batch := clampOf 1 32 s.log.calm.batch f.calmBatch, hold := clampOf 10 10000 s.log.calm.hold f.calmHold },
            surge := {
              batch := clampOf 1 32 s.log.surge.batch f.surgeBatch, hold := clampOf 10 10000 s.log.surge.hold f.surgeHold },
            policy := g },
          bcm := { s.bcm with surge := { s.bcm.surge with
            on := on, off := min on (clampOf 1 1000 s.bcm.surge.off f.surgeOff) } },
          trunk := { k with
            arbiter := a, weight := w, reportCount := if changed then 0 else k.reportCount,
            lastServed := if changed then none else k.lastServed,
            maxPayload := match f.maxPayload with
              | some v => if v < 512 then 256 else if v < 1024 then 512 else 1024
              | none => k.maxPayload },
          evu := { s.evu with
            statusInterval := clampOf 1 60 s.evu.statusInterval f.interval,
            holdoffTime := clampOf 0 1000 s.evu.holdoffTime f.holdoff } }
        let within := fun (lo hi : Nat) (f : Option Nat) => ∀ x, f = some x → lo ≤ x ∧ x ≤ hi
        ∃ y : Reply, exec .setReporting s = .next (r.answered 27 y u.drainTest) ∧ (y.status = .ok ∨ y.status = .clamped) ∧
          (y.status = .ok ↔ within 1 32 f.calmBatch ∧ within 10 10000 f.calmHold ∧ within 1 32 f.surgeBatch ∧
            within 10 10000 f.surgeHold ∧ within 1 1000 f.surgeOn ∧ within 1 1000 f.surgeOff ∧
            clampOf 1 1000 s.bcm.surge.off f.surgeOff ≤ on ∧ within 1 15 f.weight ∧
            (∀ x, f.maxPayload = some x → x = 256 ∨ x = 512 ∨ x = 1024) ∧ within 1 60 f.interval ∧
            within 0 1000 f.holdoff)) ∧
      ((∃ x, f.arbiter = some x ∧ 3 ≤ x) ∨ (∃ x, f.policy = some x ∧ 2 ≤ x) →
        exec .setReporting s = .next (r.answered 27 (Reply.refuse .badValue) t))) ∧
    ∀ (ls : Option (Vector Byte 12)) (p w m : Option Nat), optFits 1 p → optFits 1 w → optFits 2 m →
      s.asked r 28 (be 4 (maskOf [ls.isSome, p.isSome, w.isSome, m.isSome]) ++
        (match ls with | some v => v.toList | none => []) ++ optField 1 p ++ optField 1 w ++ optField 2 m ++ extra) →
      (∀ x, m = some x → 16384 ≤ x → exec .setEventLevels s = .next (r.answered 28 (Reply.refuse .badValue) t)) ∧
      ((∀ x, m = some x → x < 16384) →
        ∃ (y : Reply) (u : State), exec .setEventLevels s = .next (r.answered 28 y u) ∧
          (y.status = .ok ∨ y.status = .clamped) ∧
          (y.status = .ok ↔ (∀ v, ls = some v → ∀ i, (v.get i).toNat ≤ 7) ∧ (∀ x, p = some x → 1 ≤ x ∧ x ≤ 8) ∧
            ∀ x, w = some x → x ≤ 7) ∧
          (∀ i, u.evu.levels.get i = match ls with | some v => min 7 (v.get i).toNat | none => s.evu.levels.get i) ∧
          u.evu.reportThreshold = clampOf 1 8 s.evu.reportThreshold p ∧
          u.evu.wakeThreshold = clampOf 0 7 s.evu.wakeThreshold w ∧
          (∀ k, (u.evu.errors.get k) = { s.evu.errors.get k with
            masked := match m with | some x => x.testBit k.val | none => (s.evu.errors.get k).masked }) ∧
          (let pending := fun (c : Fin 24) => (s.evu.causes.get c).pending = true
           let listed := fun (e : Evu) (c : Fin 24) => e.level c < e.reportThreshold ∧ e.level c ≠ 7
           let waking := s.bcm.mode = .standby ∧ ∃ c, pending c ∧ u.evu.level c < u.evu.wakeThreshold ∧
             ¬s.evu.level c < s.evu.wakeThreshold
           (¬waking → u = { t with evu := u.evu } ∧ u.evu.causes = s.evu.causes ∧
             (u.evu.wanted = true ↔ s.evu.wanted = true ∨
               ((∃ c, pending c ∧ ¬listed s.evu c ∧ listed u.evu c) ∧ ∀ f ∈ s.trunk.reportQ, f.body ≠ .eventList))) ∧
           (waking → u.bcm = { s.bcm with mode := .service } ∧ (u.evu.causes.get 23).pending = true ∧
             (u.evu.causes.get 18).pending = true ∧ (∀ c, c ≠ 23 → c ≠ 18 → u.evu.causes.get c = s.evu.causes.get c) ∧
             (s.link.running = false → s.link.stopping = false → u.link.running = true ∧ u.link.parity = false ∧
               u.link.next = 0 ∧ u.link.cycleStart = s.now) ∧
             s.triggers u ∧ u = { t with evu := u.evu, bcm := u.bcm, link := { u.link with slots := s.link.slots } })))

/-- Read Log, Read Status, Read Errors, Clear Errors and Clear Events (R147, R184, R187): an audit transfer is set up, aborted with
AUDIT_DONE, or answered BUSY; the reads change nothing but the draw of open bytes (log entry 1); the clears change the named
kinds and causes alone. That the last transfer's counts become 0 as a transfer is set up (log entry 28), and that
the lane byte of a First Error without a lane is FF (log entry 55), is the model's choice. -/
def Obligations.ReadAndClearRequests : Prop :=
  ∀ (s : State) (r : Request) (extra : List Byte), s.bcm.mode ≠ .deep →
    let t := s.beginRequest
    (∀ first n : Nat, first < 2 ^ 32 → n < 65536 → s.asked r 30 (be 4 first ++ be 2 n ++ extra) →
      (s.log.audit = none → 0 < n → exec .readLog s = .next (r.answered 30
        (if n ≤ 8192 then Reply.ok [] else { status := .clamped, cause := .none, contents := be 2 8192 })
        { t with log := { s.log with
          audit := some { position := first, left := min n 8192, sent := 0, missing := 0 }, auditSent := 0,
          auditMissing := 0 } })) ∧
      (s.log.audit = none → n = 0 → exec .readLog s = .next (r.answered 30 (Reply.ok []) t)) ∧
      (∀ a, s.log.audit = some a →
        (0 < n → exec .readLog s = .next (r.answered 30 Reply.busy t)) ∧
        (n = 0 → exec .readLog s = .next (r.answered 30 (Reply.ok []) ({ t with
          log := { s.log with audit := none, auditSent := a.sent, auditMissing := a.missing } }.raise .auditDone none))))) ∧
    (s.asked r 31 extra → exec .readStatus s = .next (r.answered 31 (Reply.ok t.statusContents) t.drawn)) ∧
    (s.asked r 32 extra → exec .readErrors s = .next (r.answered 32 (Reply.ok (
      ((List.finRange 14).flatMap fun k => [
        byte (bit (s.evu.errors.get k).detected + 2 * bit (s.evu.errors.get k).masked), byte (s.evu.errors.get k).count]) ++
      (match s.evu.firstError with
       | some x => [byte (errorIndex x.kind).val] ++ timeBytes x.time ++ [optByte (x.lane.map fun l => l.val)]
       | none => 0xFF :: openBytes s.draws 0 4) ++
      (match s.evu.headerLog with
       | some h => [byte (errorIndex h.kind).val, byte h.bytes.length] ++ h.bytes ++ openBytes s.draws 4 (16 - h.bytes.length)
       | none => 0xFF :: openBytes s.draws 4 17))) t.drawn)) ∧
    (∀ n : Nat, n < 65536 → s.asked r 33 (be 2 n ++ extra) →
      (n = 0 ∨ 16384 ≤ n → exec .clearErrors s = .next (r.answered 33 (Reply.refuse .badValue) t)) ∧
      (0 < n → n < 16384 →
        ∃ u, exec .clearErrors s = .next (r.answered 33 (Reply.ok []) u) ∧ u = { t with evu := u.evu } ∧
          u.evu = { s.evu with
            errors := u.evu.errors, firstError := u.evu.firstError, headerLog := u.evu.headerLog } ∧
          (∀ k, u.evu.errors.get k =
            if n.testBit k.val then { s.evu.errors.get k with detected := false, count := 0 } else s.evu.errors.get k) ∧
          (∀ x, s.evu.firstError = some x →
            u.evu.firstError = if n.testBit (errorIndex x.kind).val then none else some x) ∧
          (s.evu.firstError = none → u.evu.firstError = none) ∧
          (∀ x, s.evu.headerLog = some x →
            u.evu.headerLog = if n.testBit (errorIndex x.kind).val then none else some x) ∧
          (s.evu.headerLog = none → u.evu.headerLog = none))) ∧
    ∀ n : Nat, n < 2 ^ 24 → s.asked r 34 (be 3 n ++ extra) →
      (n = 0 → exec .clearEvents s = .next (r.answered 34 (Reply.refuse .badValue) t)) ∧
      (n ≠ 0 → ∃ u, exec .clearEvents s = .next (r.answered 34 (Reply.ok []) u) ∧
        u = { t with evu := { s.evu with causes := u.evu.causes } } ∧
        ∀ c, u.evu.causes.get c =
          if n.testBit c.val then { pending := false, count := 0, detail := none } else s.evu.causes.get c)

end
end

