-- ==== Sys2Proof/Laws/State.lean ====
section
/-! SUPPORT. The small lemmas of State: one per field per update, each true by unfolding, so that no proof unfolds a record
update; and what a table entry reads after an update. -/

namespace Sys2Proof.Machine

variable (s : State)

/-! ## modLane -/

@[simp] theorem State.modLane_pending (l : LaneNo) (f : Lane → Lane) : (s.modLane l f).pending = s.pending := rfl
@[simp] theorem State.modLane_now (l : LaneNo) (f : Lane → Lane) : (s.modLane l f).now = s.now := rfl
@[simp] theorem State.modLane_draws (l : LaneNo) (f : Lane → Lane) : (s.modLane l f).draws = s.draws := rfl
@[simp] theorem State.modLane_bank (l : LaneNo) (f : Lane → Lane) : (s.modLane l f).bank = s.bank := rfl
@[simp] theorem State.modLane_trunk (l : LaneNo) (f : Lane → Lane) : (s.modLane l f).trunk = s.trunk := rfl
@[simp] theorem State.modLane_mge (l : LaneNo) (f : Lane → Lane) : (s.modLane l f).mge = s.mge := rfl
@[simp] theorem State.modLane_policy (l : LaneNo) (f : Lane → Lane) : (s.modLane l f).policy = s.policy := rfl
@[simp] theorem State.modLane_table (l : LaneNo) (f : Lane → Lane) : (s.modLane l f).table = s.table := rfl
@[simp] theorem State.modLane_zones (l : LaneNo) (f : Lane → Lane) : (s.modLane l f).zones = s.zones := rfl
@[simp] theorem State.modLane_lanes (l : LaneNo) (f : Lane → Lane) : (s.modLane l f).lanes = upd s.lanes l f := rfl
@[simp] theorem State.modLane_pairs (l : LaneNo) (f : Lane → Lane) : (s.modLane l f).pairs = s.pairs := rfl
@[simp] theorem State.modLane_link (l : LaneNo) (f : Lane → Lane) : (s.modLane l f).link = s.link := rfl
@[simp] theorem State.modLane_peers (l : LaneNo) (f : Lane → Lane) : (s.modLane l f).peers = s.peers := rfl
@[simp] theorem State.modLane_log (l : LaneNo) (f : Lane → Lane) : (s.modLane l f).log = s.log := rfl
@[simp] theorem State.modLane_evu (l : LaneNo) (f : Lane → Lane) : (s.modLane l f).evu = s.evu := rfl
@[simp] theorem State.modLane_bcm (l : LaneNo) (f : Lane → Lane) : (s.modLane l f).bcm = s.bcm := rfl

/-! ## modLink -/

@[simp] theorem State.modLink_pending (f : Link → Link) : (s.modLink f).pending = s.pending := rfl
@[simp] theorem State.modLink_now (f : Link → Link) : (s.modLink f).now = s.now := rfl
@[simp] theorem State.modLink_draws (f : Link → Link) : (s.modLink f).draws = s.draws := rfl
@[simp] theorem State.modLink_bank (f : Link → Link) : (s.modLink f).bank = s.bank := rfl
@[simp] theorem State.modLink_trunk (f : Link → Link) : (s.modLink f).trunk = s.trunk := rfl
@[simp] theorem State.modLink_mge (f : Link → Link) : (s.modLink f).mge = s.mge := rfl
@[simp] theorem State.modLink_policy (f : Link → Link) : (s.modLink f).policy = s.policy := rfl
@[simp] theorem State.modLink_table (f : Link → Link) : (s.modLink f).table = s.table := rfl
@[simp] theorem State.modLink_zones (f : Link → Link) : (s.modLink f).zones = s.zones := rfl
@[simp] theorem State.modLink_lanes (f : Link → Link) : (s.modLink f).lanes = s.lanes := rfl
@[simp] theorem State.modLink_pairs (f : Link → Link) : (s.modLink f).pairs = s.pairs := rfl
@[simp] theorem State.modLink_link (f : Link → Link) : (s.modLink f).link = f s.link := rfl
@[simp] theorem State.modLink_peers (f : Link → Link) : (s.modLink f).peers = s.peers := rfl
@[simp] theorem State.modLink_log (f : Link → Link) : (s.modLink f).log = s.log := rfl
@[simp] theorem State.modLink_evu (f : Link → Link) : (s.modLink f).evu = s.evu := rfl
@[simp] theorem State.modLink_bcm (f : Link → Link) : (s.modLink f).bcm = s.bcm := rfl

/-! ## modSlot -/

@[simp] theorem State.modSlot_pending (l : LaneNo) (f : Slot → Slot) : (s.modSlot l f).pending = s.pending := rfl
@[simp] theorem State.modSlot_now (l : LaneNo) (f : Slot → Slot) : (s.modSlot l f).now = s.now := rfl
@[simp] theorem State.modSlot_draws (l : LaneNo) (f : Slot → Slot) : (s.modSlot l f).draws = s.draws := rfl
@[simp] theorem State.modSlot_bank (l : LaneNo) (f : Slot → Slot) : (s.modSlot l f).bank = s.bank := rfl
@[simp] theorem State.modSlot_trunk (l : LaneNo) (f : Slot → Slot) : (s.modSlot l f).trunk = s.trunk := rfl
@[simp] theorem State.modSlot_mge (l : LaneNo) (f : Slot → Slot) : (s.modSlot l f).mge = s.mge := rfl
@[simp] theorem State.modSlot_policy (l : LaneNo) (f : Slot → Slot) : (s.modSlot l f).policy = s.policy := rfl
@[simp] theorem State.modSlot_table (l : LaneNo) (f : Slot → Slot) : (s.modSlot l f).table = s.table := rfl
@[simp] theorem State.modSlot_zones (l : LaneNo) (f : Slot → Slot) : (s.modSlot l f).zones = s.zones := rfl
@[simp] theorem State.modSlot_lanes (l : LaneNo) (f : Slot → Slot) : (s.modSlot l f).lanes = s.lanes := rfl
@[simp] theorem State.modSlot_pairs (l : LaneNo) (f : Slot → Slot) : (s.modSlot l f).pairs = s.pairs := rfl
@[simp] theorem State.modSlot_link (l : LaneNo) (f : Slot → Slot) : (s.modSlot l f).link = { s.link with slots := upd s.link.slots l f } := rfl
@[simp] theorem State.modSlot_peers (l : LaneNo) (f : Slot → Slot) : (s.modSlot l f).peers = s.peers := rfl
@[simp] theorem State.modSlot_log (l : LaneNo) (f : Slot → Slot) : (s.modSlot l f).log = s.log := rfl
@[simp] theorem State.modSlot_evu (l : LaneNo) (f : Slot → Slot) : (s.modSlot l f).evu = s.evu := rfl
@[simp] theorem State.modSlot_bcm (l : LaneNo) (f : Slot → Slot) : (s.modSlot l f).bcm = s.bcm := rfl

/-! ## modTable -/

@[simp] theorem State.modTable_pending (f : Table → Table) : (s.modTable f).pending = s.pending := rfl
@[simp] theorem State.modTable_now (f : Table → Table) : (s.modTable f).now = s.now := rfl
@[simp] theorem State.modTable_draws (f : Table → Table) : (s.modTable f).draws = s.draws := rfl
@[simp] theorem State.modTable_bank (f : Table → Table) : (s.modTable f).bank = s.bank := rfl
@[simp] theorem State.modTable_trunk (f : Table → Table) : (s.modTable f).trunk = s.trunk := rfl
@[simp] theorem State.modTable_mge (f : Table → Table) : (s.modTable f).mge = s.mge := rfl
@[simp] theorem State.modTable_policy (f : Table → Table) : (s.modTable f).policy = s.policy := rfl
@[simp] theorem State.modTable_table (f : Table → Table) : (s.modTable f).table = f s.table := rfl
@[simp] theorem State.modTable_zones (f : Table → Table) : (s.modTable f).zones = s.zones := rfl
@[simp] theorem State.modTable_lanes (f : Table → Table) : (s.modTable f).lanes = s.lanes := rfl
@[simp] theorem State.modTable_pairs (f : Table → Table) : (s.modTable f).pairs = s.pairs := rfl
@[simp] theorem State.modTable_link (f : Table → Table) : (s.modTable f).link = s.link := rfl
@[simp] theorem State.modTable_peers (f : Table → Table) : (s.modTable f).peers = s.peers := rfl
@[simp] theorem State.modTable_log (f : Table → Table) : (s.modTable f).log = s.log := rfl
@[simp] theorem State.modTable_evu (f : Table → Table) : (s.modTable f).evu = s.evu := rfl
@[simp] theorem State.modTable_bcm (f : Table → Table) : (s.modTable f).bcm = s.bcm := rfl

/-! ## modPeers -/

@[simp] theorem State.modPeers_pending (f : Peers → Peers) : (s.modPeers f).pending = s.pending := rfl
@[simp] theorem State.modPeers_now (f : Peers → Peers) : (s.modPeers f).now = s.now := rfl
@[simp] theorem State.modPeers_draws (f : Peers → Peers) : (s.modPeers f).draws = s.draws := rfl
@[simp] theorem State.modPeers_bank (f : Peers → Peers) : (s.modPeers f).bank = s.bank := rfl
@[simp] theorem State.modPeers_trunk (f : Peers → Peers) : (s.modPeers f).trunk = s.trunk := rfl
@[simp] theorem State.modPeers_mge (f : Peers → Peers) : (s.modPeers f).mge = s.mge := rfl
@[simp] theorem State.modPeers_policy (f : Peers → Peers) : (s.modPeers f).policy = s.policy := rfl
@[simp] theorem State.modPeers_table (f : Peers → Peers) : (s.modPeers f).table = s.table := rfl
@[simp] theorem State.modPeers_zones (f : Peers → Peers) : (s.modPeers f).zones = s.zones := rfl
@[simp] theorem State.modPeers_lanes (f : Peers → Peers) : (s.modPeers f).lanes = s.lanes := rfl
@[simp] theorem State.modPeers_pairs (f : Peers → Peers) : (s.modPeers f).pairs = s.pairs := rfl
@[simp] theorem State.modPeers_link (f : Peers → Peers) : (s.modPeers f).link = s.link := rfl
@[simp] theorem State.modPeers_peers (f : Peers → Peers) : (s.modPeers f).peers = f s.peers := rfl
@[simp] theorem State.modPeers_log (f : Peers → Peers) : (s.modPeers f).log = s.log := rfl
@[simp] theorem State.modPeers_evu (f : Peers → Peers) : (s.modPeers f).evu = s.evu := rfl
@[simp] theorem State.modPeers_bcm (f : Peers → Peers) : (s.modPeers f).bcm = s.bcm := rfl

/-! ## modLog -/

@[simp] theorem State.modLog_pending (f : Log → Log) : (s.modLog f).pending = s.pending := rfl
@[simp] theorem State.modLog_now (f : Log → Log) : (s.modLog f).now = s.now := rfl
@[simp] theorem State.modLog_draws (f : Log → Log) : (s.modLog f).draws = s.draws := rfl
@[simp] theorem State.modLog_bank (f : Log → Log) : (s.modLog f).bank = s.bank := rfl
@[simp] theorem State.modLog_trunk (f : Log → Log) : (s.modLog f).trunk = s.trunk := rfl
@[simp] theorem State.modLog_mge (f : Log → Log) : (s.modLog f).mge = s.mge := rfl
@[simp] theorem State.modLog_policy (f : Log → Log) : (s.modLog f).policy = s.policy := rfl
@[simp] theorem State.modLog_table (f : Log → Log) : (s.modLog f).table = s.table := rfl
@[simp] theorem State.modLog_zones (f : Log → Log) : (s.modLog f).zones = s.zones := rfl
@[simp] theorem State.modLog_lanes (f : Log → Log) : (s.modLog f).lanes = s.lanes := rfl
@[simp] theorem State.modLog_pairs (f : Log → Log) : (s.modLog f).pairs = s.pairs := rfl
@[simp] theorem State.modLog_link (f : Log → Log) : (s.modLog f).link = s.link := rfl
@[simp] theorem State.modLog_peers (f : Log → Log) : (s.modLog f).peers = s.peers := rfl
@[simp] theorem State.modLog_log (f : Log → Log) : (s.modLog f).log = f s.log := rfl
@[simp] theorem State.modLog_evu (f : Log → Log) : (s.modLog f).evu = s.evu := rfl
@[simp] theorem State.modLog_bcm (f : Log → Log) : (s.modLog f).bcm = s.bcm := rfl

/-! ## modEvu -/

@[simp] theorem State.modEvu_pending (f : Evu → Evu) : (s.modEvu f).pending = s.pending := rfl
@[simp] theorem State.modEvu_now (f : Evu → Evu) : (s.modEvu f).now = s.now := rfl
@[simp] theorem State.modEvu_draws (f : Evu → Evu) : (s.modEvu f).draws = s.draws := rfl
@[simp] theorem State.modEvu_bank (f : Evu → Evu) : (s.modEvu f).bank = s.bank := rfl
@[simp] theorem State.modEvu_trunk (f : Evu → Evu) : (s.modEvu f).trunk = s.trunk := rfl
@[simp] theorem State.modEvu_mge (f : Evu → Evu) : (s.modEvu f).mge = s.mge := rfl
@[simp] theorem State.modEvu_policy (f : Evu → Evu) : (s.modEvu f).policy = s.policy := rfl
@[simp] theorem State.modEvu_table (f : Evu → Evu) : (s.modEvu f).table = s.table := rfl
@[simp] theorem State.modEvu_zones (f : Evu → Evu) : (s.modEvu f).zones = s.zones := rfl
@[simp] theorem State.modEvu_lanes (f : Evu → Evu) : (s.modEvu f).lanes = s.lanes := rfl
@[simp] theorem State.modEvu_pairs (f : Evu → Evu) : (s.modEvu f).pairs = s.pairs := rfl
@[simp] theorem State.modEvu_link (f : Evu → Evu) : (s.modEvu f).link = s.link := rfl
@[simp] theorem State.modEvu_peers (f : Evu → Evu) : (s.modEvu f).peers = s.peers := rfl
@[simp] theorem State.modEvu_log (f : Evu → Evu) : (s.modEvu f).log = s.log := rfl
@[simp] theorem State.modEvu_evu (f : Evu → Evu) : (s.modEvu f).evu = f s.evu := rfl
@[simp] theorem State.modEvu_bcm (f : Evu → Evu) : (s.modEvu f).bcm = s.bcm := rfl

/-! ## modBcm -/

@[simp] theorem State.modBcm_pending (f : Bcm → Bcm) : (s.modBcm f).pending = s.pending := rfl
@[simp] theorem State.modBcm_now (f : Bcm → Bcm) : (s.modBcm f).now = s.now := rfl
@[simp] theorem State.modBcm_draws (f : Bcm → Bcm) : (s.modBcm f).draws = s.draws := rfl
@[simp] theorem State.modBcm_bank (f : Bcm → Bcm) : (s.modBcm f).bank = s.bank := rfl
@[simp] theorem State.modBcm_trunk (f : Bcm → Bcm) : (s.modBcm f).trunk = s.trunk := rfl
@[simp] theorem State.modBcm_mge (f : Bcm → Bcm) : (s.modBcm f).mge = s.mge := rfl
@[simp] theorem State.modBcm_policy (f : Bcm → Bcm) : (s.modBcm f).policy = s.policy := rfl
@[simp] theorem State.modBcm_table (f : Bcm → Bcm) : (s.modBcm f).table = s.table := rfl
@[simp] theorem State.modBcm_zones (f : Bcm → Bcm) : (s.modBcm f).zones = s.zones := rfl
@[simp] theorem State.modBcm_lanes (f : Bcm → Bcm) : (s.modBcm f).lanes = s.lanes := rfl
@[simp] theorem State.modBcm_pairs (f : Bcm → Bcm) : (s.modBcm f).pairs = s.pairs := rfl
@[simp] theorem State.modBcm_link (f : Bcm → Bcm) : (s.modBcm f).link = s.link := rfl
@[simp] theorem State.modBcm_peers (f : Bcm → Bcm) : (s.modBcm f).peers = s.peers := rfl
@[simp] theorem State.modBcm_log (f : Bcm → Bcm) : (s.modBcm f).log = s.log := rfl
@[simp] theorem State.modBcm_evu (f : Bcm → Bcm) : (s.modBcm f).evu = s.evu := rfl
@[simp] theorem State.modBcm_bcm (f : Bcm → Bcm) : (s.modBcm f).bcm = f s.bcm := rfl

/-! ## modTrunk -/

@[simp] theorem State.modTrunk_pending (f : Trunk → Trunk) : (s.modTrunk f).pending = s.pending := rfl
@[simp] theorem State.modTrunk_now (f : Trunk → Trunk) : (s.modTrunk f).now = s.now := rfl
@[simp] theorem State.modTrunk_draws (f : Trunk → Trunk) : (s.modTrunk f).draws = s.draws := rfl
@[simp] theorem State.modTrunk_bank (f : Trunk → Trunk) : (s.modTrunk f).bank = s.bank := rfl
@[simp] theorem State.modTrunk_trunk (f : Trunk → Trunk) : (s.modTrunk f).trunk = f s.trunk := rfl
@[simp] theorem State.modTrunk_mge (f : Trunk → Trunk) : (s.modTrunk f).mge = s.mge := rfl
@[simp] theorem State.modTrunk_policy (f : Trunk → Trunk) : (s.modTrunk f).policy = s.policy := rfl
@[simp] theorem State.modTrunk_table (f : Trunk → Trunk) : (s.modTrunk f).table = s.table := rfl
@[simp] theorem State.modTrunk_zones (f : Trunk → Trunk) : (s.modTrunk f).zones = s.zones := rfl
@[simp] theorem State.modTrunk_lanes (f : Trunk → Trunk) : (s.modTrunk f).lanes = s.lanes := rfl
@[simp] theorem State.modTrunk_pairs (f : Trunk → Trunk) : (s.modTrunk f).pairs = s.pairs := rfl
@[simp] theorem State.modTrunk_link (f : Trunk → Trunk) : (s.modTrunk f).link = s.link := rfl
@[simp] theorem State.modTrunk_peers (f : Trunk → Trunk) : (s.modTrunk f).peers = s.peers := rfl
@[simp] theorem State.modTrunk_log (f : Trunk → Trunk) : (s.modTrunk f).log = s.log := rfl
@[simp] theorem State.modTrunk_evu (f : Trunk → Trunk) : (s.modTrunk f).evu = s.evu := rfl
@[simp] theorem State.modTrunk_bcm (f : Trunk → Trunk) : (s.modTrunk f).bcm = s.bcm := rfl

/-! ## modMge -/

@[simp] theorem State.modMge_pending (f : Mge → Mge) : (s.modMge f).pending = s.pending := rfl
@[simp] theorem State.modMge_now (f : Mge → Mge) : (s.modMge f).now = s.now := rfl
@[simp] theorem State.modMge_draws (f : Mge → Mge) : (s.modMge f).draws = s.draws := rfl
@[simp] theorem State.modMge_bank (f : Mge → Mge) : (s.modMge f).bank = s.bank := rfl
@[simp] theorem State.modMge_trunk (f : Mge → Mge) : (s.modMge f).trunk = s.trunk := rfl
@[simp] theorem State.modMge_mge (f : Mge → Mge) : (s.modMge f).mge = f s.mge := rfl
@[simp] theorem State.modMge_policy (f : Mge → Mge) : (s.modMge f).policy = s.policy := rfl
@[simp] theorem State.modMge_table (f : Mge → Mge) : (s.modMge f).table = s.table := rfl
@[simp] theorem State.modMge_zones (f : Mge → Mge) : (s.modMge f).zones = s.zones := rfl
@[simp] theorem State.modMge_lanes (f : Mge → Mge) : (s.modMge f).lanes = s.lanes := rfl
@[simp] theorem State.modMge_pairs (f : Mge → Mge) : (s.modMge f).pairs = s.pairs := rfl
@[simp] theorem State.modMge_link (f : Mge → Mge) : (s.modMge f).link = s.link := rfl
@[simp] theorem State.modMge_peers (f : Mge → Mge) : (s.modMge f).peers = s.peers := rfl
@[simp] theorem State.modMge_log (f : Mge → Mge) : (s.modMge f).log = s.log := rfl
@[simp] theorem State.modMge_evu (f : Mge → Mge) : (s.modMge f).evu = s.evu := rfl
@[simp] theorem State.modMge_bcm (f : Mge → Mge) : (s.modMge f).bcm = s.bcm := rfl

/-! ## modPolicy -/

@[simp] theorem State.modPolicy_pending (f : Policy → Policy) : (s.modPolicy f).pending = s.pending := rfl
@[simp] theorem State.modPolicy_now (f : Policy → Policy) : (s.modPolicy f).now = s.now := rfl
@[simp] theorem State.modPolicy_draws (f : Policy → Policy) : (s.modPolicy f).draws = s.draws := rfl
@[simp] theorem State.modPolicy_bank (f : Policy → Policy) : (s.modPolicy f).bank = s.bank := rfl
@[simp] theorem State.modPolicy_trunk (f : Policy → Policy) : (s.modPolicy f).trunk = s.trunk := rfl
@[simp] theorem State.modPolicy_mge (f : Policy → Policy) : (s.modPolicy f).mge = s.mge := rfl
@[simp] theorem State.modPolicy_policy (f : Policy → Policy) : (s.modPolicy f).policy = f s.policy := rfl
@[simp] theorem State.modPolicy_table (f : Policy → Policy) : (s.modPolicy f).table = s.table := rfl
@[simp] theorem State.modPolicy_zones (f : Policy → Policy) : (s.modPolicy f).zones = s.zones := rfl
@[simp] theorem State.modPolicy_lanes (f : Policy → Policy) : (s.modPolicy f).lanes = s.lanes := rfl
@[simp] theorem State.modPolicy_pairs (f : Policy → Policy) : (s.modPolicy f).pairs = s.pairs := rfl
@[simp] theorem State.modPolicy_link (f : Policy → Policy) : (s.modPolicy f).link = s.link := rfl
@[simp] theorem State.modPolicy_peers (f : Policy → Policy) : (s.modPolicy f).peers = s.peers := rfl
@[simp] theorem State.modPolicy_log (f : Policy → Policy) : (s.modPolicy f).log = s.log := rfl
@[simp] theorem State.modPolicy_evu (f : Policy → Policy) : (s.modPolicy f).evu = s.evu := rfl
@[simp] theorem State.modPolicy_bcm (f : Policy → Policy) : (s.modPolicy f).bcm = s.bcm := rfl

/-! ## reach -/

@[simp] theorem State.reach_pending (n : Nat) : (s.reach n).pending = s.pending := rfl
@[simp] theorem State.reach_now (n : Nat) : (s.reach n).now = max s.now n := rfl
@[simp] theorem State.reach_draws (n : Nat) : (s.reach n).draws = s.draws := rfl
@[simp] theorem State.reach_bank (n : Nat) : (s.reach n).bank = s.bank := rfl
@[simp] theorem State.reach_trunk (n : Nat) : (s.reach n).trunk = s.trunk := rfl
@[simp] theorem State.reach_mge (n : Nat) : (s.reach n).mge = s.mge := rfl
@[simp] theorem State.reach_policy (n : Nat) : (s.reach n).policy = s.policy := rfl
@[simp] theorem State.reach_table (n : Nat) : (s.reach n).table = s.table := rfl
@[simp] theorem State.reach_zones (n : Nat) : (s.reach n).zones = s.zones := rfl
@[simp] theorem State.reach_lanes (n : Nat) : (s.reach n).lanes = s.lanes := rfl
@[simp] theorem State.reach_pairs (n : Nat) : (s.reach n).pairs = s.pairs := rfl
@[simp] theorem State.reach_link (n : Nat) : (s.reach n).link = s.link := rfl
@[simp] theorem State.reach_peers (n : Nat) : (s.reach n).peers = s.peers := rfl
@[simp] theorem State.reach_log (n : Nat) : (s.reach n).log = s.log := rfl
@[simp] theorem State.reach_evu (n : Nat) : (s.reach n).evu = s.evu := rfl
@[simp] theorem State.reach_bcm (n : Nat) : (s.reach n).bcm = s.bcm := rfl

/-! ## drawn -/

@[simp] theorem State.drawn_pending : (s.drawn).pending = s.pending := rfl
@[simp] theorem State.drawn_now : (s.drawn).now = s.now := rfl
@[simp] theorem State.drawn_draws : (s.drawn).draws = s.draws + 1 := rfl
@[simp] theorem State.drawn_bank : (s.drawn).bank = s.bank := rfl
@[simp] theorem State.drawn_trunk : (s.drawn).trunk = s.trunk := rfl
@[simp] theorem State.drawn_mge : (s.drawn).mge = s.mge := rfl
@[simp] theorem State.drawn_policy : (s.drawn).policy = s.policy := rfl
@[simp] theorem State.drawn_table : (s.drawn).table = s.table := rfl
@[simp] theorem State.drawn_zones : (s.drawn).zones = s.zones := rfl
@[simp] theorem State.drawn_lanes : (s.drawn).lanes = s.lanes := rfl
@[simp] theorem State.drawn_pairs : (s.drawn).pairs = s.pairs := rfl
@[simp] theorem State.drawn_link : (s.drawn).link = s.link := rfl
@[simp] theorem State.drawn_peers : (s.drawn).peers = s.peers := rfl
@[simp] theorem State.drawn_log : (s.drawn).log = s.log := rfl
@[simp] theorem State.drawn_evu : (s.drawn).evu = s.evu := rfl
@[simp] theorem State.drawn_bcm : (s.drawn).bcm = s.bcm := rfl

/-! ## Tables -/

@[simp] theorem get_upd {α : Type} {n : Nat} (v : Vector α n) (i j : Fin n) (f : α → α) :
    (upd v i f).get j = if j = i then f (v.get i) else v.get j := by
  obtain ⟨i, hi⟩ := i
  obtain ⟨j, hj⟩ := j
  simp only [upd, Vector.get_eq_getElem, Vector.getElem_set, Fin.mk.injEq]
  by_cases h : i = j
  · subst h; simp
  · simp [h, Ne.symm h]

@[simp] theorem get_updAll {α : Type} {n : Nat} (v : Vector α n) (f : α → α) (i : Fin n) :
    (updAll v f).get i = f (v.get i) := by
  simp [updAll, Vector.get_eq_getElem]

/-- Two updates of one entry are one. -/
theorem upd_upd {α : Type} {n : Nat} (v : Vector α n) (i : Fin n) (f g : α → α) :
    upd (upd v i f) i g = upd v i fun x => g (f x) := by
  simp only [upd, Vector.get_eq_getElem, Vector.getElem_set_self, Vector.set_set]

/-- An update that leaves the entry as it is changes nothing. -/
theorem upd_same {α : Type} {n : Nat} (v : Vector α n) (i : Fin n) (f : α → α) (h : f (v.get i) = v.get i) : upd v i f = v := by
  rw [Vector.get_eq_getElem] at h
  simp only [upd, Vector.get_eq_getElem, h, Vector.set_getElem_self]

/-- Updates of different entries commute. -/
theorem upd_comm {α : Type} {n : Nat} (v : Vector α n) (i j : Fin n) (f g : α → α) (h : i ≠ j) :
    upd (upd v i f) j g = upd (upd v j g) i f := by
  have hij : i.val ≠ j.val := fun e => h (Fin.ext e)
  simp only [upd, Vector.get_eq_getElem, Vector.getElem_set_ne _ _ hij, Vector.getElem_set_ne _ _ hij.symm]
  exact (Vector.set_comm _ _ hij)

/-! ## Entries after an update -/

@[simp] theorem State.lane_modLane (l m : LaneNo) (f : Lane → Lane) :
    (s.modLane l f).lane m = if m = l then f (s.lane l) else s.lane m := by simp [State.lane]

@[simp] theorem State.slot_modSlot (l m : LaneNo) (f : Slot → Slot) :
    (s.modSlot l f).slot m = if m = l then f (s.slot l) else s.slot m := by simp [State.slot]

@[simp] theorem State.slot_modLane (l : LaneNo) (f : Lane → Lane) (x : LaneNo) : (s.modLane l f).slot x = s.slot x := rfl
@[simp] theorem State.zone_modLane (l : LaneNo) (f : Lane → Lane) (x : ZoneNo) : (s.modLane l f).zone x = s.zone x := rfl
@[simp] theorem State.peer_modLane (l : LaneNo) (f : Lane → Lane) (x : BankNo) : (s.modLane l f).peer x = s.peer x := rfl
@[simp] theorem State.lane_modLink (f : Link → Link) (x : LaneNo) : (s.modLink f).lane x = s.lane x := rfl
@[simp] theorem State.zone_modLink (f : Link → Link) (x : ZoneNo) : (s.modLink f).zone x = s.zone x := rfl
@[simp] theorem State.peer_modLink (f : Link → Link) (x : BankNo) : (s.modLink f).peer x = s.peer x := rfl
@[simp] theorem State.lane_modSlot (l : LaneNo) (f : Slot → Slot) (x : LaneNo) : (s.modSlot l f).lane x = s.lane x := rfl
@[simp] theorem State.zone_modSlot (l : LaneNo) (f : Slot → Slot) (x : ZoneNo) : (s.modSlot l f).zone x = s.zone x := rfl
@[simp] theorem State.peer_modSlot (l : LaneNo) (f : Slot → Slot) (x : BankNo) : (s.modSlot l f).peer x = s.peer x := rfl
@[simp] theorem State.lane_modTable (f : Table → Table) (x : LaneNo) : (s.modTable f).lane x = s.lane x := rfl
@[simp] theorem State.slot_modTable (f : Table → Table) (x : LaneNo) : (s.modTable f).slot x = s.slot x := rfl
@[simp] theorem State.zone_modTable (f : Table → Table) (x : ZoneNo) : (s.modTable f).zone x = s.zone x := rfl
@[simp] theorem State.peer_modTable (f : Table → Table) (x : BankNo) : (s.modTable f).peer x = s.peer x := rfl
@[simp] theorem State.lane_modPeers (f : Peers → Peers) (x : LaneNo) : (s.modPeers f).lane x = s.lane x := rfl
@[simp] theorem State.slot_modPeers (f : Peers → Peers) (x : LaneNo) : (s.modPeers f).slot x = s.slot x := rfl
@[simp] theorem State.zone_modPeers (f : Peers → Peers) (x : ZoneNo) : (s.modPeers f).zone x = s.zone x := rfl
@[simp] theorem State.lane_modLog (f : Log → Log) (x : LaneNo) : (s.modLog f).lane x = s.lane x := rfl
@[simp] theorem State.slot_modLog (f : Log → Log) (x : LaneNo) : (s.modLog f).slot x = s.slot x := rfl
@[simp] theorem State.zone_modLog (f : Log → Log) (x : ZoneNo) : (s.modLog f).zone x = s.zone x := rfl
@[simp] theorem State.peer_modLog (f : Log → Log) (x : BankNo) : (s.modLog f).peer x = s.peer x := rfl
@[simp] theorem State.lane_modEvu (f : Evu → Evu) (x : LaneNo) : (s.modEvu f).lane x = s.lane x := rfl
@[simp] theorem State.slot_modEvu (f : Evu → Evu) (x : LaneNo) : (s.modEvu f).slot x = s.slot x := rfl
@[simp] theorem State.zone_modEvu (f : Evu → Evu) (x : ZoneNo) : (s.modEvu f).zone x = s.zone x := rfl
@[simp] theorem State.peer_modEvu (f : Evu → Evu) (x : BankNo) : (s.modEvu f).peer x = s.peer x := rfl
@[simp] theorem State.lane_modBcm (f : Bcm → Bcm) (x : LaneNo) : (s.modBcm f).lane x = s.lane x := rfl
@[simp] theorem State.slot_modBcm (f : Bcm → Bcm) (x : LaneNo) : (s.modBcm f).slot x = s.slot x := rfl
@[simp] theorem State.zone_modBcm (f : Bcm → Bcm) (x : ZoneNo) : (s.modBcm f).zone x = s.zone x := rfl
@[simp] theorem State.peer_modBcm (f : Bcm → Bcm) (x : BankNo) : (s.modBcm f).peer x = s.peer x := rfl
@[simp] theorem State.lane_modTrunk (f : Trunk → Trunk) (x : LaneNo) : (s.modTrunk f).lane x = s.lane x := rfl
@[simp] theorem State.slot_modTrunk (f : Trunk → Trunk) (x : LaneNo) : (s.modTrunk f).slot x = s.slot x := rfl
@[simp] theorem State.zone_modTrunk (f : Trunk → Trunk) (x : ZoneNo) : (s.modTrunk f).zone x = s.zone x := rfl
@[simp] theorem State.peer_modTrunk (f : Trunk → Trunk) (x : BankNo) : (s.modTrunk f).peer x = s.peer x := rfl
@[simp] theorem State.lane_modMge (f : Mge → Mge) (x : LaneNo) : (s.modMge f).lane x = s.lane x := rfl
@[simp] theorem State.slot_modMge (f : Mge → Mge) (x : LaneNo) : (s.modMge f).slot x = s.slot x := rfl
@[simp] theorem State.zone_modMge (f : Mge → Mge) (x : ZoneNo) : (s.modMge f).zone x = s.zone x := rfl
@[simp] theorem State.peer_modMge (f : Mge → Mge) (x : BankNo) : (s.modMge f).peer x = s.peer x := rfl
@[simp] theorem State.lane_modPolicy (f : Policy → Policy) (x : LaneNo) : (s.modPolicy f).lane x = s.lane x := rfl
@[simp] theorem State.slot_modPolicy (f : Policy → Policy) (x : LaneNo) : (s.modPolicy f).slot x = s.slot x := rfl
@[simp] theorem State.zone_modPolicy (f : Policy → Policy) (x : ZoneNo) : (s.modPolicy f).zone x = s.zone x := rfl
@[simp] theorem State.peer_modPolicy (f : Policy → Policy) (x : BankNo) : (s.modPolicy f).peer x = s.peer x := rfl
@[simp] theorem State.lane_reach (n : Nat) (x : LaneNo) : (s.reach n).lane x = s.lane x := rfl
@[simp] theorem State.slot_reach (n : Nat) (x : LaneNo) : (s.reach n).slot x = s.slot x := rfl
@[simp] theorem State.zone_reach (n : Nat) (x : ZoneNo) : (s.reach n).zone x = s.zone x := rfl
@[simp] theorem State.peer_reach (n : Nat) (x : BankNo) : (s.reach n).peer x = s.peer x := rfl
@[simp] theorem State.lane_drawn (x : LaneNo) : (s.drawn).lane x = s.lane x := rfl
@[simp] theorem State.slot_drawn (x : LaneNo) : (s.drawn).slot x = s.slot x := rfl
@[simp] theorem State.zone_drawn (x : ZoneNo) : (s.drawn).zone x = s.zone x := rfl
@[simp] theorem State.peer_drawn (x : BankNo) : (s.drawn).peer x = s.peer x := rfl

/-! ## Updates composed -/

@[simp] theorem State.modSlot_modSlot (l : LaneNo) (f g : Slot → Slot) :
    (s.modSlot l f).modSlot l g = s.modSlot l fun k => g (f k) := by
  simp [State.modSlot, upd_upd]

@[simp] theorem State.modLane_modLane (l : LaneNo) (f g : Lane → Lane) :
    (s.modLane l f).modLane l g = s.modLane l fun n => g (f n) := by
  simp [State.modLane, upd_upd]

theorem State.ext' {a b : State} (h1 : a.pending = b.pending) (h2 : a.now = b.now) (h3 : a.draws = b.draws)
    (h4 : a.bank = b.bank) (h5 : a.trunk = b.trunk) (h6 : a.mge = b.mge) (h7 : a.policy = b.policy) (h8 : a.table = b.table)
    (h9 : a.zones = b.zones) (h10 : a.lanes = b.lanes) (h11 : a.pairs = b.pairs) (h12 : a.link = b.link)
    (h13 : a.peers = b.peers) (h14 : a.log = b.log) (h15 : a.evu = b.evu) (h16 : a.bcm = b.bcm) : a = b := by
  cases a; cases b; simp_all

end Sys2Proof.Machine
end

