-- ==== Sys2Proof/Laws/Bytes.lean ====
section
/-! SUPPORT. Numbers in bytes and the readers of request fields: what is written most significant byte first is read back. -/

namespace Sys2Proof.Machine

/-! ## Numbers in bytes -/

@[simp] theorem be_length (n v : Nat) : (be n v).length = n := by
  induction n with
  | zero => rfl
  | succ n ih => simp [be, ih]

theorem be_zero (v : Nat) : be 0 v = [] := rfl

theorem be_one (v : Nat) : be 1 v = [byte v] := by simp [be, byte]

theorem ofBytes_foldl (bs : List Byte) (a : Nat) :
    bs.foldl (fun a b => a * 256 + b.toNat) a = a * 256 ^ bs.length + ofBytes bs := by
  induction bs generalizing a with
  | nil => simp [ofBytes]
  | cons b bs ih =>
    simp only [List.foldl_cons, ofBytes, List.length_cons]
    rw [ih, ih (0 * 256 + b.toNat)]
    ring

theorem ofBytes_cons (b : Byte) (bs : List Byte) : ofBytes (b :: bs) = b.toNat * 256 ^ bs.length + ofBytes bs := by
  have := ofBytes_foldl bs b.toNat
  simpa [ofBytes] using this

theorem ofBytes_be_mod (n v : Nat) : ofBytes (be n v) = v % 256 ^ n := by
  induction n with
  | zero => simp [be, ofBytes, Nat.mod_one]
  | succ n ih =>
    rw [be, ofBytes_cons, ih, be_length]
    rw [BitVec.toNat_ofNat, show (2 : Nat) ^ 8 = 256 from rfl, pow_succ, Nat.mod_mul (x := v) (a := 256 ^ n) (b := 256)]
    ring

/-- What `be` writes is read back where it fits. -/
theorem ofBytes_be (n v : Nat) (h : v < 256 ^ n) : ofBytes (be n v) = v := by
  rw [ofBytes_be_mod, Nat.mod_eq_of_lt h]

@[simp] theorem byte_toNat (b : Byte) : byte b.toNat = b := by simp [byte]

theorem toNat_byte (n : Nat) (h : n < 256) : (byte n).toNat = n := by
  simp [byte, Nat.mod_eq_of_lt h]

/-! ## Readers -/

theorem Reader.pure_apply {α : Type} (a : α) (bs : List Byte) : (pure a : Reader α) bs = some (a, bs) := rfl

theorem Reader.bind_apply {α β : Type} (r : Reader α) (f : α → Reader β) (bs : List Byte) :
    (r >>= f) bs = match r bs with | none => none | some x => f x.1 x.2 := by
  show StateT.bind r f bs = _
  unfold StateT.bind
  cases h : r bs <;> rfl

theorem Reader.map_apply {α β : Type} (f : α → β) (r : Reader α) (bs : List Byte) :
    (f <$> r) bs = match r bs with | none => none | some x => some (f x.1, x.2) := by
  show StateT.map f r bs = _
  unfold StateT.map
  cases h : r bs <;> rfl

/-- A run of bytes is read as it stands. -/
theorem Reader.bytes_append (bs rest : List Byte) : Reader.bytes bs.length (bs ++ rest) = some (bs, rest) := by
  simp [Reader.bytes]

/-- A number written in n bytes is read back. -/
theorem Reader.nat_be (n v : Nat) (rest : List Byte) (h : v < 256 ^ n) : Reader.nat n (be n v ++ rest) = some (v, rest) := by
  have hb := Reader.bytes_append (be n v) rest
  rw [be_length] at hb
  simp only [Reader.nat, Reader.bind_apply, hb, Reader.pure_apply, ofBytes_be n v h]

/-- One byte is read as its number. -/
theorem Reader.nat_cons (b : Byte) (rest : List Byte) : Reader.nat 1 (b :: rest) = some (b.toNat, rest) := by
  simp [Reader.nat, Reader.bind_apply, Reader.bytes, Reader.pure_apply, ofBytes]

/-- A field that the payload ends before is not read. -/
theorem Reader.nat_short (n : Nat) (bs : List Byte) (h : bs.length < n) : Reader.nat n bs = none := by
  simp [Reader.nat, Reader.bind_apply, Reader.bytes, Nat.not_le.mpr h]

/-- An optional field that is given is read back. -/
theorem Reader.given_some (mask m n v : Nat) (rest : List Byte) (hm : mask.testBit m = true) (h : v < 256 ^ n) :
    Reader.given mask m (Reader.nat n) (be n v ++ rest) = some (some v, rest) := by
  simp [Reader.given, hm, Reader.map_apply, Reader.nat_be n v rest h]

/-- An optional field that is not given takes no byte. -/
theorem Reader.given_none {α : Type} (mask m : Nat) (r : Reader α) (bs : List Byte) (hm : mask.testBit m = false) :
    Reader.given mask m r bs = some (none, bs) := by
  simp [Reader.given, hm, Reader.pure_apply]

/-- An optional number by its presence bit. -/
theorem Reader.given_opt (mask m n : Nat) (f : Option Nat) (rest : List Byte) (hm : mask.testBit m = f.isSome)
    (h : optFits n f) : Reader.given mask m (Reader.nat n) (optField n f ++ rest) = some (f, rest) := by
  cases f with
  | none => simpa [optField] using Reader.given_none mask m (Reader.nat n) rest (by simpa using hm)
  | some v => exact Reader.given_some mask m n v rest (by simpa using hm) (h v rfl)

/-- A list of fields, each read back by itself, is read back whole. -/
theorem Reader.many_map {α : Type} (r : Reader α) (enc : α → List Byte) (xs : List α) (rest : List Byte)
    (h : ∀ x ∈ xs, ∀ tail, r (enc x ++ tail) = some (x, tail)) :
    Reader.many r xs.length (xs.flatMap enc ++ rest) = some (xs, rest) := by
  induction xs with
  | nil => rfl
  | cons x xs ih =>
    have hx := h x (by simp) (xs.flatMap enc ++ rest)
    have ht := ih fun y hy => h y (by simp [hy])
    simp only [List.length_cons, Reader.many, Reader.bind_apply, List.flatMap_cons, List.append_assoc, hx, ht,
      Reader.pure_apply]

/-! ## Presence masks -/

theorem maskOf_lt (bs : List Bool) : maskOf bs < 2 ^ bs.length := by
  induction bs with
  | nil => simp [maskOf]
  | cons b bs ih =>
    simp only [maskOf, List.length_cons, pow_succ]
    cases b <;> simp [bit] <;> omega

/-- The m-th bit of a mask is the m-th field's. -/
theorem maskOf_testBit (bs : List Bool) (m : Nat) : (maskOf bs).testBit m = bs.getD m false := by
  induction bs generalizing m with
  | nil => simp [maskOf]
  | cons b bs ih =>
    cases m with
    | zero => cases b <;> simp [maskOf, bit, Nat.testBit_zero]
    | succ m =>
      rw [Nat.testBit_succ]
      have : (maskOf (b :: bs)) / 2 = maskOf bs := by
        cases b
        · simp [maskOf, bit]
        · simp only [maskOf, bit, if_true]; omega
      rw [this, ih]
      simp

end Sys2Proof.Machine
end

