-- ==== Sys2Proof/Laws/Frames.lean ====
section
/-! SUPPORT. What each shared operation leaves as it was: one lemma per field it does not touch. -/

namespace Sys2Proof.Machine

variable (s : State)

/-! ## Flags and triggers (R133) -/

/-- Noting a change of flags touches the pending trigger alone. -/
theorem State.noteFlags_eq (old new : State) :
    old.noteFlags new =
      { new with link := { new.link with trigger := new.link.trigger || old.link.settings.edge old.flag new.flag } } := by
  unfold State.noteFlags
  split <;> rename_i h <;> simp [h]

/-- Flags that do not change make no trigger. -/
theorem HeaderSettings.edge_same (h : HeaderSettings) (f : FlagSource → Bool) : h.edge f f = false := by
  have hp : ∀ p, h.edgeAt p f f = false := fun p => by
    unfold HeaderSettings.edgeAt
    cases f (h.select.get p) <;> simp
  simp [HeaderSettings.edge, hp]

/-- An operation that changes no flag makes no trigger. -/
theorem State.flagging_same (f : State → State) (h : (f s).flag = s.flag) : s.flagging f = f s := by
  rw [State.flagging, State.noteFlags, h, HeaderSettings.edge_same]
  simp

@[simp] theorem State.setMode_frame (m : BankMode) :
    (s.setMode m).pending = s.pending ∧ (s.setMode m).now = s.now ∧ (s.setMode m).draws = s.draws ∧
    (s.setMode m).bank = s.bank ∧ (s.setMode m).trunk = s.trunk ∧ (s.setMode m).mge = s.mge ∧
    (s.setMode m).policy = s.policy ∧ (s.setMode m).table = s.table ∧ (s.setMode m).zones = s.zones ∧
    (s.setMode m).lanes = s.lanes ∧ (s.setMode m).pairs = s.pairs ∧ (s.setMode m).peers = s.peers ∧
    (s.setMode m).log = s.log ∧ (s.setMode m).evu = s.evu ∧ (s.setMode m).bcm = { s.bcm with mode := m } ∧
    (s.setMode m).link.slots = s.link.slots ∧ (s.setMode m).link.settings = s.link.settings ∧
    (s.setMode m).link.running = s.link.running ∧ (s.setMode m).link.stopping = s.link.stopping ∧
    (s.setMode m).link.test = s.link.test := by
  simp [State.setMode, State.flagging, State.noteFlags_eq]

@[simp] theorem State.modZone_frame (z : ZoneNo) (f : Zone → Zone) :
    (s.modZone z f).pending = s.pending ∧ (s.modZone z f).now = s.now ∧ (s.modZone z f).draws = s.draws ∧
    (s.modZone z f).bank = s.bank ∧ (s.modZone z f).trunk = s.trunk ∧ (s.modZone z f).mge = s.mge ∧
    (s.modZone z f).policy = s.policy ∧ (s.modZone z f).table = s.table ∧ (s.modZone z f).lanes = s.lanes ∧
    (s.modZone z f).pairs = s.pairs ∧ (s.modZone z f).peers = s.peers ∧ (s.modZone z f).log = s.log ∧
    (s.modZone z f).evu = s.evu ∧ (s.modZone z f).bcm = s.bcm ∧ (s.modZone z f).zones = upd s.zones z f ∧
    (s.modZone z f).link.slots = s.link.slots ∧ (s.modZone z f).link.settings = s.link.settings ∧
    (s.modZone z f).link.running = s.link.running := by
  simp [State.modZone, State.flagging, State.noteFlags_eq]

@[simp] theorem State.modPeer_frame (b : BankNo) (f : Peer → Peer) :
    (s.modPeer b f).pending = s.pending ∧ (s.modPeer b f).now = s.now ∧ (s.modPeer b f).draws = s.draws ∧
    (s.modPeer b f).bank = s.bank ∧ (s.modPeer b f).trunk = s.trunk ∧ (s.modPeer b f).mge = s.mge ∧
    (s.modPeer b f).policy = s.policy ∧ (s.modPeer b f).table = s.table ∧ (s.modPeer b f).zones = s.zones ∧
    (s.modPeer b f).lanes = s.lanes ∧ (s.modPeer b f).pairs = s.pairs ∧ (s.modPeer b f).log = s.log ∧
    (s.modPeer b f).evu = s.evu ∧ (s.modPeer b f).bcm = s.bcm ∧
    (s.modPeer b f).peers = { s.peers with entries := upd s.peers.entries b f } ∧
    (s.modPeer b f).link.slots = s.link.slots ∧ (s.modPeer b f).link.settings = s.link.settings ∧
    (s.modPeer b f).link.running = s.link.running := by
  simp [State.modPeer, State.flagging, State.noteFlags_eq]

@[simp] theorem State.startLink_frame :
    (s.startLink).pending = s.pending ∧ (s.startLink).now = s.now ∧ (s.startLink).draws = s.draws ∧
    (s.startLink).bank = s.bank ∧ (s.startLink).trunk = s.trunk ∧ (s.startLink).mge = s.mge ∧
    (s.startLink).policy = s.policy ∧ (s.startLink).table = s.table ∧ (s.startLink).zones = s.zones ∧
    (s.startLink).lanes = s.lanes ∧ (s.startLink).pairs = s.pairs ∧ (s.startLink).peers = s.peers ∧
    (s.startLink).log = s.log ∧ (s.startLink).evu = s.evu ∧ (s.startLink).bcm = s.bcm ∧
    (s.startLink).link.slots = s.link.slots ∧ (s.startLink).link.settings = s.link.settings ∧
    (s.startLink).link.test.isSome = s.link.test.isSome ∧ (s.startLink).link.stopping = s.link.stopping := by
  unfold State.startLink; split <;> simp [State.flagging, State.noteFlags_eq, Link.started]

@[simp] theorem State.offer_frame (c : Fin 24) :
    (s.offer c).pending = s.pending ∧ (s.offer c).now = s.now ∧ (s.offer c).draws = s.draws ∧
    (s.offer c).bank = s.bank ∧ (s.offer c).trunk = s.trunk ∧ (s.offer c).mge = s.mge ∧ (s.offer c).policy = s.policy ∧
    (s.offer c).table = s.table ∧ (s.offer c).zones = s.zones ∧ (s.offer c).lanes = s.lanes ∧
    (s.offer c).pairs = s.pairs ∧ (s.offer c).link = s.link ∧ (s.offer c).peers = s.peers ∧ (s.offer c).log = s.log ∧
    (s.offer c).bcm = s.bcm := by
  unfold State.offer; split <;> simp

@[simp] theorem State.raiseQuiet_frame (c : Cause) (d : Option Nat) :
    (s.raiseQuiet c d).pending = s.pending ∧ (s.raiseQuiet c d).now = s.now ∧ (s.raiseQuiet c d).draws = s.draws ∧
    (s.raiseQuiet c d).bank = s.bank ∧ (s.raiseQuiet c d).trunk = s.trunk ∧ (s.raiseQuiet c d).mge = s.mge ∧
    (s.raiseQuiet c d).policy = s.policy ∧ (s.raiseQuiet c d).table = s.table ∧ (s.raiseQuiet c d).zones = s.zones ∧
    (s.raiseQuiet c d).lanes = s.lanes ∧ (s.raiseQuiet c d).pairs = s.pairs ∧ (s.raiseQuiet c d).link = s.link ∧
    (s.raiseQuiet c d).peers = s.peers ∧ (s.raiseQuiet c d).log = s.log ∧ (s.raiseQuiet c d).bcm = s.bcm := by
  unfold State.raiseQuiet; split <;> simp

@[simp] theorem State.releaseStandby_frame :
    (s.releaseStandby).pending = s.pending ∧ (s.releaseStandby).now = s.now ∧ (s.releaseStandby).draws = s.draws ∧
    (s.releaseStandby).bank = s.bank ∧ (s.releaseStandby).trunk = s.trunk ∧ (s.releaseStandby).mge = s.mge ∧
    (s.releaseStandby).policy = s.policy ∧ (s.releaseStandby).table = s.table ∧ (s.releaseStandby).zones = s.zones ∧
    (s.releaseStandby).lanes = s.lanes ∧ (s.releaseStandby).pairs = s.pairs ∧ (s.releaseStandby).peers = s.peers ∧
    (s.releaseStandby).log = s.log ∧ (s.releaseStandby).link.slots = s.link.slots ∧
    (s.releaseStandby).link.settings = s.link.settings ∧ (s.releaseStandby).bcm = { s.bcm with mode := .service } ∧
    (s.releaseStandby).link.test.isSome = s.link.test.isSome ∧ (s.releaseStandby).link.stopping = s.link.stopping := by
  simp [State.releaseStandby]

@[simp] theorem State.raise_frame (c : Cause) (d : Option Nat) :
    (s.raise c d).pending = s.pending ∧ (s.raise c d).now = s.now ∧ (s.raise c d).draws = s.draws ∧
    (s.raise c d).bank = s.bank ∧ (s.raise c d).trunk = s.trunk ∧ (s.raise c d).mge = s.mge ∧
    (s.raise c d).policy = s.policy ∧ (s.raise c d).table = s.table ∧ (s.raise c d).zones = s.zones ∧
    (s.raise c d).lanes = s.lanes ∧ (s.raise c d).pairs = s.pairs ∧ (s.raise c d).peers = s.peers ∧
    (s.raise c d).log = s.log ∧ (s.raise c d).link.slots = s.link.slots ∧
    (s.raise c d).link.settings = s.link.settings ∧ (s.raise c d).link.test.isSome = s.link.test.isSome ∧
    (s.raise c d).link.stopping = s.link.stopping ∧ (s.raise c d).bcm.clock = s.bcm.clock ∧
    (s.raise c d).bcm.tick = s.bcm.tick ∧ (s.raise c d).bcm.code = s.bcm.code ∧
    (s.raise c d).bcm.schedule = s.bcm.schedule ∧ (s.raise c d).bcm.requested = s.bcm.requested ∧
    (s.raise c d).bcm.entering = s.bcm.entering ∧ (s.raise c d).bcm.surge = s.bcm.surge ∧
    (s.raise c d).bcm.wakeOffset = s.bcm.wakeOffset ∧ (s.raise c d).bcm.wakePattern = s.bcm.wakePattern := by
  unfold State.raise; split <;> simp

@[simp] theorem State.capture_frame (k : ErrorKind) (l : Option LaneNo) :
    (s.capture k l).pending = s.pending ∧ (s.capture k l).now = s.now ∧ (s.capture k l).draws = s.draws ∧
    (s.capture k l).bank = s.bank ∧ (s.capture k l).trunk = s.trunk ∧ (s.capture k l).mge = s.mge ∧
    (s.capture k l).policy = s.policy ∧ (s.capture k l).table = s.table ∧ (s.capture k l).zones = s.zones ∧
    (s.capture k l).lanes = s.lanes ∧ (s.capture k l).pairs = s.pairs ∧ (s.capture k l).link = s.link ∧
    (s.capture k l).peers = s.peers ∧ (s.capture k l).log = s.log ∧ (s.capture k l).bcm = s.bcm := by
  simp [State.capture]

@[simp] theorem State.logHeader_frame (k : ErrorKind) (bs : List Byte) :
    (s.logHeader k bs).pending = s.pending ∧ (s.logHeader k bs).now = s.now ∧ (s.logHeader k bs).draws = s.draws ∧
    (s.logHeader k bs).bank = s.bank ∧ (s.logHeader k bs).trunk = s.trunk ∧ (s.logHeader k bs).mge = s.mge ∧
    (s.logHeader k bs).policy = s.policy ∧ (s.logHeader k bs).table = s.table ∧ (s.logHeader k bs).zones = s.zones ∧
    (s.logHeader k bs).lanes = s.lanes ∧ (s.logHeader k bs).pairs = s.pairs ∧ (s.logHeader k bs).link = s.link ∧
    (s.logHeader k bs).peers = s.peers ∧ (s.logHeader k bs).log = s.log ∧ (s.logHeader k bs).bcm = s.bcm := by
  simp [State.logHeader]

@[simp] theorem State.errorOccurs_frame (k : ErrorKind) (l : Option LaneNo) (bs : List Byte) :
    (s.errorOccurs k l bs).pending = s.pending ∧ (s.errorOccurs k l bs).now = s.now ∧
    (s.errorOccurs k l bs).draws = s.draws ∧ (s.errorOccurs k l bs).bank = s.bank ∧
    (s.errorOccurs k l bs).trunk = s.trunk ∧ (s.errorOccurs k l bs).mge = s.mge ∧
    (s.errorOccurs k l bs).policy = s.policy ∧ (s.errorOccurs k l bs).table = s.table ∧
    (s.errorOccurs k l bs).zones = s.zones ∧ (s.errorOccurs k l bs).lanes = s.lanes ∧
    (s.errorOccurs k l bs).pairs = s.pairs ∧ (s.errorOccurs k l bs).peers = s.peers ∧
    (s.errorOccurs k l bs).log = s.log ∧ (s.errorOccurs k l bs).link.slots = s.link.slots ∧
    (s.errorOccurs k l bs).link.settings = s.link.settings ∧ (s.errorOccurs k l bs).link.test.isSome = s.link.test.isSome ∧
    (s.errorOccurs k l bs).link.stopping = s.link.stopping ∧ (s.errorOccurs k l bs).bcm.clock = s.bcm.clock ∧
    (s.errorOccurs k l bs).bcm.tick = s.bcm.tick ∧ (s.errorOccurs k l bs).bcm.code = s.bcm.code ∧
    (s.errorOccurs k l bs).bcm.schedule = s.bcm.schedule ∧ (s.errorOccurs k l bs).bcm.requested = s.bcm.requested ∧
    (s.errorOccurs k l bs).bcm.entering = s.bcm.entering ∧ (s.errorOccurs k l bs).bcm.surge = s.bcm.surge ∧
    (s.errorOccurs k l bs).bcm.wakeOffset = s.bcm.wakeOffset ∧
    (s.errorOccurs k l bs).bcm.wakePattern = s.bcm.wakePattern := by
  simp only [State.errorOccurs]; (repeat' split) <;> simp

@[simp] theorem State.drainTest_frame :
    (s.drainTest).pending = s.pending ∧ (s.drainTest).now = s.now ∧ (s.drainTest).draws = s.draws ∧
    (s.drainTest).bank = s.bank ∧ (s.drainTest).trunk = s.trunk ∧ (s.drainTest).mge = s.mge ∧
    (s.drainTest).policy = s.policy ∧ (s.drainTest).table = s.table ∧ (s.drainTest).zones = s.zones ∧
    (s.drainTest).lanes = s.lanes ∧ (s.drainTest).pairs = s.pairs ∧ (s.drainTest).link = s.link ∧
    (s.drainTest).peers = s.peers ∧ (s.drainTest).evu = s.evu ∧ (s.drainTest).bcm = s.bcm := by
  simp [State.drainTest]

@[simp] theorem State.reportLevel_frame (n : Nat) :
    (s.reportLevel n).pending = s.pending ∧ (s.reportLevel n).now = s.now ∧ (s.reportLevel n).draws = s.draws ∧
    (s.reportLevel n).bank = s.bank ∧ (s.reportLevel n).trunk = s.trunk ∧ (s.reportLevel n).mge = s.mge ∧
    (s.reportLevel n).policy = s.policy ∧ (s.reportLevel n).table = s.table ∧ (s.reportLevel n).zones = s.zones ∧
    (s.reportLevel n).lanes = s.lanes ∧ (s.reportLevel n).pairs = s.pairs ∧ (s.reportLevel n).peers = s.peers ∧
    (s.reportLevel n).log = s.log ∧ (s.reportLevel n).link.slots = s.link.slots ∧
    (s.reportLevel n).link.settings = s.link.settings ∧ (s.reportLevel n).link.test.isSome = s.link.test.isSome ∧
    (s.reportLevel n).link.stopping = s.link.stopping ∧ (s.reportLevel n).bcm.clock = s.bcm.clock ∧
    (s.reportLevel n).bcm.tick = s.bcm.tick ∧ (s.reportLevel n).bcm.code = s.bcm.code ∧
    (s.reportLevel n).bcm.schedule = s.bcm.schedule ∧ (s.reportLevel n).bcm.requested = s.bcm.requested ∧
    (s.reportLevel n).bcm.entering = s.bcm.entering ∧ (s.reportLevel n).bcm.surge = s.bcm.surge ∧
    (s.reportLevel n).bcm.wakeOffset = s.bcm.wakeOffset ∧ (s.reportLevel n).bcm.wakePattern = s.bcm.wakePattern := by
  unfold State.reportLevel; (repeat' split) <;> simp

@[simp] theorem State.writeLog_frame (a : Admission) :
    (s.writeLog a).pending = s.pending ∧ (s.writeLog a).now = s.now ∧ (s.writeLog a).draws = s.draws ∧
    (s.writeLog a).bank = s.bank ∧ (s.writeLog a).trunk = s.trunk ∧ (s.writeLog a).mge = s.mge ∧
    (s.writeLog a).policy = s.policy ∧ (s.writeLog a).table = s.table ∧ (s.writeLog a).zones = s.zones ∧
    (s.writeLog a).lanes = s.lanes ∧ (s.writeLog a).pairs = s.pairs ∧ (s.writeLog a).peers = s.peers ∧
    (s.writeLog a).link.slots = s.link.slots ∧ (s.writeLog a).link.settings = s.link.settings ∧
    (s.writeLog a).link.test.isSome = s.link.test.isSome ∧ (s.writeLog a).link.stopping = s.link.stopping ∧
    (s.writeLog a).bcm.clock = s.bcm.clock ∧ (s.writeLog a).bcm.tick = s.bcm.tick ∧
    (s.writeLog a).bcm.code = s.bcm.code ∧ (s.writeLog a).bcm.schedule = s.bcm.schedule ∧
    (s.writeLog a).bcm.requested = s.bcm.requested ∧ (s.writeLog a).bcm.entering = s.bcm.entering ∧
    (s.writeLog a).bcm.surge = s.bcm.surge ∧ (s.writeLog a).bcm.wakeOffset = s.bcm.wakeOffset ∧
    (s.writeLog a).bcm.wakePattern = s.bcm.wakePattern := by
  simp only [State.writeLog]; (repeat' split) <;> simp [State.flagging, State.noteFlags_eq]

@[simp] theorem State.reportFull_frame (z : ZoneNo) :
    (s.reportFull z).pending = s.pending ∧ (s.reportFull z).now = s.now ∧ (s.reportFull z).draws = s.draws ∧
    (s.reportFull z).bank = s.bank ∧ (s.reportFull z).trunk = s.trunk ∧ (s.reportFull z).mge = s.mge ∧
    (s.reportFull z).policy = s.policy ∧ (s.reportFull z).table = s.table ∧ (s.reportFull z).zones = s.zones ∧
    (s.reportFull z).lanes = s.lanes ∧ (s.reportFull z).pairs = s.pairs ∧ (s.reportFull z).peers = s.peers ∧
    (s.reportFull z).log = s.log ∧ (s.reportFull z).link.slots = s.link.slots ∧
    (s.reportFull z).link.settings = s.link.settings ∧ (s.reportFull z).bcm.clock = s.bcm.clock ∧
    (s.reportFull z).bcm.tick = s.bcm.tick ∧ (s.reportFull z).bcm.code = s.bcm.code ∧
    (s.reportFull z).bcm.schedule = s.bcm.schedule ∧ (s.reportFull z).bcm.requested = s.bcm.requested ∧
    (s.reportFull z).bcm.entering = s.bcm.entering ∧ (s.reportFull z).bcm.surge = s.bcm.surge ∧
    (s.reportFull z).bcm.wakeOffset = s.bcm.wakeOffset ∧ (s.reportFull z).bcm.wakePattern = s.bcm.wakePattern := by
  unfold State.reportFull; split <;> simp

@[simp] theorem State.reserve_frame (l : LaneNo) (z : ZoneNo) :
    (s.reserve l z).pending = s.pending ∧ (s.reserve l z).now = s.now ∧ (s.reserve l z).draws = s.draws ∧
    (s.reserve l z).bank = s.bank ∧ (s.reserve l z).trunk = s.trunk ∧ (s.reserve l z).mge = s.mge ∧
    (s.reserve l z).policy = s.policy ∧ (s.reserve l z).table = s.table ∧ (s.reserve l z).pairs = s.pairs ∧
    (s.reserve l z).peers = s.peers ∧ (s.reserve l z).log = s.log ∧ (s.reserve l z).link.slots = s.link.slots ∧
    (s.reserve l z).link.settings = s.link.settings ∧ (s.reserve l z).bcm.clock = s.bcm.clock ∧
    (s.reserve l z).bcm.tick = s.bcm.tick ∧ (s.reserve l z).bcm.code = s.bcm.code ∧
    (s.reserve l z).bcm.schedule = s.bcm.schedule ∧ (s.reserve l z).bcm.requested = s.bcm.requested ∧
    (s.reserve l z).bcm.entering = s.bcm.entering ∧ (s.reserve l z).bcm.surge = s.bcm.surge ∧
    (s.reserve l z).bcm.wakeOffset = s.bcm.wakeOffset ∧ (s.reserve l z).bcm.wakePattern = s.bcm.wakePattern := by
  simp [State.reserve]

@[simp] theorem State.release_frame (l : LaneNo) :
    (s.release l).pending = s.pending ∧ (s.release l).now = s.now ∧ (s.release l).draws = s.draws ∧
    (s.release l).bank = s.bank ∧ (s.release l).trunk = s.trunk ∧ (s.release l).mge = s.mge ∧
    (s.release l).policy = s.policy ∧ (s.release l).table = s.table ∧ (s.release l).pairs = s.pairs ∧
    (s.release l).peers = s.peers ∧ (s.release l).log = s.log ∧ (s.release l).evu = s.evu ∧ (s.release l).bcm = s.bcm ∧
    (s.release l).link.slots = s.link.slots ∧ (s.release l).link.settings = s.link.settings := by
  unfold State.release; split <;> simp

@[simp] theorem State.commitZone_frame (l : LaneNo) :
    (s.commitZone l).pending = s.pending ∧ (s.commitZone l).now = s.now ∧ (s.commitZone l).draws = s.draws ∧
    (s.commitZone l).bank = s.bank ∧ (s.commitZone l).trunk = s.trunk ∧ (s.commitZone l).mge = s.mge ∧
    (s.commitZone l).policy = s.policy ∧ (s.commitZone l).table = s.table ∧ (s.commitZone l).pairs = s.pairs ∧
    (s.commitZone l).peers = s.peers ∧ (s.commitZone l).log = s.log ∧ (s.commitZone l).link.slots = s.link.slots ∧
    (s.commitZone l).link.settings = s.link.settings ∧ (s.commitZone l).bcm.clock = s.bcm.clock ∧
    (s.commitZone l).bcm.tick = s.bcm.tick ∧ (s.commitZone l).bcm.code = s.bcm.code ∧
    (s.commitZone l).bcm.schedule = s.bcm.schedule ∧ (s.commitZone l).bcm.requested = s.bcm.requested ∧
    (s.commitZone l).bcm.entering = s.bcm.entering ∧ (s.commitZone l).bcm.surge = s.bcm.surge ∧
    (s.commitZone l).bcm.wakeOffset = s.bcm.wakeOffset ∧ (s.commitZone l).bcm.wakePattern = s.bcm.wakePattern := by
  unfold State.commitZone; split <;> simp

@[simp] theorem State.putRecord_frame (n : Nat) (r : Record) :
    (s.putRecord n r).pending = s.pending ∧ (s.putRecord n r).now = s.now ∧ (s.putRecord n r).draws = s.draws ∧
    (s.putRecord n r).bank = s.bank ∧ (s.putRecord n r).trunk = s.trunk ∧ (s.putRecord n r).mge = s.mge ∧
    (s.putRecord n r).policy = s.policy ∧ (s.putRecord n r).zones = s.zones ∧ (s.putRecord n r).lanes = s.lanes ∧
    (s.putRecord n r).pairs = s.pairs ∧ (s.putRecord n r).link = s.link ∧ (s.putRecord n r).peers = s.peers ∧
    (s.putRecord n r).log = s.log ∧ (s.putRecord n r).evu = s.evu ∧ (s.putRecord n r).bcm = s.bcm := by
  simp [State.putRecord]

@[simp] theorem State.pushPeer_frame (f : TxFrame) :
    (s.pushPeer f).pending = s.pending ∧ (s.pushPeer f).now = s.now ∧ (s.pushPeer f).draws = s.draws ∧
    (s.pushPeer f).bank = s.bank ∧ (s.pushPeer f).mge = s.mge ∧ (s.pushPeer f).policy = s.policy ∧
    (s.pushPeer f).table = s.table ∧ (s.pushPeer f).zones = s.zones ∧ (s.pushPeer f).lanes = s.lanes ∧
    (s.pushPeer f).pairs = s.pairs ∧ (s.pushPeer f).link = s.link ∧ (s.pushPeer f).peers = s.peers ∧
    (s.pushPeer f).log = s.log ∧ (s.pushPeer f).evu = s.evu ∧ (s.pushPeer f).bcm = s.bcm := by
  simp [State.pushPeer]

@[simp] theorem State.offerPeer_frame (f : TxFrame) :
    (s.offerPeer f).pending = s.pending ∧ (s.offerPeer f).now = s.now ∧ (s.offerPeer f).draws = s.draws ∧
    (s.offerPeer f).bank = s.bank ∧ (s.offerPeer f).mge = s.mge ∧ (s.offerPeer f).policy = s.policy ∧
    (s.offerPeer f).table = s.table ∧ (s.offerPeer f).zones = s.zones ∧ (s.offerPeer f).lanes = s.lanes ∧
    (s.offerPeer f).pairs = s.pairs ∧ (s.offerPeer f).peers = s.peers ∧ (s.offerPeer f).log = s.log ∧
    (s.offerPeer f).link.slots = s.link.slots ∧ (s.offerPeer f).link.settings = s.link.settings ∧
    (s.offerPeer f).bcm.clock = s.bcm.clock ∧ (s.offerPeer f).bcm.tick = s.bcm.tick ∧
    (s.offerPeer f).bcm.code = s.bcm.code ∧ (s.offerPeer f).bcm.schedule = s.bcm.schedule ∧
    (s.offerPeer f).bcm.requested = s.bcm.requested ∧ (s.offerPeer f).bcm.entering = s.bcm.entering ∧
    (s.offerPeer f).bcm.surge = s.bcm.surge ∧ (s.offerPeer f).bcm.wakeOffset = s.bcm.wakeOffset ∧
    (s.offerPeer f).bcm.wakePattern = s.bcm.wakePattern := by
  unfold State.offerPeer; split <;> simp

@[simp] theorem State.sendEntryNotice_frame (k : Key) (l : LaneNo) (t : Option Nat) (u : Byte) (p : Bool) (z : Option ZoneNo) :
    (s.sendEntryNotice k l t u p z).pending = s.pending ∧ (s.sendEntryNotice k l t u p z).now = s.now ∧
    (s.sendEntryNotice k l t u p z).draws = s.draws ∧ (s.sendEntryNotice k l t u p z).bank = s.bank ∧
    (s.sendEntryNotice k l t u p z).mge = s.mge ∧ (s.sendEntryNotice k l t u p z).policy = s.policy ∧
    (s.sendEntryNotice k l t u p z).table = s.table ∧ (s.sendEntryNotice k l t u p z).zones = s.zones ∧
    (s.sendEntryNotice k l t u p z).lanes = s.lanes ∧ (s.sendEntryNotice k l t u p z).pairs = s.pairs ∧
    (s.sendEntryNotice k l t u p z).peers = s.peers ∧ (s.sendEntryNotice k l t u p z).log = s.log ∧
    (s.sendEntryNotice k l t u p z).link.slots = s.link.slots ∧
    (s.sendEntryNotice k l t u p z).link.settings = s.link.settings ∧
    (s.sendEntryNotice k l t u p z).bcm.clock = s.bcm.clock ∧ (s.sendEntryNotice k l t u p z).bcm.tick = s.bcm.tick ∧
    (s.sendEntryNotice k l t u p z).bcm.code = s.bcm.code ∧
    (s.sendEntryNotice k l t u p z).bcm.schedule = s.bcm.schedule ∧
    (s.sendEntryNotice k l t u p z).bcm.requested = s.bcm.requested ∧
    (s.sendEntryNotice k l t u p z).bcm.entering = s.bcm.entering ∧
    (s.sendEntryNotice k l t u p z).bcm.surge = s.bcm.surge ∧
    (s.sendEntryNotice k l t u p z).bcm.wakeOffset = s.bcm.wakeOffset ∧
    (s.sendEntryNotice k l t u p z).bcm.wakePattern = s.bcm.wakePattern := by
  simp [State.sendEntryNotice]

@[simp] theorem State.sendExitNotice_frame (k : Key) (l : LaneNo) (t : Option Nat) (st : Resting) :
    (s.sendExitNotice k l t st).pending = s.pending ∧ (s.sendExitNotice k l t st).now = s.now ∧
    (s.sendExitNotice k l t st).draws = s.draws ∧ (s.sendExitNotice k l t st).bank = s.bank ∧
    (s.sendExitNotice k l t st).mge = s.mge ∧ (s.sendExitNotice k l t st).policy = s.policy ∧
    (s.sendExitNotice k l t st).table = s.table ∧ (s.sendExitNotice k l t st).zones = s.zones ∧
    (s.sendExitNotice k l t st).lanes = s.lanes ∧ (s.sendExitNotice k l t st).pairs = s.pairs ∧
    (s.sendExitNotice k l t st).peers = s.peers ∧ (s.sendExitNotice k l t st).log = s.log ∧
    (s.sendExitNotice k l t st).link.slots = s.link.slots ∧
    (s.sendExitNotice k l t st).link.settings = s.link.settings ∧ (s.sendExitNotice k l t st).bcm.clock = s.bcm.clock ∧
    (s.sendExitNotice k l t st).bcm.tick = s.bcm.tick ∧ (s.sendExitNotice k l t st).bcm.code = s.bcm.code ∧
    (s.sendExitNotice k l t st).bcm.schedule = s.bcm.schedule ∧
    (s.sendExitNotice k l t st).bcm.requested = s.bcm.requested ∧
    (s.sendExitNotice k l t st).bcm.entering = s.bcm.entering ∧ (s.sendExitNotice k l t st).bcm.surge = s.bcm.surge ∧
    (s.sendExitNotice k l t st).bcm.wakeOffset = s.bcm.wakeOffset ∧
    (s.sendExitNotice k l t st).bcm.wakePattern = s.bcm.wakePattern := by
  simp [State.sendExitNotice]

@[simp] theorem State.sendWithdrawNotice_frame (h : BankNo) (k : Key) (l : LaneNo) :
    (s.sendWithdrawNotice h k l).pending = s.pending ∧ (s.sendWithdrawNotice h k l).now = s.now ∧
    (s.sendWithdrawNotice h k l).draws = s.draws ∧ (s.sendWithdrawNotice h k l).bank = s.bank ∧
    (s.sendWithdrawNotice h k l).mge = s.mge ∧ (s.sendWithdrawNotice h k l).policy = s.policy ∧
    (s.sendWithdrawNotice h k l).table = s.table ∧ (s.sendWithdrawNotice h k l).zones = s.zones ∧
    (s.sendWithdrawNotice h k l).lanes = s.lanes ∧ (s.sendWithdrawNotice h k l).pairs = s.pairs ∧
    (s.sendWithdrawNotice h k l).peers = s.peers ∧ (s.sendWithdrawNotice h k l).log = s.log ∧
    (s.sendWithdrawNotice h k l).link.slots = s.link.slots ∧
    (s.sendWithdrawNotice h k l).link.settings = s.link.settings ∧
    (s.sendWithdrawNotice h k l).bcm.clock = s.bcm.clock ∧ (s.sendWithdrawNotice h k l).bcm.tick = s.bcm.tick ∧
    (s.sendWithdrawNotice h k l).bcm.code = s.bcm.code ∧ (s.sendWithdrawNotice h k l).bcm.schedule = s.bcm.schedule ∧
    (s.sendWithdrawNotice h k l).bcm.requested = s.bcm.requested ∧
    (s.sendWithdrawNotice h k l).bcm.entering = s.bcm.entering ∧ (s.sendWithdrawNotice h k l).bcm.surge = s.bcm.surge ∧
    (s.sendWithdrawNotice h k l).bcm.wakeOffset = s.bcm.wakeOffset ∧
    (s.sendWithdrawNotice h k l).bcm.wakePattern = s.bcm.wakePattern := by
  simp [State.sendWithdrawNotice]

@[simp] theorem State.reconcileSend_frame (b : BankNo) :
    (s.reconcileSend b).pending = s.pending ∧ (s.reconcileSend b).now = s.now ∧ (s.reconcileSend b).draws = s.draws ∧
    (s.reconcileSend b).bank = s.bank ∧ (s.reconcileSend b).mge = s.mge ∧ (s.reconcileSend b).policy = s.policy ∧
    (s.reconcileSend b).table = s.table ∧ (s.reconcileSend b).zones = s.zones ∧ (s.reconcileSend b).lanes = s.lanes ∧
    (s.reconcileSend b).pairs = s.pairs ∧ (s.reconcileSend b).link = s.link ∧ (s.reconcileSend b).log = s.log ∧
    (s.reconcileSend b).evu = s.evu ∧ (s.reconcileSend b).bcm = s.bcm := by
  simp [State.reconcileSend]

@[simp] theorem State.addReconcile_frame (e : Reconcile) :
    (s.addReconcile e).pending = s.pending ∧ (s.addReconcile e).now = s.now ∧ (s.addReconcile e).draws = s.draws ∧
    (s.addReconcile e).bank = s.bank ∧ (s.addReconcile e).trunk = s.trunk ∧ (s.addReconcile e).mge = s.mge ∧
    (s.addReconcile e).policy = s.policy ∧ (s.addReconcile e).table = s.table ∧ (s.addReconcile e).zones = s.zones ∧
    (s.addReconcile e).lanes = s.lanes ∧ (s.addReconcile e).pairs = s.pairs ∧ (s.addReconcile e).log = s.log ∧
    (s.addReconcile e).link.slots = s.link.slots ∧ (s.addReconcile e).link.settings = s.link.settings ∧
    (s.addReconcile e).bcm.clock = s.bcm.clock ∧ (s.addReconcile e).bcm.tick = s.bcm.tick ∧
    (s.addReconcile e).bcm.code = s.bcm.code ∧ (s.addReconcile e).bcm.schedule = s.bcm.schedule ∧
    (s.addReconcile e).bcm.requested = s.bcm.requested ∧ (s.addReconcile e).bcm.entering = s.bcm.entering ∧
    (s.addReconcile e).bcm.surge = s.bcm.surge ∧ (s.addReconcile e).bcm.wakeOffset = s.bcm.wakeOffset ∧
    (s.addReconcile e).bcm.wakePattern = s.bcm.wakePattern := by
  unfold State.addReconcile; split <;> simp

@[simp] theorem State.dropQuery_frame (l : LaneNo) :
    (s.dropQuery l).pending = s.pending ∧ (s.dropQuery l).now = s.now ∧ (s.dropQuery l).draws = s.draws ∧
    (s.dropQuery l).bank = s.bank ∧ (s.dropQuery l).trunk = s.trunk ∧ (s.dropQuery l).mge = s.mge ∧
    (s.dropQuery l).policy = s.policy ∧ (s.dropQuery l).table = s.table ∧ (s.dropQuery l).zones = s.zones ∧
    (s.dropQuery l).lanes = s.lanes ∧ (s.dropQuery l).pairs = s.pairs ∧ (s.dropQuery l).link = s.link ∧
    (s.dropQuery l).log = s.log ∧ (s.dropQuery l).evu = s.evu ∧ (s.dropQuery l).bcm = s.bcm := by
  simp [State.dropQuery]

@[simp] theorem State.addLapsed_frame (q : Query) (v : LapsedVerdict) :
    (s.addLapsed q v).pending = s.pending ∧ (s.addLapsed q v).now = s.now ∧ (s.addLapsed q v).draws = s.draws ∧
    (s.addLapsed q v).bank = s.bank ∧ (s.addLapsed q v).trunk = s.trunk ∧ (s.addLapsed q v).mge = s.mge ∧
    (s.addLapsed q v).policy = s.policy ∧ (s.addLapsed q v).table = s.table ∧ (s.addLapsed q v).zones = s.zones ∧
    (s.addLapsed q v).lanes = s.lanes ∧ (s.addLapsed q v).pairs = s.pairs ∧ (s.addLapsed q v).link = s.link ∧
    (s.addLapsed q v).log = s.log ∧ (s.addLapsed q v).evu = s.evu ∧ (s.addLapsed q v).bcm = s.bcm := by
  simp [State.addLapsed]

/-! ## Commands queued in a lane's slots (R79) -/

/-- A command queued in a lane's slots touches those slots alone. -/
theorem State.foldl_modSlot (f : Slot → Slot) (ls : List LaneNo) :
    ls.foldl (fun t k => t.modSlot k f) s =
      { s with link := { s.link with slots := (ls.foldl (fun t k => t.modSlot k f) s).link.slots } } := by
  induction ls generalizing s with
  | nil => rfl
  | cons k ls ih => rw [List.foldl_cons, ih]; rfl

@[simp] theorem State.queueVerdict_frame (l : LaneNo) (v : VerdictCommand) :
    (s.queueVerdict l v).pending = s.pending ∧ (s.queueVerdict l v).now = s.now ∧ (s.queueVerdict l v).draws = s.draws ∧
    (s.queueVerdict l v).bank = s.bank ∧ (s.queueVerdict l v).trunk = s.trunk ∧ (s.queueVerdict l v).mge = s.mge ∧
    (s.queueVerdict l v).policy = s.policy ∧ (s.queueVerdict l v).table = s.table ∧
    (s.queueVerdict l v).zones = s.zones ∧ (s.queueVerdict l v).lanes = s.lanes ∧ (s.queueVerdict l v).pairs = s.pairs ∧
    (s.queueVerdict l v).peers = s.peers ∧ (s.queueVerdict l v).log = s.log ∧ (s.queueVerdict l v).evu = s.evu ∧
    (s.queueVerdict l v).bcm = s.bcm ∧ (s.queueVerdict l v).link.settings = s.link.settings ∧
    (s.queueVerdict l v).link.running = s.link.running ∧ (s.queueVerdict l v).link.test = s.link.test ∧
    (s.queueVerdict l v).link.stopping = s.link.stopping := by
  rw [State.queueVerdict, State.foldl_modSlot]; exact ⟨rfl, rfl, rfl, rfl, rfl, rfl, rfl, rfl, rfl, rfl, rfl, rfl, rfl, rfl, rfl, rfl, rfl, rfl, rfl⟩

@[simp] theorem State.endVerdict_frame (l : LaneNo) :
    (s.endVerdict l).pending = s.pending ∧ (s.endVerdict l).now = s.now ∧ (s.endVerdict l).draws = s.draws ∧
    (s.endVerdict l).bank = s.bank ∧ (s.endVerdict l).trunk = s.trunk ∧ (s.endVerdict l).mge = s.mge ∧
    (s.endVerdict l).policy = s.policy ∧ (s.endVerdict l).table = s.table ∧
    (s.endVerdict l).zones = s.zones ∧ (s.endVerdict l).lanes = s.lanes ∧ (s.endVerdict l).pairs = s.pairs ∧
    (s.endVerdict l).peers = s.peers ∧ (s.endVerdict l).log = s.log ∧ (s.endVerdict l).evu = s.evu ∧
    (s.endVerdict l).bcm = s.bcm ∧ (s.endVerdict l).link.settings = s.link.settings ∧
    (s.endVerdict l).link.running = s.link.running ∧ (s.endVerdict l).link.test = s.link.test ∧
    (s.endVerdict l).link.stopping = s.link.stopping := by
  rw [State.endVerdict, State.foldl_modSlot]; exact ⟨rfl, rfl, rfl, rfl, rfl, rfl, rfl, rfl, rfl, rfl, rfl, rfl, rfl, rfl, rfl, rfl, rfl, rfl, rfl⟩

@[simp] theorem State.queueLamp_frame (l : LaneNo) (v : Display) :
    (s.queueLamp l v).pending = s.pending ∧ (s.queueLamp l v).now = s.now ∧ (s.queueLamp l v).draws = s.draws ∧
    (s.queueLamp l v).bank = s.bank ∧ (s.queueLamp l v).trunk = s.trunk ∧ (s.queueLamp l v).mge = s.mge ∧
    (s.queueLamp l v).policy = s.policy ∧ (s.queueLamp l v).table = s.table ∧ (s.queueLamp l v).zones = s.zones ∧
    (s.queueLamp l v).lanes = s.lanes ∧ (s.queueLamp l v).pairs = s.pairs ∧ (s.queueLamp l v).peers = s.peers ∧
    (s.queueLamp l v).log = s.log ∧ (s.queueLamp l v).evu = s.evu ∧ (s.queueLamp l v).bcm = s.bcm ∧
    (s.queueLamp l v).link.settings = s.link.settings ∧ (s.queueLamp l v).link.running = s.link.running ∧
    (s.queueLamp l v).link.test = s.link.test ∧ (s.queueLamp l v).link.stopping = s.link.stopping := by
  rw [State.queueLamp, State.foldl_modSlot]; exact ⟨rfl, rfl, rfl, rfl, rfl, rfl, rfl, rfl, rfl, rfl, rfl, rfl, rfl, rfl, rfl, rfl, rfl, rfl, rfl⟩

@[simp] theorem State.adopt_frame (l : LaneNo) :
    (s.adopt l).pending = s.pending ∧ (s.adopt l).now = s.now ∧ (s.adopt l).draws = s.draws ∧
    (s.adopt l).bank = s.bank ∧ (s.adopt l).trunk = s.trunk ∧ (s.adopt l).mge = s.mge ∧ (s.adopt l).policy = s.policy ∧
    (s.adopt l).table = s.table ∧ (s.adopt l).zones = s.zones ∧ (s.adopt l).pairs = s.pairs ∧
    (s.adopt l).link = s.link ∧ (s.adopt l).peers = s.peers ∧ (s.adopt l).log = s.log ∧ (s.adopt l).evu = s.evu ∧
    (s.adopt l).bcm = s.bcm := by
  simp [State.adopt]

@[simp] theorem State.enterIdle_frame (l : LaneNo) :
    (s.enterIdle l).pending = s.pending ∧ (s.enterIdle l).now = s.now ∧ (s.enterIdle l).draws = s.draws ∧
    (s.enterIdle l).bank = s.bank ∧ (s.enterIdle l).trunk = s.trunk ∧ (s.enterIdle l).mge = s.mge ∧
    (s.enterIdle l).policy = s.policy ∧ (s.enterIdle l).table = s.table ∧ (s.enterIdle l).zones = s.zones ∧
    (s.enterIdle l).pairs = s.pairs ∧ (s.enterIdle l).peers = s.peers ∧ (s.enterIdle l).log = s.log ∧
    (s.enterIdle l).evu = s.evu ∧ (s.enterIdle l).bcm = s.bcm ∧ (s.enterIdle l).link.settings = s.link.settings := by
  simp [State.enterIdle]

@[simp] theorem State.enterClosed_frame (l : LaneNo) :
    (s.enterClosed l).pending = s.pending ∧ (s.enterClosed l).now = s.now ∧ (s.enterClosed l).draws = s.draws ∧
    (s.enterClosed l).bank = s.bank ∧ (s.enterClosed l).trunk = s.trunk ∧ (s.enterClosed l).mge = s.mge ∧
    (s.enterClosed l).policy = s.policy ∧ (s.enterClosed l).table = s.table ∧ (s.enterClosed l).zones = s.zones ∧
    (s.enterClosed l).pairs = s.pairs ∧ (s.enterClosed l).peers = s.peers ∧ (s.enterClosed l).log = s.log ∧
    (s.enterClosed l).evu = s.evu ∧ (s.enterClosed l).bcm = s.bcm ∧ (s.enterClosed l).link.settings = s.link.settings := by
  simp [State.enterClosed]

@[simp] theorem State.rest_frame (l : LaneNo) :
    (s.rest l).pending = s.pending ∧ (s.rest l).now = s.now ∧ (s.rest l).draws = s.draws ∧ (s.rest l).bank = s.bank ∧
    (s.rest l).trunk = s.trunk ∧ (s.rest l).mge = s.mge ∧ (s.rest l).policy = s.policy ∧ (s.rest l).table = s.table ∧
    (s.rest l).zones = s.zones ∧ (s.rest l).pairs = s.pairs ∧ (s.rest l).peers = s.peers ∧ (s.rest l).log = s.log ∧
    (s.rest l).evu = s.evu ∧ (s.rest l).bcm = s.bcm ∧ (s.rest l).link.settings = s.link.settings := by
  simp only [State.rest]; split <;> simp

@[simp] theorem State.tryIdle_frame (l : LaneNo) :
    (s.tryIdle l).pending = s.pending ∧ (s.tryIdle l).now = s.now ∧ (s.tryIdle l).draws = s.draws ∧
    (s.tryIdle l).bank = s.bank ∧ (s.tryIdle l).trunk = s.trunk ∧ (s.tryIdle l).mge = s.mge ∧
    (s.tryIdle l).policy = s.policy ∧ (s.tryIdle l).table = s.table ∧ (s.tryIdle l).zones = s.zones ∧
    (s.tryIdle l).pairs = s.pairs ∧ (s.tryIdle l).peers = s.peers ∧ (s.tryIdle l).log = s.log ∧
    (s.tryIdle l).evu = s.evu ∧ (s.tryIdle l).bcm = s.bcm ∧ (s.tryIdle l).link.settings = s.link.settings := by
  simp only [State.tryIdle]; (repeat' split) <;> simp

@[simp] theorem State.offerIdle_frame (l : LaneNo) :
    (s.offerIdle l).pending = s.pending ∧ (s.offerIdle l).now = s.now ∧ (s.offerIdle l).draws = s.draws ∧
    (s.offerIdle l).bank = s.bank ∧ (s.offerIdle l).trunk = s.trunk ∧ (s.offerIdle l).mge = s.mge ∧
    (s.offerIdle l).policy = s.policy ∧ (s.offerIdle l).table = s.table ∧ (s.offerIdle l).zones = s.zones ∧
    (s.offerIdle l).pairs = s.pairs ∧ (s.offerIdle l).peers = s.peers ∧ (s.offerIdle l).log = s.log ∧
    (s.offerIdle l).evu = s.evu ∧ (s.offerIdle l).bcm = s.bcm ∧ (s.offerIdle l).link.settings = s.link.settings := by
  unfold State.offerIdle; split <;> simp

@[simp] theorem State.closeLane_frame (l : LaneNo) :
    (s.closeLane l).pending = s.pending ∧ (s.closeLane l).now = s.now ∧ (s.closeLane l).draws = s.draws ∧
    (s.closeLane l).bank = s.bank ∧ (s.closeLane l).trunk = s.trunk ∧ (s.closeLane l).mge = s.mge ∧
    (s.closeLane l).policy = s.policy ∧ (s.closeLane l).table = s.table ∧ (s.closeLane l).zones = s.zones ∧
    (s.closeLane l).pairs = s.pairs ∧ (s.closeLane l).peers = s.peers ∧ (s.closeLane l).log = s.log ∧
    (s.closeLane l).evu = s.evu ∧ (s.closeLane l).bcm = s.bcm ∧ (s.closeLane l).link.settings = s.link.settings := by
  unfold State.closeLane; split <;> simp

@[simp] theorem State.openLane_frame (l : LaneNo) (k : Option Key) (res : DecisionResult) :
    (s.openLane l k res).pending = s.pending ∧ (s.openLane l k res).now = s.now ∧ (s.openLane l k res).draws = s.draws ∧
    (s.openLane l k res).bank = s.bank ∧ (s.openLane l k res).trunk = s.trunk ∧ (s.openLane l k res).mge = s.mge ∧
    (s.openLane l k res).policy = s.policy ∧ (s.openLane l k res).table = s.table ∧
    (s.openLane l k res).zones = s.zones ∧ (s.openLane l k res).pairs = s.pairs ∧ (s.openLane l k res).peers = s.peers ∧
    (s.openLane l k res).log = s.log ∧ (s.openLane l k res).evu = s.evu ∧ (s.openLane l k res).bcm = s.bcm ∧
    (s.openLane l k res).link.settings = s.link.settings := by
  simp [State.openLane]

@[simp] theorem State.sendRefusal_frame (l : LaneNo) (v : Verdict) (c : Option TicketClass) :
    (s.sendRefusal l v c).pending = s.pending ∧ (s.sendRefusal l v c).now = s.now ∧
    (s.sendRefusal l v c).draws = s.draws ∧ (s.sendRefusal l v c).bank = s.bank ∧
    (s.sendRefusal l v c).trunk = s.trunk ∧ (s.sendRefusal l v c).mge = s.mge ∧
    (s.sendRefusal l v c).policy = s.policy ∧ (s.sendRefusal l v c).table = s.table ∧
    (s.sendRefusal l v c).zones = s.zones ∧ (s.sendRefusal l v c).pairs = s.pairs ∧
    (s.sendRefusal l v c).peers = s.peers ∧ (s.sendRefusal l v c).log = s.log ∧ (s.sendRefusal l v c).evu = s.evu ∧
    (s.sendRefusal l v c).bcm = s.bcm ∧ (s.sendRefusal l v c).link.settings = s.link.settings := by
  simp only [State.sendRefusal]; split <;> simp

@[simp] theorem State.refuse_frame (l : LaneNo) (e : Option Reason) (k : Option Key) (c : Option TicketClass) (u : Option Nat) :
    (s.refuse l e k c u).pending = s.pending ∧ (s.refuse l e k c u).now = s.now ∧ (s.refuse l e k c u).draws = s.draws ∧
    (s.refuse l e k c u).bank = s.bank ∧ (s.refuse l e k c u).trunk = s.trunk ∧ (s.refuse l e k c u).mge = s.mge ∧
    (s.refuse l e k c u).policy = s.policy ∧ (s.refuse l e k c u).table = s.table ∧
    (s.refuse l e k c u).pairs = s.pairs ∧ (s.refuse l e k c u).peers = s.peers ∧
    (s.refuse l e k c u).link.settings = s.link.settings ∧ (s.refuse l e k c u).bcm.clock = s.bcm.clock ∧
    (s.refuse l e k c u).bcm.tick = s.bcm.tick ∧ (s.refuse l e k c u).bcm.code = s.bcm.code ∧
    (s.refuse l e k c u).bcm.schedule = s.bcm.schedule ∧ (s.refuse l e k c u).bcm.requested = s.bcm.requested ∧
    (s.refuse l e k c u).bcm.entering = s.bcm.entering ∧ (s.refuse l e k c u).bcm.surge = s.bcm.surge ∧
    (s.refuse l e k c u).bcm.wakeOffset = s.bcm.wakeOffset ∧ (s.refuse l e k c u).bcm.wakePattern = s.bcm.wakePattern := by
  simp [State.refuse]

@[simp] theorem State.setPhase_frame (p : MgePhase) :
    (s.setPhase p).pending = s.pending ∧ (s.setPhase p).now = s.now ∧ (s.setPhase p).draws = s.draws ∧
    (s.setPhase p).bank = s.bank ∧ (s.setPhase p).trunk = s.trunk ∧ (s.setPhase p).policy = s.policy ∧
    (s.setPhase p).table = s.table ∧ (s.setPhase p).zones = s.zones ∧ (s.setPhase p).lanes = s.lanes ∧
    (s.setPhase p).pairs = s.pairs ∧ (s.setPhase p).link = s.link ∧ (s.setPhase p).peers = s.peers ∧
    (s.setPhase p).log = s.log ∧ (s.setPhase p).evu = s.evu ∧ (s.setPhase p).bcm = s.bcm := by
  simp [State.setPhase]

@[simp] theorem State.pushReply_frame (f : TxFrame) :
    (s.pushReply f).pending = s.pending ∧ (s.pushReply f).now = s.now ∧ (s.pushReply f).draws = s.draws ∧
    (s.pushReply f).bank = s.bank ∧ (s.pushReply f).mge = s.mge ∧ (s.pushReply f).policy = s.policy ∧
    (s.pushReply f).table = s.table ∧ (s.pushReply f).zones = s.zones ∧ (s.pushReply f).lanes = s.lanes ∧
    (s.pushReply f).pairs = s.pairs ∧ (s.pushReply f).link = s.link ∧ (s.pushReply f).peers = s.peers ∧
    (s.pushReply f).log = s.log ∧ (s.pushReply f).evu = s.evu ∧ (s.pushReply f).bcm = s.bcm := by
  simp [State.pushReply]

/-! ## Replies -/

/-- Placing the parts of a reply touches the Trunk Port and the engine alone. -/
theorem State.placeParts_eq (n : Nat) (r : ReplyRest) :
    s.placeParts n r = { s with trunk := (s.placeParts n r).trunk, mge := (s.placeParts n r).mge } := by
  induction n generalizing r s with
  | zero => rfl
  | succ n ih =>
    simp only [State.placeParts]
    split
    · split
      · rfl
      · rw [ih]; rfl
    · rfl

@[simp] theorem State.placeParts_frame (n : Nat) (r : ReplyRest) :
    (s.placeParts n r).pending = s.pending ∧ (s.placeParts n r).now = s.now ∧ (s.placeParts n r).draws = s.draws ∧
    (s.placeParts n r).bank = s.bank ∧ (s.placeParts n r).policy = s.policy ∧ (s.placeParts n r).table = s.table ∧
    (s.placeParts n r).zones = s.zones ∧ (s.placeParts n r).lanes = s.lanes ∧ (s.placeParts n r).pairs = s.pairs ∧
    (s.placeParts n r).link = s.link ∧ (s.placeParts n r).peers = s.peers ∧ (s.placeParts n r).log = s.log ∧
    (s.placeParts n r).evu = s.evu ∧ (s.placeParts n r).bcm = s.bcm := by
  rw [State.placeParts_eq]; exact ⟨rfl, rfl, rfl, rfl, rfl, rfl, rfl, rfl, rfl, rfl, rfl, rfl, rfl, rfl⟩

@[simp] theorem State.sendReply_frame (h : ReplyHead) (r : Reply) :
    (s.sendReply h r).pending = s.pending ∧ (s.sendReply h r).now = s.now ∧ (s.sendReply h r).draws = s.draws ∧
    (s.sendReply h r).bank = s.bank ∧ (s.sendReply h r).policy = s.policy ∧ (s.sendReply h r).table = s.table ∧
    (s.sendReply h r).zones = s.zones ∧ (s.sendReply h r).lanes = s.lanes ∧ (s.sendReply h r).pairs = s.pairs ∧
    (s.sendReply h r).link = s.link ∧ (s.sendReply h r).peers = s.peers ∧ (s.sendReply h r).log = s.log ∧
    (s.sendReply h r).evu = s.evu ∧ (s.sendReply h r).bcm = s.bcm := by
  simp [State.sendReply]

@[simp] theorem State.endAccess_frame (h : ReplyHead) (l : LaneNo) (v : Option (BitVec 16)) :
    (s.endAccess h l v).pending = s.pending ∧ (s.endAccess h l v).now = s.now ∧ (s.endAccess h l v).draws = s.draws ∧
    (s.endAccess h l v).bank = s.bank ∧ (s.endAccess h l v).policy = s.policy ∧ (s.endAccess h l v).table = s.table ∧
    (s.endAccess h l v).zones = s.zones ∧ (s.endAccess h l v).lanes = s.lanes ∧ (s.endAccess h l v).pairs = s.pairs ∧
    (s.endAccess h l v).peers = s.peers ∧ (s.endAccess h l v).log = s.log ∧
    (s.endAccess h l v).link.settings = s.link.settings ∧ (s.endAccess h l v).bcm.clock = s.bcm.clock ∧
    (s.endAccess h l v).bcm.tick = s.bcm.tick ∧ (s.endAccess h l v).bcm.code = s.bcm.code ∧
    (s.endAccess h l v).bcm.schedule = s.bcm.schedule ∧ (s.endAccess h l v).bcm.requested = s.bcm.requested ∧
    (s.endAccess h l v).bcm.entering = s.bcm.entering ∧ (s.endAccess h l v).bcm.surge = s.bcm.surge ∧
    (s.endAccess h l v).bcm.wakeOffset = s.bcm.wakeOffset ∧ (s.endAccess h l v).bcm.wakePattern = s.bcm.wakePattern := by
  simp [State.endAccess]

@[simp] theorem State.failAccess_frame (l : LaneNo) :
    (s.failAccess l).pending = s.pending ∧ (s.failAccess l).now = s.now ∧ (s.failAccess l).draws = s.draws ∧
    (s.failAccess l).bank = s.bank ∧ (s.failAccess l).policy = s.policy ∧ (s.failAccess l).table = s.table ∧
    (s.failAccess l).zones = s.zones ∧ (s.failAccess l).lanes = s.lanes ∧ (s.failAccess l).pairs = s.pairs ∧
    (s.failAccess l).peers = s.peers ∧ (s.failAccess l).log = s.log ∧ (s.failAccess l).link.settings = s.link.settings ∧
    (s.failAccess l).bcm.clock = s.bcm.clock ∧ (s.failAccess l).bcm.tick = s.bcm.tick ∧
    (s.failAccess l).bcm.code = s.bcm.code ∧ (s.failAccess l).bcm.schedule = s.bcm.schedule ∧
    (s.failAccess l).bcm.requested = s.bcm.requested ∧ (s.failAccess l).bcm.entering = s.bcm.entering ∧
    (s.failAccess l).bcm.surge = s.bcm.surge ∧ (s.failAccess l).bcm.wakeOffset = s.bcm.wakeOffset ∧
    (s.failAccess l).bcm.wakePattern = s.bcm.wakePattern := by
  unfold State.failAccess; (repeat' split) <;> simp

@[simp] theorem State.pushReport_frame (k : FrameKind) (b : Body) :
    (s.pushReport k b).pending = s.pending ∧ (s.pushReport k b).now = s.now ∧ (s.pushReport k b).draws = s.draws ∧
    (s.pushReport k b).bank = s.bank ∧ (s.pushReport k b).mge = s.mge ∧ (s.pushReport k b).policy = s.policy ∧
    (s.pushReport k b).table = s.table ∧ (s.pushReport k b).zones = s.zones ∧ (s.pushReport k b).lanes = s.lanes ∧
    (s.pushReport k b).pairs = s.pairs ∧ (s.pushReport k b).link = s.link ∧ (s.pushReport k b).peers = s.peers ∧
    (s.pushReport k b).log = s.log ∧ (s.pushReport k b).evu = s.evu ∧ (s.pushReport k b).bcm = s.bcm := by
  simp [State.pushReport]

end Sys2Proof.Machine
end

