-- ==== Sys2Proof/Laws/Effects.lean ====
section
/-! SUPPORT. What the shared operations on lanes, slots and zones do, entry by entry. -/

namespace Sys2Proof.Machine

set_option Elab.async false

variable (s : State)

/-! ## Saturating counts -/

theorem sat16_eq (n : Nat) : sat16 n = min 65535 (n + 1) := by unfold sat16; split <;> omega

theorem sat8_eq (n : Nat) : sat8 n = min 255 (n + 1) := by unfold sat8; split <;> omega

/-! ## The slots of a lane (R79, R89) -/

theorem isUpper_upperLane (k : Fin 8) : isUpper (upperLane k) = true := by revert k; decide

theorem isUpper_lowerLane (k : Fin 8) : isUpper (lowerLane k) = false := by revert k; decide

theorem upperLane_ne {l : LaneNo} (h : isUpper l = false) : upperLane (pairOf l) ≠ l := by
  intro e
  rw [← e, isUpper_upperLane] at h
  cases h

/-- A lane's slots are one or two different slots, its own among them. -/
theorem State.slotsOf_cases (l : LaneNo) :
    s.slotsOf l = [l] ∨ (s.combined l = true ∧ isUpper l = false ∧ s.slotsOf l = [l, upperLane (pairOf l)] ∧
      upperLane (pairOf l) ≠ l) := by
  unfold State.slotsOf
  split
  · rename_i h
    simp only [Bool.and_eq_true, Bool.not_eq_true'] at h
    exact .inr ⟨h.1, h.2, rfl, upperLane_ne h.2⟩
  · exact .inl rfl

theorem State.self_mem_slotsOf (l : LaneNo) : l ∈ s.slotsOf l := by
  rcases s.slotsOf_cases l with h | ⟨_, _, h, _⟩ <;> simp [h]

/-- A command queued in every slot of a lane changes those slots and no other. -/
theorem State.slot_foldl_modSlot (f : Slot → Slot) (l k : LaneNo) :
    ((s.slotsOf l).foldl (fun t x => t.modSlot x f) s).slot k = if k ∈ s.slotsOf l then f (s.slot k) else s.slot k := by
  rcases s.slotsOf_cases l with h | ⟨_, _, h, hne⟩
  · rw [h]
    by_cases e : k = l
    · subst e; simp
    · simp [e]
  · rw [h]
    by_cases e : k = l
    · subst e; simp [hne.symm]
    · by_cases e' : k = upperLane (pairOf l)
      · subst e'; simp [e]
      · simp [e, e']

@[simp] theorem State.slot_queueVerdict (l k : LaneNo) (v : VerdictCommand) :
    (s.queueVerdict l v).slot k = if k ∈ s.slotsOf l then Slot.queueVerdict v (s.slot k) else s.slot k :=
  s.slot_foldl_modSlot _ l k

@[simp] theorem State.slot_queueLamp (l k : LaneNo) (d : Display) :
    (s.queueLamp l d).slot k = if k ∈ s.slotsOf l then Slot.queueLamp d (s.slot k) else s.slot k :=
  s.slot_foldl_modSlot _ l k

@[simp] theorem State.slot_endVerdict (l k : LaneNo) :
    (s.endVerdict l).slot k = if k ∈ s.slotsOf l then Slot.endVerdict (s.slot k) else s.slot k :=
  s.slot_foldl_modSlot _ l k

@[simp] theorem State.lane_endVerdict (l k : LaneNo) : (s.endVerdict l).lane k = s.lane k := by
  simp [State.lane]

@[simp] theorem State.lane_queueVerdict (l k : LaneNo) (v : VerdictCommand) : (s.queueVerdict l v).lane k = s.lane k := by
  simp [State.lane]

@[simp] theorem State.lane_queueLamp (l k : LaneNo) (d : Display) : (s.queueLamp l d).lane k = s.lane k := by
  simp [State.lane]

/-- A lane's slots rest on the pairs alone. -/
theorem State.slotsOf_congr {s t : State} (h : t.pairs = s.pairs) (l : LaneNo) : t.slotsOf l = s.slotsOf l := by
  have hc : t.combined l = s.combined l := by simp only [State.combined, h]
  unfold State.slotsOf
  rw [hc]

@[simp] theorem State.slotsOf_modLane (l m : LaneNo) (f : Lane → Lane) : (s.modLane l f).slotsOf m = s.slotsOf m := rfl

@[simp] theorem State.slotsOf_queueVerdict (l m : LaneNo) (v : VerdictCommand) :
    (s.queueVerdict l v).slotsOf m = s.slotsOf m := State.slotsOf_congr (by simp) m

@[simp] theorem State.slotsOf_endVerdict (l m : LaneNo) : (s.endVerdict l).slotsOf m = s.slotsOf m :=
  State.slotsOf_congr (by simp) m

/-- The end of an undelivered verdict changes the slots of the lane link and nothing else. -/
theorem State.endVerdict_eq (l : LaneNo) :
    s.endVerdict l = { s with link := { s.link with slots := (s.endVerdict l).link.slots } } := by
  rw [State.endVerdict, State.foldl_modSlot]

/-- The end of an undelivered verdict rests on the pairs and the slots alone. -/
theorem State.endVerdict_congr {s t : State} (hp : t.pairs = s.pairs) (hs : t.link.slots = s.link.slots) (l : LaneNo) :
    (t.endVerdict l).link.slots = (s.endVerdict l).link.slots := by
  have h₀ (k : LaneNo) : t.slot k = s.slot k := by rw [State.slot, hs, State.slot]
  have h (k : LaneNo) : (t.endVerdict l).slot k = (s.endVerdict l).slot k := by
    rw [State.slot_endVerdict, State.slot_endVerdict, State.slotsOf_congr hp, h₀]
  exact Vector.ext fun i hi => h ⟨i, hi⟩

/-- A verdict newly queued is not undelivered. -/
@[simp] theorem Slot.endVerdict_queueVerdict (v : VerdictCommand) (k : Slot) :
    (k.queueVerdict v).endVerdict = k.queueVerdict v := rfl

/-- Nothing undelivered waits once it has ended. -/
@[simp] theorem Slot.endVerdict_undelivered (k : Slot) : k.endVerdict.undelivered = false := by
  cases h : k.undelivered <;> simp [Slot.endVerdict, h]

@[simp] theorem State.slotsOf_adopt (l m : LaneNo) : (s.adopt l).slotsOf m = s.slotsOf m := rfl

/-- A queued verdict changes the slots of the lane link and nothing else. -/
theorem State.queueVerdict_eq (l : LaneNo) (v : VerdictCommand) :
    s.queueVerdict l v = { s with link := { s.link with slots := (s.queueVerdict l v).link.slots } } := by
  rw [State.queueVerdict, State.foldl_modSlot]

/-- A queued Lamp command changes the slots of the lane link and nothing else. -/
theorem State.queueLamp_eq (l : LaneNo) (d : Display) :
    s.queueLamp l d = { s with link := { s.link with slots := (s.queueLamp l d).link.slots } } := by
  rw [State.queueLamp, State.foldl_modSlot]

/-! ## Adoption, IDLE and CLOSED (R77, R78) -/

@[simp] theorem State.lane_adopt (l k : LaneNo) :
    (s.adopt l).lane k = if k = l then Lane.adopted s.policy (s.lane l) else s.lane k := by simp [State.adopt]

@[simp] theorem State.slot_adopt (l k : LaneNo) : (s.adopt l).slot k = s.slot k := rfl

@[simp] theorem State.lane_enterIdle (l k : LaneNo) :
    (s.enterIdle l).lane k = if k = l then Lane.cleared .idle (s.lane l) else s.lane k := by simp [State.enterIdle]

@[simp] theorem State.slot_enterIdle (l k : LaneNo) :
    (s.enterIdle l).slot k = if k ∈ s.slotsOf l then Slot.queueLamp .ready (s.slot k).endVerdict else s.slot k := by
  unfold State.enterIdle
  by_cases e : k ∈ s.slotsOf l <;> simp [e]

@[simp] theorem State.lane_enterClosed (l k : LaneNo) :
    (s.enterClosed l).lane k = if k = l then Lane.cleared .closed (s.lane l) else s.lane k := by simp [State.enterClosed]

@[simp] theorem State.slot_enterClosed (l k : LaneNo) :
    (s.enterClosed l).slot k = if k ∈ s.slotsOf l then Slot.queueLamp .closed (s.slot k).endVerdict else s.slot k := by
  unfold State.enterClosed
  by_cases e : k ∈ s.slotsOf l <;> simp [e]

/-- A lane that comes to rest is IDLE or CLOSED with what waits in force, and every other lane is as it was. -/
theorem State.lane_rest (l k : LaneNo) :
    (s.rest l).lane k =
      if k = l then Lane.cleared (if (s.adopt l).mayIdle l then .idle else .closed) (Lane.adopted s.policy (s.lane l))
      else s.lane k := by
  unfold State.rest
  by_cases h : (s.adopt l).mayIdle l = true <;> by_cases e : k = l <;> simp [h, e]

/-- A lane that comes to rest queues its display, and an undelivered verdict in its slots is discarded (R126). -/
theorem State.slot_rest (l k : LaneNo) :
    (s.rest l).slot k =
      if k ∈ s.slotsOf l then Slot.queueLamp (if (s.adopt l).mayIdle l then .ready else .closed) (s.slot k).endVerdict
      else s.slot k := by
  unfold State.rest
  by_cases h : (s.adopt l).mayIdle l = true <;> by_cases e : k ∈ s.slotsOf l <;> simp [h, e]

/-! ## Verdicts at the lane (R54, R80, R85) -/

theorem State.lane_openLane (l k : LaneNo) (key : Option Key) (res : DecisionResult) :
    (s.openLane l key res).lane k = if k = l then Lane.opening key res (s.lane l) else s.lane k := by
  simp [State.openLane]

theorem State.slot_openLane (l k : LaneNo) (key : Option Key) (res : DecisionResult) :
    (s.openLane l key res).slot k =
      if k ∈ s.slotsOf l then
        Slot.queueVerdict (.grant (s.lane l).granted (s.lane l).profile.passWindow) (s.slot k)
      else s.slot k := by
  unfold State.openLane
  by_cases e : k ∈ s.slotsOf l <;> simp [e]

/-- A Grant changes the lane and its slots and nothing else. -/
theorem State.openLane_eq (l : LaneNo) (key : Option Key) (res : DecisionResult) :
    s.openLane l key res = { s with
      lanes := (s.openLane l key res).lanes, link := { s.link with slots := (s.openLane l key res).link.slots } } := by
  simp only [State.openLane]
  rw [State.queueVerdict_eq]
  rfl

theorem State.lane_sendRefusal (l k : LaneNo) (v : Verdict) (cls : Option TicketClass) :
    (s.sendRefusal l v cls).lane k =
      if k = l then
        let n := { s.lane l with counts := (s.lane l).counts.refused v }
        if s.bcm.mode = .opened then Lane.refusing v cls n else Lane.cleared .closed (Lane.adopted s.policy n)
      else s.lane k := by
  unfold State.sendRefusal
  by_cases h : s.bcm.mode = .opened <;> by_cases e : k = l <;> simp [h, e]

theorem State.slot_sendRefusal (l k : LaneNo) (v : Verdict) (cls : Option TicketClass) :
    (s.sendRefusal l v cls).slot k =
      if k ∈ s.slotsOf l then
        let x := Slot.queueVerdict (refusalCommand v (s.lane l).profile.display) (s.slot k)
        if s.bcm.mode = .opened then x else Slot.queueLamp .closed x
      else s.slot k := by
  unfold State.sendRefusal
  by_cases h : s.bcm.mode = .opened <;> by_cases e : k ∈ s.slotsOf l <;> simp [h, e]

/-- A Refuse or Refer changes the lane and its slots and nothing else. -/
theorem State.sendRefusal_eq (l : LaneNo) (v : Verdict) (cls : Option TicketClass) :
    s.sendRefusal l v cls = { s with
      lanes := (s.sendRefusal l v cls).lanes, link := { s.link with slots := (s.sendRefusal l v cls).link.slots } } := by
  by_cases h : s.bcm.mode = .opened
  · simp only [State.sendRefusal, h, if_true]
    rw [State.queueVerdict_eq]
    rfl
  · simp only [State.sendRefusal, h, if_false, State.enterClosed]
    rw [State.queueLamp_eq, State.endVerdict_eq, State.queueVerdict_eq]
    rfl

/-! ## Zones (R62 to R66) -/

@[simp] theorem State.zone_modZone (z x : ZoneNo) (f : Zone → Zone) :
    (s.modZone z f).zone x = if x = z then f (s.zone z) else s.zone x := by simp [State.zone]

@[simp] theorem State.zone_reportFull (z x : ZoneNo) : (s.reportFull z).zone x = s.zone x := by
  unfold State.reportFull
  split <;> simp [State.zone]

@[simp] theorem State.zone_reserve (l : LaneNo) (z x : ZoneNo) :
    (s.reserve l z).zone x = if x = z then (s.zone z).reserved else s.zone x := by simp [State.reserve]

@[simp] theorem State.lane_reserve (l k : LaneNo) (z : ZoneNo) :
    (s.reserve l z).lane k = if k = l then { s.lane l with reservation := some z } else s.lane k := by
  have h : ∀ m, ((s.modZone z Zone.reserved).reportFull z).lane m = s.lane m := fun m => by
    unfold State.reportFull
    split <;> simp [State.lane]
  simp [State.reserve, h]

theorem State.zone_release (l : LaneNo) (x : ZoneNo) :
    (s.release l).zone x = if (s.lane l).reservation = some x then (s.zone x).released else s.zone x := by
  unfold State.release
  split <;> rename_i h
  · rename_i z
    by_cases e : x = z
    · subst e; simp [h]
    · simp [h, e, Ne.symm e]
  · simp [h]

theorem State.lane_release (l k : LaneNo) :
    (s.release l).lane k = if k = l then { s.lane l with reservation := none } else s.lane k := by
  unfold State.release
  split <;> rename_i h
  · by_cases e : k = l <;> simp [e, State.lane]
  · by_cases e : k = l
    · subst e; simp [← h]
    · simp [e]

@[simp] theorem State.slot_release (l k : LaneNo) : (s.release l).slot k = s.slot k := by simp [State.slot]

theorem State.zone_commitZone (l : LaneNo) (x : ZoneNo) :
    (s.commitZone l).zone x = if (s.lane l).reservation = some x then (s.zone x).committed else s.zone x := by
  unfold State.commitZone
  split <;> rename_i h
  · rename_i z
    by_cases e : x = z
    · subst e; simp [h]
    · simp [h, e, Ne.symm e]
  · simp [h]

end Sys2Proof.Machine
end

