-- ==== Sys2Proof/Laws/LaneReplies.lean ====
section
/-! SUPPORT. What a good report, and a failed reply to a Test, do at an Active slot (R125 to R127, R135). -/

namespace Sys2Proof.Machine

set_option Elab.async false

variable (s : State) (l : LaneNo)

/-- A new report of an Active slot acts, counts at a mate mark, and the slot ends. -/
theorem State.goodReply_active (n : Fin 16) (r : Report) (hl : s.listens l .active) (hn : (s.slot l).lastNumber ≠ some n)
    (hr : ∀ u, r ≠ .hello u) : s.goodReply l n r = (((s.heardReport l n).handOn l r).countMate l).thenSlotEnds l := by
  obtain ⟨h1, h2, h3, h4, h5, h6, h7⟩ := hl
  have ha : s.awaits l = true := by simp [State.awaits, h1, h2, h3]
  have hd : (s.slot l).discards = false := by simp [Slot.discards, h6]
  have hj : ∀ o, (s.modSlot l (Slot.heard n)).judge l o = s.modSlot l (Slot.heard n) := by
    intro o
    simp only [State.judge, State.slot_modSlot, if_true, Slot.heard]
  have hk : ((s.modSlot l (Slot.heard n)).slot l).link = .active := by simp [Slot.heard, h5]
  simp only [State.goodReply, ha, if_true, hd, State.heard, decide_eq_true hn, State.byLink, State.thenSlotEnds,
    Bool.false_eq_true, if_false]
  rw [hk]
  cases r <;> simp only [State.activeReport, hj, if_true] <;>
    first | (rw [State.modSlot_modSlot]; rfl) | exact absurd rfl (hr _)

/-- A missing reply to a Test counts a mismatch while the test runs, and makes no Repeat due in either case. -/
theorem State.noReply_test (w : BitVec 16) (ha : s.awaits l = true) (h4 : (s.slot l).link = .active)
    (h5 : (s.slot l).sent = some (.test w)) :
    s.noReply l = (s.modSlot l fun k => { k with
      mismatches := if s.link.testing.isSome then min 65535 (k.mismatches + 1) else k.mismatches,
      failureRun := min 4 (k.failureRun + 1), repeatDue := false }).endSlot l := by
  have hd : (s.slot l).discards = false := by simp [Slot.discards, h5]
  have hc : (s.link.slots.get l).carriedTest = true := by
    have h : (s.link.slots.get l).sent = some (.test w) := h5
    simp [Slot.carriedTest, h]
  cases ht : s.link.testing.isSome
  · have hn : s.link.testing.isNone = true := by cases h : s.link.testing <;> simp_all
    simp only [State.noReply, ha, if_true, hd, Bool.false_eq_true, if_false, State.failure, h4, State.judge, h5, hn, true_or]
    congr 1
    simp only [State.modSlot, upd, Slot.failed]
    simp [hc]
  · have hn : s.link.testing.isNone = false := by cases h : s.link.testing <;> simp_all
    simp only [State.noReply, ha, if_true, hd, Bool.false_eq_true, if_false, State.failure, h4, State.judge, h5, hn,
      false_or, reduceCtorEq]
    rw [State.modSlot_modSlot]
    congr 1
    simp only [State.modSlot, upd, Slot.failed, Slot.mismatched, sat16_eq, ht]
    simp

end Sys2Proof.Machine
end

