-- ==== Sys2Proof/Laws/Requests.lean ====
section
/-! SUPPORT. What serving a request does (R173 to R175), said once for all 35 requests. -/

namespace Sys2Proof.Machine

/-- The request at the head is the one that the idle engine begins. -/
theorem State.nextRequest_asked {s : State} {r : Request} (hp : s.mge.phase = .idle) (hq : s.mge.queue.head? = some r) :
    s.nextRequest = some r := by
  unfold State.nextRequest
  cases h : s.mge.queue with
  | nil => simp [h] at hq
  | cons a as =>
    simp only [h, List.head?_cons, Option.some.injEq] at hq
    simp [hp, hq]

/-- A request with its fields in a mode in which it is taken acts by its own rule. -/
theorem State.serveWith_asked {α : Type} {s : State} {r : Request} {code : Nat} {m : Taken} {rd : Reader α}
    {act : ReplyHead → α → State → State} {fields : List Byte} {x : α × List Byte} (h : s.asked r code fields)
    (hr : rd fields = some x) (hm : m.holds s.bcm.mode = true) :
    s.serveWith code m rd act = act (r.head code) x.1 s.beginRequest := by
  obtain ⟨hp, hq, hf⟩ := h
  simp [State.serveWith, State.nextRequest_asked hp hq, hf, hr, hm]

/-- A request that replies as soon as it has executed. -/
theorem State.serve_asked {α : Type} {s : State} {r : Request} {code : Nat} {m : Taken} {rd : Reader α}
    {f : α → State → State × Reply} {fields : List Byte} {x : α × List Byte} (h : s.asked r code fields)
    (hr : rd fields = some x) (hm : m.holds s.bcm.mode = true) :
    s.serve code m rd f = r.answered code (f x.1 s.beginRequest).2 (f x.1 s.beginRequest).1 := by
  rw [State.serve, State.serveWith_asked h hr hm, Request.answered]

/-- A payload that ends before the request's fields is refused BAD_VALUE. -/
theorem State.serveWith_short {α : Type} {s : State} {r : Request} {code : Nat} {m : Taken} {rd : Reader α}
    {act : ReplyHead → α → State → State} {fields : List Byte} (h : s.asked r code fields) (hr : rd fields = none) :
    s.serveWith code m rd act = r.answered code (Reply.refuse .badValue) s.beginRequest := by
  obtain ⟨hp, hq, hf⟩ := h
  simp [State.serveWith, State.nextRequest_asked hp hq, hf, hr, Request.answered]

/-- A request in a mode in which it is not taken is refused WRONG_MODE. -/
theorem State.serveWith_wrongMode {α : Type} {s : State} {r : Request} {code : Nat} {m : Taken} {rd : Reader α}
    {act : ReplyHead → α → State → State} {fields : List Byte} {x : α × List Byte} (h : s.asked r code fields)
    (hr : rd fields = some x) (hm : m.holds s.bcm.mode = false) :
    s.serveWith code m rd act = r.answered code (Reply.refuse .wrongMode) s.beginRequest := by
  obtain ⟨hp, hq, hf⟩ := h
  simp [State.serveWith, State.nextRequest_asked hp hq, hf, hr, hm, Request.answered]

/-- Every mode but DEEP takes the requests of the active modes (R175). -/
theorem Taken.active_holds {m : BankMode} (h : m ≠ .deep) : Taken.active.holds m = true := by
  cases m <;> simp_all [Taken.holds]

@[simp] theorem Taken.service_holds : Taken.service.holds .service = true := rfl

@[simp] theorem State.beginRequest_frame (s : State) :
    s.beginRequest.pending = s.pending ∧ s.beginRequest.now = s.now ∧ s.beginRequest.draws = s.draws ∧
    s.beginRequest.bank = s.bank ∧ s.beginRequest.trunk = s.trunk ∧ s.beginRequest.policy = s.policy ∧
    s.beginRequest.table = s.table ∧ s.beginRequest.zones = s.zones ∧ s.beginRequest.lanes = s.lanes ∧
    s.beginRequest.pairs = s.pairs ∧ s.beginRequest.link = s.link ∧ s.beginRequest.peers = s.peers ∧
    s.beginRequest.log = s.log ∧ s.beginRequest.evu = s.evu ∧ s.beginRequest.bcm = s.bcm ∧
    s.beginRequest.mge = { s.mge with queue := s.mge.queue.tail } := by
  simp [State.beginRequest]

end Sys2Proof.Machine
end

