-- ==== Sys2Proof/Laws/Table.lean ====
section
/-! SUPPORT. The laws of the Entitlement Table's list of occupied slots: what a slot reads after a write, that a write leaves
every other slot alone, that every write keeps the canonical form, and what a lookup answers. -/

namespace Sys2Proof.Machine

/-! ## Read after write -/

theorem slotIn_putIn (n m : Nat) (r : Record) (xs : List (Nat × Record)) :
    slotIn m (putIn n r xs) = if m = n then some r else slotIn m xs := by
  induction xs with
  | nil => simp [putIn, slotIn, eq_comm]
  | cons x xs ih =>
    obtain ⟨k, q⟩ := x
    simp only [putIn]
    split
    · simp only [slotIn, eq_comm]
    · split
      · next h => subst h; simp only [slotIn]; split <;> simp_all [eq_comm]
      · next h1 h2 =>
        simp only [slotIn, ih]
        split
        · next h => subst h; simp [Ne.symm h2]
        · rfl

theorem slotIn_freeIn (n m : Nat) (xs : List (Nat × Record)) :
    slotIn m (freeIn n xs) = if m = n then none else slotIn m xs := by
  induction xs with
  | nil => simp [freeIn, slotIn]
  | cons x xs ih =>
    obtain ⟨k, q⟩ := x
    simp only [freeIn] at ih
    by_cases h : k = n
    · subst h
      simp only [freeIn, slotIn, ne_eq, not_true_eq_false, decide_false, List.filter_cons_of_neg, Bool.false_eq_true,
        not_false_eq_true, ih]
      by_cases e : k = m <;> simp [e]
    · simp only [freeIn, slotIn, ne_eq, h, not_false_eq_true, decide_true, List.filter_cons_of_pos, ih]
      by_cases e : k = m
      · subst e; simp [h]
      · simp [e]

@[simp] theorem Table.slotAt_put (t : Table) (n m : Nat) (r : Record) :
    (t.put n r).slotAt m = if m = n then some r else t.slotAt m := slotIn_putIn n m r t.slots

@[simp] theorem Table.slotAt_free (t : Table) (n m : Nat) :
    (t.free n).slotAt m = if m = n then none else t.slotAt m := slotIn_freeIn n m t.slots

/-! ## The canonical form -/

theorem mem_putIn {n : Nat} {r : Record} {xs : List (Nat × Record)} {x : Nat × Record} (h : x ∈ putIn n r xs) :
    x = (n, r) ∨ x ∈ xs := by
  induction xs with
  | nil => simpa [putIn] using h
  | cons y ys ih =>
    obtain ⟨k, q⟩ := y
    simp only [putIn] at h
    split at h
    · simpa using h
    · split at h
      · rcases List.mem_cons.1 h with e | e
        · exact .inl e
        · exact .inr (List.mem_cons_of_mem _ e)
      · rcases List.mem_cons.1 h with e | e
        · exact .inr (e ▸ List.mem_cons_self ..)
        · exact (ih e).imp id (List.mem_cons_of_mem _)

/-- Writing a slot keeps the slot numbers strictly rising. -/
theorem Table.put_sorted {t : Table} (n : Nat) (r : Record) (h : t.sorted) : (t.put n r).sorted := by
  suffices ∀ xs : List (Nat × Record), (xs.map (·.1)).Pairwise (· < ·) → ((putIn n r xs).map (·.1)).Pairwise (· < ·) from
    this _ h
  intro xs
  induction xs with
  | nil => intro _; simp [putIn]
  | cons y ys ih =>
    obtain ⟨k, q⟩ := y
    intro hs
    simp only [List.map_cons, List.pairwise_cons, List.mem_map, forall_exists_index, and_imp] at hs
    obtain ⟨h1, h2⟩ := hs
    simp only [putIn]
    split
    · next hk =>
      simp only [List.map_cons, List.pairwise_cons, List.mem_cons, List.mem_map, forall_eq_or_imp, forall_exists_index, and_imp]
      exact ⟨⟨hk, fun a x hx e => lt_trans hk (h1 a x hx e)⟩, h1, h2⟩
    · split
      · next hk =>
        subst hk
        simp only [List.map_cons, List.pairwise_cons, List.mem_map, forall_exists_index, and_imp]
        exact ⟨h1, h2⟩
      · next hk1 hk2 =>
        simp only [List.map_cons, List.pairwise_cons, List.mem_map, forall_exists_index, and_imp]
        refine ⟨fun a x hx e => ?_, ih h2⟩
        rcases mem_putIn hx with e' | e'
        · rw [← e, e']; simp only; omega
        · exact h1 a x e' e

/-- Freeing a slot keeps the slot numbers strictly rising. -/
theorem Table.free_sorted {t : Table} (n : Nat) (h : t.sorted) : (t.free n).sorted :=
  List.Pairwise.sublist (List.Sublist.map _ List.filter_sublist) h

/-- In the canonical form a slot reads the record that the list gives it. -/
theorem Table.slotAt_eq_some_iff {t : Table} (h : t.sorted) (n : Nat) (r : Record) : t.slotAt n = some r ↔ (n, r) ∈ t.slots := by
  suffices ∀ xs : List (Nat × Record), (xs.map (·.1)).Pairwise (· < ·) → (slotIn n xs = some r ↔ (n, r) ∈ xs) from this _ h
  intro xs
  induction xs with
  | nil => simp [slotIn]
  | cons x xs ih =>
    obtain ⟨k, p⟩ := x
    intro hs
    simp only [List.map_cons, List.pairwise_cons] at hs
    simp only [slotIn]
    split
    · next e =>
      subst e
      simp only [Option.some.injEq, List.mem_cons, Prod.mk.injEq, true_and]
      constructor
      · exact fun e => .inl e.symm
      · rintro (e | e)
        · exact e.symm
        · have := hs.1 k (List.mem_map.2 ⟨_, e, rfl⟩); omega
    · next e => rw [ih hs.2]; simp [List.mem_cons, Ne.symm e]

/-! ## Lookup -/

/-- A record that a lookup finds stands in the slot answered, has the key, and the slot is in the probe sequence; no sweep
runs. -/
theorem Table.lookup_some {t : Table} {k : Key} {n : Nat} {r : Record} (h : t.lookup k = some (n, r)) :
    t.slotAt n = some r ∧ r.key = k ∧ n ∈ t.probeSlots k ∧ t.sweeping = false := by
  unfold Table.lookup at h
  split at h
  · cases h
  · next hs =>
    obtain ⟨m, hm, hx⟩ := List.exists_of_findSome?_eq_some h
    split at hx
    · next q hq =>
      split at hx
      · next hk => cases hx; exact ⟨hq, hk, hm, by simpa using hs⟩
      · cases hx
    · cases hx

end Sys2Proof.Machine
end

