-- ==== Sys2Proof/WellFormed.lean ====
section
/-! DEFINITION. Which commands are well formed: what a party on either link can send at all. -/

namespace Sys2Proof

/-- A frame whose payload length fits its length field (R164). -/
def FrameFields.wf (f : FrameFields) : Bool := decide (f.payload.length < 65536)

/-- A key that a presentation can give: a Barcode value of at most 14 digits, a Card value of at most 80 bits (R12, R13). -/
def Key.wf (k : Key) : Bool :=
  match k.kind with
  | .barcode => decide (k.value ≤ Config.barcodeKeyMax)
  | .card => decide (k.value < 2 ^ 80)

/-- A presentation in its range as delivered: up to 63 characters, up to 15 UID bytes (R1). -/
def Presentation.wf : Presentation → Bool
  | .barcode payload => decide (payload.length ≤ 63)
  | .card uid => decide (uid.length ≤ 15)
  | .collision => true

/-- The well-formed commands. -/
def Instr.wf : Instr → Bool
  | .powerOn => true
  | .requestFrame f => f.wf
  | .identify | .assignBank | .setEvent | .setClock | .setSchedule | .setBankMode | .bankReset => true
  | .setTableGeometry | .upsertRecords | .fillSlots | .revokeRecords | .purgeRecords | .readRecord | .clearTable => true
  | .sweepEnd | .setProfileCount | .writeProfile | .writeTemplate | .setLaneProfileChoice | .setLaneControl => true
  | .laneParameterAccess | .laneAccessTimeout | .laneLinkTest | .setLinkHeader | .setZoneQuota | .resetZoneCounts => true
  | .readZones | .setPeer | .setReporting | .setEventLevels | .setWakePattern | .readLog | .readStatus | .readErrors => true
  | .clearErrors | .clearEvents | .clearCounts | .unknownRequest | .replyPlace => true
  | .admissionQuery f | .answer f | .entryNotice f | .exitNotice f | .withdrawNotice f | .reconcileNotice f => f.wf
  | .wakeFrame f => f.wf
  | .queryDeadlineExpiry _ => true
  | .remoteHoldDeadline k => k.wf
  | .lapsedEntryExpiry _ => true
  | .laneCycleStart | .automaticHeader | .triggeredHeader => true
  | .poll _ | .grantCommand _ | .refuseCommand _ | .referCommand _ | .lampCommand _ | .modeCommand _ => true
  | .parameterCommand _ | .repeatCommand _ | .testCommand _ => true
  | .nothingReport _ _ => true
  | .presentationReport _ _ p => p.wf
  | .passageReport _ _ _ | .reverseReport _ _ | .forcedReport _ _ _ | .buttonReport _ _ | .faultReport _ _ => true
  | .helloReport _ _ _ | .confirmReport _ _ _ | .parameterAnswer _ _ _ | .testEcho _ _ _ => true
  | .missingReply _ | .garbledReply _ _ | .slotLoss _ | .mateMarkClear _ => true
  | .linkTestEnd => true
  | .passWindowExpiry _ | .refusalDisplayExpiry _ => true
  | .clockAdvance | .surgeUpdate | .tallyHoldExpiry | .tallyFrameBuild | .auditFrameBuild | .eventHoldoffExpiry => true
  | .eventFramePlace | .statusIntervalExpiry | .statusReportPlace | .trunkFrameSend => true
  | .damagedFrame _ => true
  | .unwantedFrame _ f => f.wf

end Sys2Proof
end

