-- ==== Sys2Proof/Tests/Slice0.lean ====
section
/-! SUPPORT. Tests on the manual's worked examples, the refusals of WellFormed, and for every statement with hypotheses a state
and operands that meet them. -/

namespace Sys2Proof.Tests
open Sys2Proof.Machine

set_option Elab.async false

/-! ## Ill-formed commands are refused -/

theorem test_wf_refuses_long_payload : (Instr.requestFrame ⟨33, 34, 0, List.replicate 65536 0⟩).wf = false := by
  simp only [Instr.wf, FrameFields.wf, List.length_replicate]; decide

theorem test_wf_refuses_long_unwanted_payload : (Instr.unwantedFrame .reply ⟨33, 34, 0, List.replicate 65536 0⟩).wf = false := by
  simp only [Instr.wf, FrameFields.wf, List.length_replicate]; decide

theorem test_wf_refuses_long_barcode_key : (Instr.remoteHoldDeadline ⟨.barcode, 100000000000000⟩).wf = false := by decide

theorem test_wf_refuses_wide_card_key : (Instr.remoteHoldDeadline ⟨.card, 2 ^ 80⟩).wf = false := by decide

theorem test_wf_refuses_long_barcode : (Instr.presentationReport 0 0 (.barcode (List.replicate 64 0x30))).wf = false := by decide

theorem test_wf_refuses_long_uid : (Instr.presentationReport 0 0 (.card (List.replicate 16 0))).wf = false := by decide

theorem test_wf_accepts : (Instr.presentationReport 15 15 (.barcode (List.replicate 63 0x30))).wf = true ∧
    (Instr.remoteHoldDeadline ⟨.card, 2 ^ 80 - 1⟩).wf = true ∧ Instr.powerOn.wf = true := by decide

/-! ## States for the tests -/

/-- Template 2 of the worked decodings: length 19, marker "TK" at 0, event at 2, serial 11 digits at 6, check at 17. -/
def ticket : Template :=
  { lenMin := 19, lenMax := 19, marker := [0x54, 0x4B], markerAt := 0, eventAt := 2, eventLen := 4, serialAt := 6,
    serialLen := 11, checkAt := 17, checkLen := 2 }

/-- Template 5 of the worked decodings: length 8, marker "ST" at 0, serial 4 digits at 2, check at 6. -/
def short : Template :=
  { lenMin := 8, lenMax := 8, marker := [0x53, 0x54], markerAt := 0, eventAt := 0, eventLen := 0, serialAt := 2,
    serialLen := 4, checkAt := 6, checkLen := 2 }

/-- The entry profile of the worked decisions: zones 4 and 5, templates 2 and 5, cards, cooldown 60 s, refer set REVOKED,
ZONE_FULL, HOME_UNREACHABLE, offline set SINGLE, RETURN. -/
def entryProfile : Profile :=
  { direction := .entry, zones := 0x30, templates := 0x24, cards := true, passWindow := 80, display := 15, cooldown := 60,
    refer := 0x18040, offline := 3 }

def exitProfile : Profile := { entryProfile with direction := .exit }

def policy : Policy :=
  { np := 4, profiles := (Vector.replicate 8 Profile.default).set 0 entryProfile |>.set 1 exitProfile,
    templates := (Vector.replicate 16 none).set 2 (some ticket) |>.set 5 (some short) }

/-- The barcode of an event code and the serial "40215906117", with its two check characters. -/
def code (event check : List Byte) : List Byte :=
  [0x54, 0x4B] ++ event ++ [0x34, 0x30, 0x32, 0x31, 0x35, 0x39, 0x30, 0x36, 0x31, 0x31, 0x37] ++ check

/-- The key of that barcode, in bucket 843 of 16,384: slot 3,372. -/
def key : Key := ⟨.barcode, 40215906117⟩

def barcode : Presentation := .barcode (code [0x30, 0x34, 0x31, 0x37] [0x31, 0x35])

/-- A record of the worked decisions. -/
def ticketOf (c : TicketClass) (home : BankNo) (used : Nat) (st : RecordState) : Record :=
  { key := key, cls := c, allowance := if c = .single then 1 else 3, used := used, home := home, zones := 0x30,
    multiEvent := false, window := none, state := st, last := none, provisional := false }

/-- A lane at rest in IDLE under a profile. -/
def idleLane (i : Fin 8) (p : Profile) : Lane :=
  { Lane.initial with state := .idle, choice := i, inForce := some { index := i, profile := p } }

def activeSlot : Slot := { Slot.initial with link := .active, lastNumber := some 0, identity := some 1 }

/-- Bank 6 of the worked decisions at event time 680,000: OPEN, event code 0417, every slot Active, lane 12 an exit lane and
every other lane an entry lane; zone 4 full, zone 5 with room; bank 2 Up, bank 9 Down. -/
def bank6 : State :=
  { State.reset with
    bank := some 6, policy := policy,
    bcm := { Bcm.initial with mode := .opened, clock := some 680000, tick := 100, code := some 417 },
    zones := ((Vector.replicate 16 Zone.initial).set 4 { quota := 5000, entered := 4998, held := 2, scanOuts := 0 }).set 5
      { quota := 3000, entered := 1200, held := 3, scanOuts := 0 },
    lanes := (Vector.replicate 16 (idleLane 0 entryProfile)).set 12 (idleLane 1 exitProfile),
    link := { Link.initial with slots := Vector.replicate 16 activeSlot },
    peers := { Peers.initial with
      entries := ((Vector.replicate 32 { present := false, state := .down, timeouts := 0 }).set 2
        { present := true, state := .up, timeouts := 0 }).set 9 { present := true, state := .down, timeouts := 3 } } }

/-- The bank with a record of the worked key. -/
def holds (r : Record) (s : State) : State := s.putRecord 3372 r

/-- What a decision left: the lane's state, the verdict and authority, Held of zones 4 and 5, and the record. -/
def decided (s : State) : LaneState × Option (Verdict × Option Authority) × Nat × Nat × Option RecordState :=
  ((s.lane 3).state, (s.lane 3).result.map fun x => (x.verdict, x.authority), (s.zone 4).held, (s.zone 5).held,
    (s.lookup key).map fun x => x.2.state)

/-- The reason of the last record written. -/
def reasonOf (s : State) : Option (Outcome × Option Reason) :=
  s.log.kept.getLast?.map fun e => (e.admission.outcome, e.admission.reason)

/-! ## Worked decodings (01_credentials_and_decoding.md) -/

theorem test_decode_barcode :
    decodePresentation policy entryProfile barcode = .decoded ⟨.barcode, 40215906117⟩ (some 417) := by decide +kernel

theorem test_decode_bad_check :
    decodePresentation policy entryProfile (.barcode (code [0x30, 0x34, 0x31, 0x37] [0x31, 0x36])) = .failed .badCheck ∧
    decodePresentation policy entryProfile (.barcode (code [0x30, 0x34, 0x31, 0x37] [0x39, 0x38])) = .failed .badCheck := by
  decide +kernel

theorem test_buckets : probeBuckets 16384 2 key = [843, 844] ∧ bucketOf 1024 key = 843 ∧ bucketOf 32768 key = 843 ∧
    probeBuckets 1024 3 ⟨.barcode, 1023⟩ = [1023, 0, 1] ∧ probeBuckets 16384 2 ⟨.card, 305419896⟩ = [7322, 7323] := by
  decide +kernel

theorem test_decode_short_serial :
    decodePresentation policy entryProfile (.barcode [0x53, 0x54, 0x31, 0x30, 0x32, 0x33, 0x32, 0x35]) =
      .decoded ⟨.barcode, 1023⟩ none ∧
    decodePresentation policy entryProfile (.barcode [0x53, 0x54, 0x31, 0x30, 0x32, 0x33, 0x32, 0x32]) = .failed .badCheck := by
  decide +kernel

/-- Template 0 (length 12 to 20, no marker, serial 12 digits at 0) is tried before template 2. -/
theorem test_decode_order :
    decodePresentation
      { policy with templates := policy.templates.set 0 (some { lenMin := 12, lenMax := 20, marker := [], markerAt := 0, eventAt := 0, eventLen := 0, serialAt := 0, serialLen := 12, checkAt := 0, checkLen := 0 }) }
      { entryProfile with templates := 5 } barcode = .failed .malformed := by decide +kernel

theorem test_decode_card :
    decodePresentation policy entryProfile (.card [0x12, 0x34, 0x56, 0x78]) = .decoded ⟨.card, 305419896⟩ none ∧
    decodePresentation policy { entryProfile with cards := false } (.card [0x12, 0x34, 0x56, 0x78]) = .failed .noFormat ∧
    decodePresentation policy { entryProfile with cards := false } .collision = .failed .multipleCards ∧
    decodePresentation policy entryProfile (.card [1, 2, 3, 4, 5]) = .failed .malformed := by decide +kernel

/-! ## Worked decisions (03_the_admission_decision.md) -/

theorem test_window : [750000, 40000, 72000, 395999, 396000, 680000].map (fun t => windowTest (some t) (some ⟨720000, 72000⟩)) =
    [none, none, some .tooLate, some .tooLate, some .tooEarly, some .tooEarly] := by decide

theorem test_decision_row1 :
    decided ((bank6 |> holds { ticketOf .single 6 0 (.resting .unused) with window := some ⟨612000, 729000⟩ }).present 3 barcode) =
      (.opened, some (.grant, some .byBank), 2, 4,
        some (.held { holder := .lane 3 (some 5), prior := .unused, revokePending := none })) := by decide +kernel

theorem test_decision_row2 :
    reasonOf ((bank6 |> holds { ticketOf .returning 6 1 (.resting .outside) with last := some ⟨some 679700, 6, 12, some 5⟩ }).present 3
      barcode) = some (.refused, some .cooldown) := by decide +kernel

theorem test_decision_row3 :
    decided ((bank6 |> holds { ticketOf .returning 6 1 (.resting .outside) with last := some ⟨some 679000, 6, 12, some 5⟩ }).present 3
      barcode) = (.opened, some (.grant, some .byBank), 2, 3,
        some (.held { holder := .lane 3 none, prior := .outside, revokePending := none })) := by decide +kernel

theorem test_decision_row4 :
    let s := (bank6 |> holds (ticketOf .single 2 0 (.resting .unused))).present 3 barcode
    decided s = (.querying, none, 2, 4, some (.resting .unused)) ∧ s.trunk.peerQ.length = 1 ∧ s.peers.queries.length = 1 := by
  decide +kernel

theorem test_decision_row5 :
    decided ((bank6 |> holds (ticketOf .returning 9 0 (.resting .unused))).present 3 barcode) =
      (.opened, some (.grant, some .degraded), 2, 4,
        some (.held { holder := .lane 3 (some 5), prior := .unused, revokePending := none })) := by decide +kernel

theorem test_decision_row6 :
    let s := (bank6 |> holds (ticketOf .group 9 0 (.resting .unused))).present 3 barcode
    decided s = (.refusing, some (.refer, none), 2, 3, some (.resting .unused)) ∧
    reasonOf s = some (.referred, some .homeUnreachable) := by decide +kernel

theorem test_decision_row7 :
    decided ((bank6 |> holds { ticketOf .staff 9 0 (.resting .outside) with zones := 0x10 }).present 3 barcode) =
      (.opened, some (.grant, some .byBank), 2, 3, some (.resting .outside)) := by decide +kernel

/-- The barcode with event code 0412: its products sum to 209 - 5 × 5 = 184, and 184 mod 97 is 87. -/
theorem test_decision_row8 :
    reasonOf ((bank6 |> holds (ticketOf .single 6 0 (.resting .unused))).present 3
      (.barcode (code [0x30, 0x34, 0x31, 0x32] [0x38, 0x37]))) = some (.refused, some .wrongEvent) := by decide +kernel

theorem test_decision_row10 :
    reasonOf ((bank6 |> holds { ticketOf .returning 6 0 (.resting .unused) with zones := 0x10 }).present 3 barcode) =
      some (.referred, some .zoneFull) := by decide +kernel

theorem test_decision_row11 :
    decided ((bank6 |> holds (ticketOf .group 6 2 (.resting .inside))).present 3 barcode) =
      (.opened, some (.grant, some .byBank), 2, 4,
        some (.held { holder := .lane 3 (some 5), prior := .inside, revokePending := none })) := by decide +kernel

theorem test_decision_row12 :
    reasonOf ((bank6 |> holds (ticketOf .single 6 0
      (.held { holder := .lane 8 (some 5), prior := .unused, revokePending := some 7 }))).present 3 barcode) =
      some (.referred, some .revoked) := by decide +kernel

theorem test_decision_row13 :
    reasonOf ((bank6 |> holds { ticketOf .returning 6 0 (.resting .unused) with zones := 0x80 }).present 3 barcode) =
      some (.refused, some .wrongGate) := by decide +kernel

theorem test_decision_row14 :
    decided ((bank6 |> holds (ticketOf .single 11 0 (.resting .unused))).present 3 barcode) =
      (.opened, some (.grant, some .byBank), 2, 4,
        some (.held { holder := .lane 3 (some 5), prior := .unused, revokePending := none })) := by decide +kernel

theorem test_decision_row15 :
    reasonOf ((bank6 |> holds (ticketOf .returning 6 3 (.resting .outside))).present 3 barcode) =
      some (.refused, some .spent) := by decide +kernel

/-! ## Worked exits (03_the_admission_decision.md) -/

/-- Lane 12 open for a ticket leaving at event time 700,000. -/
def leaving (r : Record) : State :=
  (({ bank6 with bcm := { bank6.bcm with clock := some 700000 } } |> holds r).modLane 12
    fun n => { n with
      state := .opened, key := some key,
      result := some { verdict := .grant, authority := some .byBank, cls := none, zone := none, provisional := false, held := false } })

/-- The record after the exit, with the outcome logged, the zones' ScanOuts and the notices queued. -/
def left (r : Record) : Option (RecordState × Option Last) × Option Outcome × Nat × Nat × Nat :=
  let s := (leaving r).exitUpdate 12
  ((s.lookup key).map fun x => (x.2.state, x.2.last), s.log.kept.getLast?.map fun e => e.admission.outcome,
    (s.zone 4).scanOuts, (s.zone 5).scanOuts, s.trunk.peerQ.length)

theorem test_exit_returning :
    left { ticketOf .returning 6 1 (.resting .inside) with last := some ⟨some 650000, 6, 3, some 5⟩ } =
      (some (.resting .outside, some ⟨some 700000, 6, 12, some 5⟩), some .exit, 0, 1, 1) := by decide +kernel

theorem test_exit_spent :
    left { ticketOf .returning 6 3 (.resting .inside) with last := some ⟨some 650000, 6, 3, none⟩ } =
      (some (.resting .spent, some ⟨some 700000, 6, 12, none⟩), some .exit, 0, 0, 1) := by decide +kernel

theorem test_exit_single :
    left { ticketOf .single 6 1 (.resting .inside) with last := some ⟨some 650000, 6, 3, some 4⟩ } =
      (some (.resting .spent, some ⟨some 700000, 6, 12, some 4⟩), some .exit, 1, 0, 1) := by decide +kernel

theorem test_exit_unmatched :
    left { ticketOf .group 6 2 (.resting .inside) with last := some ⟨some 650000, 6, 3, some 4⟩ } =
      (some (.resting .inside, some ⟨some 650000, 6, 3, some 4⟩), some .unmatchedExit, 0, 0, 0) := by decide +kernel

/-! ## Worked sequences on records (02_the_entitlement_table.md) -/

/-- B = 1,024, P = 2, slots 4,092 to 4,095, 0, 1 and 3 taken by seven other records. -/
def crowded : State :=
  [4092, 4093, 4094, 4095, 0, 1, 3].foldl
    (fun s n => s.putRecord n { ticketOf .single 6 0 (.resting .unused) with key := ⟨.barcode, 1023 + 65521 * (n + 1)⟩ })
    { State.reset with table := { buckets := 1024, probe := 2, slots := [], sweeping := false } }

def imageOf (v : Nat) (cls allowance : Nat) : RawImage :=
  { key := ⟨1, v⟩, cls := cls, allowance := allowance, home := 6, zones := 0x30, flags := 0, opens := 0, closes := 0, state := 0,
    used := 0, reason := 0, lastTime := 0, lastBank := 0, lastLane := 0, lastZone := 0 }

theorem test_upsert_crowded :
    let a := crowded.eachEntry State.upsertOne [imageOf 1023 1 2, imageOf 2047 1 2, imageOf 1023 0 4]
    a.2 = [(.stored, false), (.tableFull, false), (.replaced, true)] ∧
    (a.1.lookup ⟨.barcode, 1023⟩).map (fun x => (x.1, x.2.cls, x.2.allowance)) = some (2, .single, 1) ∧
    (a.1.evu.errors.get 10).count = 1 := by decide +kernel

theorem test_purge_then_upsert :
    let a := (crowded.eachEntry State.upsertOne [imageOf 1023 1 2]).1
    let b := a.purgeOne ⟨.barcode, 1023 + 65521 * 4094⟩
    b.2 = (.purged, false) ∧ (b.1.lookup ⟨.barcode, 1023⟩).map (·.1) = some 2 ∧
    ((b.1.upsertOne (imageOf 2047 1 2)).1.lookup ⟨.barcode, 2047⟩).map (·.1) = some 4093 := by decide +kernel

/-- A revoke during a passage: PENDING, then the commit leaves REVOKED with used 1. -/
theorem test_revoke_during_passage :
    let r := ticketOf .returning 6 0 (.held { holder := .lane 5 (some 4), prior := .unused, revokePending := none })
    let s := (bank6 |> holds r).revokeOne 7 key
    s.2 = (.pending, false) ∧
    (s.1.lookup key).map (fun x => (x.2.commit ⟨some 183400, 6, 5, some 4⟩ false).state) = some (.revoked 7) ∧
    (s.1.lookup key).map (fun x => (x.2.commit ⟨some 183400, 6, 5, some 4⟩ false).used) = some 1 ∧
    (s.1.lookup key).map (fun x => x.2.revert.state) = some (.revoked 7) := by decide +kernel

/-! ## Codes, messages and time -/

/-- The known check value of this CRC over the digits "123456789". -/
theorem test_frame_check : crc16 [0x31, 0x32, 0x33, 0x34, 0x35, 0x36, 0x37, 0x38, 0x39] = 0x29B1 := by decide +kernel

/-- The remote hold of the worked admission: the greater of 12 s and 8 s + 2 s. -/
theorem test_remote_deadline : bank6.remoteDeadline 80 = 12000 := by decide +kernel

/-- The surge rule from an estimate of 160 with 5 presentations: 160 - 20 + 5. -/
theorem test_surge : ({ Bcm.initial.surge with estimate := 160, count := 5 } : Surge).updated.estimate = 145 := by decide

/-- The state that a command answers; every command answers one. -/
def after (c : Instr) (s : State) : State :=
  match exec c s with
  | .next t => t
  | .fault _ | .refused _ => s

theorem test_clock_wraps :
    let t := after .clockAdvance { bank6 with bcm := { bank6.bcm with clock := some 863999 } }
    t.bcm.clock = some 0 ∧ (t.evu.causes.get 19).pending = true := by decide +kernel

/-! ## Requests, frames and slots for the witnesses below -/

/-- A request from the central server. -/
def request (payload : List Byte) : Request := { src := 34, tag := 7, payload := payload, lead := [] }

/-- The idle engine finds one request. -/
def asks (payload : List Byte) (s : State) : State := { s with mge := { phase := .idle, queue := [request payload] } }

/-- A request of any type with any fields can be asked in any state. -/
theorem met_asked (code : Nat) (fields : List Byte) (s : State) :
    (asks (byte code :: fields) s).asked (request (byte code :: fields)) code fields ∧
    (asks (byte code :: fields) s).bcm = s.bcm ∧ (asks (byte code :: fields) s).table = s.table := ⟨⟨rfl, rfl, rfl⟩, rfl, rfl⟩

/-- Bank 6 in SERVICE, its lanes CLOSED. -/
def service : State :=
  { bank6 with bcm := { bank6.bcm with mode := .service }, lanes := Vector.replicate 16 { Lane.initial with choice := 1 } }

def dormant (m : BankMode) : State := { service with bcm := { service.bcm with mode := m } }

/-- The slot of a lane has carried a command and its reply is awaited. -/
def heardAt (l : LaneNo) (c : SlotCommand) (s : State) : State :=
  { s with link := { s.link with awaiting := true, next := l.val } }.modSlot l fun k => { k with sent := some c }

/-- The reply window of a slot in any link state can be open. -/
theorem met_listens (l : LaneNo) (st : SlotLink) :
    (heardAt l (.poll false) (bank6.modSlot l fun k => { k with link := st })).listens l st := by
  refine ⟨rfl, rfl, rfl, rfl, ?_, ?_, ?_⟩ <;>
    simp [heardAt, State.slot, State.modSlot, upd, Vector.get_eq_getElem]

/-- A frame from bank 2, for this bank or for every bank. -/
def fromBank2 (dst : Byte) (payload : List Byte) : FrameFields := { dst := dst, src := 2, tag := 9, payload := payload }

/-- Bank 6 hears bank 2 with any payload that fits. -/
theorem met_hears (s : State) (dst : Byte) (payload : List Byte) (hb : s.bank = some 6)
    (hm : takesPeers s.bcm.mode = true) (hp : s.trunk.maxPayload = 512) (h : payload.length ≤ 512) :
    s.hears 6 2 (fromBank2 dst payload) :=
  ⟨hb, by decide, rfl, hm, by simpa [State.fits, fromBank2, hp] using h⟩

/-! ## Worked cross-bank sequences (06_peer_coordination.md), with this bank as the home or the asking bank -/

/-- The payload of bank 2's query for the worked key. -/
def query : List Byte := queryPayload key 1 80 60

/-- The home holds the key for the first query, for 12 s, and answers Grant; the second query is answered IN_PASSAGE. -/
theorem test_two_banks_one_barcode :
    let s := after (.admissionQuery (fromBank2 6 query)) (bank6 |> holds (ticketOf .single 6 0 (.resting .unused)))
    let t := after (.admissionQuery ⟨6, 9, 40, query⟩) s
    (s.lookup key).map (fun x => x.2.state) =
      some (.held { holder := .remote 2 1 12000, prior := .unused, revokePending := none }) ∧
    t.trunk.peerQ.map (fun f => (f.dst, f.tag, f.body)) =
      [(2, 9, .bytes (keyBytes key ++ [0, 0xFF, 0, 0])), (9, 40, .bytes (keyBytes key ++ [1, 11, 1, 0]))] := by decide +kernel

/-- The holder's Entry Notice commits the record at the home. -/
theorem test_holder_entry :
    let s := after (.admissionQuery (fromBank2 6 query)) (bank6 |> holds (ticketOf .single 6 0 (.resting .unused)))
    let t := after (.entryNotice (fromBank2 32 (entryPayload key 2 1 (some 650000) 1 false (some 3)))) s
    (t.lookup key).map (fun x => (x.2.state, x.2.used, x.2.last)) =
      some (.resting .inside, 1, some ⟨some 650000, 2, 1, some 3⟩) := by decide +kernel

/-- Another bank that is neither home nor holder records the entry. -/
theorem test_entry_at_third_bank :
    let s := bank6 |> holds (ticketOf .single 2 0 (.resting .unused))
    let t := after (.entryNotice (fromBank2 32 (entryPayload key 2 1 (some 650000) 1 false (some 3)))) s
    (t.lookup key).map (fun x => (x.2.state, x.2.used, x.2.provisional)) = some (.resting .inside, 1, false) := by decide +kernel

/-- Bank 6 waits for bank 2's answer to tag 9 on the worked key at lane 3; or has given it up. -/
def asking : State :=
  { bank6 with peers := { bank6.peers with queries := [⟨9, 3, 2, key, some 5, 150⟩] } }.modLane 3
    fun n => { n with state := .querying, key := some key, reservation := some 5, query := some ⟨some 417, .single⟩ }

def gaveUp (v : LapsedVerdict) : State := { bank6 with peers := { bank6.peers with lapsed := [⟨9, 3, 2, key, v, 12000⟩] } }

/-- Bank 2's answer. -/
def answerBytes (v r : Byte) : List Byte := keyBytes key ++ [v, r, 2, 1]

/-- A slow home: the deadline makes the peer Suspect, the confirming hold grants provisionally, the query is lapsed. -/
theorem test_slow_home :
    let t := after (.queryDeadlineExpiry 3) (asking |> holds (ticketOf .single 2 0 (.resting .unused)))
    (t.lane 3).state = .opened ∧ (t.lane 3).result.map (fun x => (x.authority, x.provisional)) = some (some .degraded, true) ∧
    t.peer 2 = { present := true, state := .suspect, timeouts := 1 } ∧
    t.peers.lapsed.map (fun x => (x.tag, x.verdict)) = [(9, .grant)] ∧ t.now = 150 := by decide +kernel

/-- A late Refuse on a lapsed Grant: peer Up, the reconcile send, LATE_ANSWER, CONFLICT logged and raised. -/
theorem test_late_answer :
    let s := { gaveUp .grant with peers := { (gaveUp .grant).peers with reconcile := [⟨key, 2, some 650000, 1, 1, some 3⟩] } }.modPeer 2
      fun p => { p with state := .suspect, timeouts := 1 }
    let t := after (.answer (fromBank2 6 (answerBytes 1 12))) s
    (t.peer 2).state = .up ∧ t.peers.reconcile = [] ∧ t.trunk.peerQ.map (fun f => f.kind) = [.reconcileNotice] ∧
    (t.evu.errors.get 2).detected = true ∧ reasonOf t = some (.conflict, some .alreadyIn) ∧ (t.evu.causes.get 5).pending = true := by
  decide +kernel

/-- Set Event Levels brings a pending cause of level 3 below a wake threshold of 4: STANDBY is released. -/
theorem test_wake_threshold_releases :
    let s := { (dormant .standby) with evu := { bank6.evu with causes := bank6.evu.causes.set 2 ⟨true, 1, none⟩ } }
    let t := after .setEventLevels (asks [28, 0, 0, 0, 4, 4] s)
    t.bcm.mode = .service ∧ (t.evu.causes.get 23).pending = true ∧
    (after .setEventLevels (asks [28, 0, 0, 0, 4, 3] s)).bcm.mode = .standby := by decide +kernel

/-- The stop of the link with an access in flight and every slot Active: PRESENCE for each, the access FAILED. -/
theorem test_dormant_stops_link :
    let s := { service with mge := { service.mge with phase := .accessing ⟨34, 7, 20⟩ ⟨3, 63, false, 0, some 1⟩ } }
    let t := s.enterDormant .standby
    t.evu.causes.get 0 = { pending := true, count := 16, detail := some 15 } ∧ (t.evu.causes.get 15).detail = some 3 ∧
    t.trunk.replyQ.map (fun f => f.body) = [.bytes [20, 3, 8, 128]] ∧ t.link.running = false := by decide +kernel

/-! ## Commands from power-on -/

/-- The first cycle's header and its first poll, with the join indication. -/
theorem test_first_poll :
    (after (.poll 0) (after .automaticHeader State.reset)).link.line = withCheck [0, 0, 1] := by decide +kernel

/-- SERVICE to OPEN: MODE_CHANGE is pending and an Active lane with an entry profile in force is IDLE. -/
theorem test_open :
    let t := after .setBankMode (asks [6, 1] { service with
      lanes := Vector.replicate 16 { Lane.initial with inForce := some { index := 0, profile := entryProfile } } })
    t.bcm.mode = .opened ∧ (t.evu.causes.get 18).pending = true ∧ (t.lane 3).state = .idle := by decide +kernel

/-- R74, R77: a lane whose profile was never written has none in force; neither its unit's joining nor OPEN is an adoption. -/
theorem test_no_adoption_without_idle :
    let s := State.reset.modSlot 3 fun k => { k with link := .joining, joinRun := 2, lastNumber := some 0 }
    let t := after (.nothingReport 3 1) (heardAt 3 (.poll false) s)
    let u := after .setBankMode (asks [6, 1] { service with lanes := Vector.replicate 16 Lane.initial })
    (t.slot 3).link = .active ∧ (t.lane 3).inForce = none ∧ u.bcm.mode = .opened ∧ (u.lane 3).state = .closed ∧
      (u.lane 3).inForce = none := by decide +kernel

/-- R5, R76, R77: Write Profile of the chosen profile is an adoption of a CLOSED lane. -/
theorem test_write_profile_adopts :
    let t := State.reset.storeProfile 0 entryProfile
    (t.lane 3).state = .closed ∧ (t.lane 3).inForce = some { index := 0, profile := entryProfile } := by decide +kernel

/-- Set Zone Quota below Entered + Held is clamped to it: zone 5 has 1,200 + 3. -/
theorem test_quota_clamped :
    let t := after .setZoneQuota (asks [23, 5, 0, 100] bank6)
    (t.zone 5).quota = 1203 ∧
    t.trunk.replyQ.map (fun f => f.body) = [.bytes [23, 1, 0, 0x80, 5, 0x04, 0xB3, 0x04, 0xB0, 3]] := by decide +kernel

/-! ## Witnesses: every statement's hypotheses can hold -/

theorem met_StepTakesFrontCommand : State.reset.pending = [] := rfl

/-- A bank with a query running, and a command waiting. -/
def running : State :=
  { (bank6 |> holds (ticketOf .single 2 0 (.resting .unused))).present 3 barcode with pending := [.clockAdvance] }

/-- A bank without a reservation: bank 6 with Held of both zones at 0, two of its lanes a wide lane. -/
def uncharged : State :=
  { bank6 with
    zones := (bank6.zones.set 4 { quota := 5000, entered := 5000, held := 0, scanOuts := 0 }).set 5
      { quota := 3000, entered := 1200, held := 0, scanOuts := 0 },
    pairs := bank6.pairs.set 0 { requested := true, inForce := true },
    lanes := bank6.lanes.set 1 { Lane.initial with choice := 1 },
    peers := { bank6.peers with lapsed := [⟨9, 4, 2, key, .aborted, 12000⟩] } }

/-- The uncharged bank with this record after a presentation at lane 3: OPEN with a hold, or QUERYING. -/
def charged (r : Record) : State := { (uncharged |> holds r).present 3 barcode with pending := [.passWindowExpiry 3] }

theorem met_KeptByEveryStep : ∃ t, step running = .next t := ⟨_, rfl⟩

theorem met_ZonesStayWithinQuota : running.zonesWithin := by unfold State.zonesWithin Zone.within; decide +kernel

/-- An OPEN lane and a QUERYING one, each with its reservation in zone 5. -/
theorem met_ReservationsMatch : ∀ s ∈ [charged (ticketOf .single 6 0 (.resting .unused)), charged (ticketOf .single 2 0 (.resting .unused))],
    s.queriesMatch ∧ s.operationsFit ∧ s.reservationsMatch ∧ (s.lane 3).reservation = some 5 ∧ ∃ t, step s = .next t := by
  have h : ∀ s ∈ [charged (ticketOf .single 6 0 (.resting .unused)), charged (ticketOf .single 2 0 (.resting .unused))],
      s.queriesMatch ∧ s.operationsFit ∧ s.reservationsMatch ∧ (s.lane 3).reservation = some 5 := by
    unfold State.queriesMatch State.operationsFit State.reservationsMatch; decide +kernel
  intro s hs
  obtain ⟨a, b, c, d⟩ := h s hs
  refine ⟨a, b, c, d, ?_⟩
  rcases List.mem_cons.1 hs with e | e
  · subst e; exact ⟨_, rfl⟩
  · rw [List.mem_singleton.1 e]; exact ⟨_, rfl⟩

theorem met_LogRingStaysConsecutive :
    ({ (bank6.writeLog (bank6.withoutRecord 3 key { verdict := .grant, authority := none, cls := none, zone := none, provisional := false, held := false } .entry)) with pending := [.clockAdvance] } : State).log.ringOk := by
  unfold Log.ringOk; decide +kernel

theorem met_QueuesStayBounded : running.queuesBounded := by unfold State.queuesBounded; decide +kernel

theorem met_TableStaysWellFormed : running.table.ok ∧ running.recordsInRange := by
  constructor
  · unfold Table.ok Table.wf Table.sorted; decide +kernel
  · intro x hx
    have : x = (3372, ticketOf .single 2 0 (.resting .unused)) := by
      have h : running.table.slots = [(3372, ticketOf .single 2 0 (.resting .unused))] := by decide +kernel
      rw [h] at hx; simpa using hx
    subst this
    unfold Record.inRange
    refine ⟨by decide, by decide, by decide, by decide, by decide, by decide, ?_⟩
    intro w hw; cases hw

/-- The OPEN lane's record is HELD by it. -/
theorem met_HoldsMatch :
    let s := charged (ticketOf .single 6 0 (.resting .unused))
    s.table.ok ∧ s.queriesMatch ∧ s.operationsFit ∧ s.holdsMatch ∧
      (s.lookup key).map (fun x => x.2.state) = some (.held { holder := .lane 3 (some 5), prior := .unused, revokePending := none }) := by
  refine ⟨?_, ?_, ?_, ?_, ?_⟩
  · unfold Table.ok Table.wf Table.sorted; decide +kernel
  · unfold State.queriesMatch; decide +kernel
  · unfold State.operationsFit; decide +kernel
  · intro x hx h l z hh hl
    have e : (charged (ticketOf .single 6 0 (.resting .unused))).table.slots = [(3372, ticketOf .single 6 0
        (.held { holder := .lane 3 (some 5), prior := .unused, revokePending := none }))] := by decide +kernel
    rw [e, List.mem_singleton] at hx
    subst hx
    cases hh
    cases hl
    exact ⟨by decide +kernel, by decide +kernel, by decide +kernel, ⟨_, rfl, by decide +kernel⟩, by decide +kernel⟩
  · decide +kernel

/-- A query and a lapsed entry with their tags, and a wide lane. -/
theorem met_TagsAndUppers :
    let s := charged (ticketOf .single 2 0 (.resting .unused))
    s.queriesMatch ∧ s.uppersClosed ∧ s.tagsUnique ∧ (s.pairs.get 0).inForce = true ∧ s.peers.queries.length = 1 ∧
      s.peers.lapsed.length = 1 := by
  unfold State.queriesMatch State.uppersClosed State.tagsUnique; decide +kernel

theorem met_LanesMatchModeAndQueries : running.queriesMatch ∧ running.modeOk := by
  unfold State.queriesMatch State.modeOk; decide +kernel

theorem met_SettingsStayInRange : running.settingsInRange := by
  refine ⟨⟨?_, ?_, ?_⟩, ?_⟩
  · intro t h
    have e : running.bcm.clock = some 680000 := by decide +kernel
    rw [e] at h; cases h; decide
  · intro t h
    have e : running.bcm.code = some 417 := by decide +kernel
    rw [e] at h; cases h; decide
  · decide +kernel
  · refine ⟨?_, ?_, ?_, ?_, ?_, ?_, ?_, ?_⟩
    · unfold Coalescing.inRange; decide +kernel
    · unfold Coalescing.inRange; decide +kernel
    · unfold Trunk.inRange; decide +kernel
    · unfold Evu.inRange; decide +kernel
    · unfold Peers.inRange; decide +kernel
    · unfold HeaderSettings.inRange; decide +kernel
    · intro h e
      have : running.link.pendingSettings = none := by decide +kernel
      rw [this] at e; cases e
    · refine ⟨by decide +kernel, by decide +kernel, ⟨by decide +kernel, by decide +kernel, ?_, ?_⟩, ?_⟩
      · unfold Profile.inRange; decide +kernel
      · intro i t h
        have e : ∀ j : Fin 16, running.policy.templates.get j = none ∨
            (j = 2 ∧ running.policy.templates.get j = some ticket) ∨ (j = 5 ∧ running.policy.templates.get j = some short) := by
          decide +kernel
        rcases e i with e | ⟨rfl, e⟩ | ⟨rfl, e⟩ <;> rw [e] at h <;> cases h <;>
          exact ⟨by decide +kernel, by unfold Template.inRange; decide⟩
      · intro l a h
        have e : ∀ m, (running.lane m).inForce = some ⟨0, entryProfile⟩ ∨ (running.lane m).inForce = some ⟨1, exitProfile⟩ := by
          decide +kernel
        rcases e l with e | e <;> rw [e] at h <;> cases h <;> (unfold Profile.inRange; decide)

theorem met_TrunkFrameRoundTrip : (1024 ≤ 1024 ∧ (List.replicate 1024 (0 : Byte)).length ≤ 1024) ∧
    ((31 : Byte).toNat < 32 ∧ (33 : Byte) = 33 ∧ (34 : Byte) = 34) := by
  refine ⟨⟨le_refl _, by simp only [List.length_replicate]; decide⟩, by decide⟩

theorem met_LaneReplyRoundTrip : (List.replicate 255 (0x41 : Byte)).length ≤ 255 := by simp only [List.length_replicate]; decide

theorem met_PeerPayloadRoundTrip : 2 ^ 80 - 1 < 2 ^ 80 ∧ 863999 < Config.dayTenths ∧ 65535 < 65536 ∧
    (ticketOf .staff 6 255 (.resting .inside)).used < 256 := by decide

/-- Template 2 wins the worked barcode; barcodes and UIDs at the edges of their lengths; a sweep, and a well-formed table. -/
theorem met_DecodingAndLookup :
    (entryProfile.templates.getLsbD 2 = true ∧ 2 < min 16 ((48 - 4 * policy.np) / 2) ∧ policy.templates.get 2 = some ticket) ∧
    (let x := code [0x30, 0x34, 0x31, 0x37] [0x31, 0x35]
     4 ≤ x.length ∧ x.length ≤ 48 ∧ (ticket.lenMin ≤ x.length ∧ x.length ≤ ticket.lenMax) ∧
       (x.drop ticket.markerAt).take ticket.marker.length = ticket.marker ∧ (∀ b ∈ x, legalChar b = true)) ∧
    (∀ n ∈ [4, 48], 4 ≤ (List.replicate n (0x5A : Byte)).length ∧ (List.replicate n (0x5A : Byte)).length ≤ 48) ∧
    ((List.replicate 3 (0x5A : Byte)).length < 4 ∧ 48 < (List.replicate 49 (0x5A : Byte)).length ∧ legalChar 0x5B = false) ∧
    (∀ n ∈ [5, 6, 8, 9, 11], n ≠ 4 ∧ n ≠ 7 ∧ n ≠ 10) ∧
    (let s := { bank6 with table := { bank6.table with sweeping := true } }; s.table.sweeping = true) ∧
    (let s := bank6 |> holds (ticketOf .single 6 0 (.resting .unused))
     s.table.sweeping = false ∧ s.table.wf ∧ (3372, ticketOf .single 6 0 (.resting .unused)) ∈ s.table.slots) := by
  unfold Table.wf Table.sorted; decide +kernel

theorem met_BucketsAndProbeSequence : 32768 ∈ [1024, 2048, 4096, 8192, 16384, 32768] ∧
    ({ State.reset.table with buckets := 1024, probe := 8 } : Table).probe ≤ 8 := by decide

/-- The edges of a window within one day, of one that wraps, and of its gap's middle. -/
theorem met_ChecksOnARecord :
    (612000 < 729000 ∧ 611999 < 612000 ∧ 728999 < 729000 ∧ 729000 ≤ 729000) ∧
    (72000 < 720000 ∧ 720000 ≤ 720000 ∧ 71999 < 72000 ∧ 720000 - 396000 ≤ 396000 - 72000 ∧ 395999 - 72000 < 720000 - 395999) ∧
    ((863999 < 864000) ∧ ((863999 : Int) - 863400) % 864000 < 10 * 60 ∧ ¬((0 : Int) - 863400) % 864000 < 10 * 60) ∧
    (ticketOf .staff 6 0 (.resting .inside)).cls = .staff ∧
    (let r := ticketOf .group 6 2 (.resting .inside); r.cls = .group ∧ r.used < r.allowance) ∧
    (let r := ticketOf .group 6 3 (.resting .inside); ¬(r.cls = .group ∧ r.used < r.allowance)) ∧
    (let r := ticketOf .single 6 1 (.resting .unused); r.cls ≠ .staff ∧ r.allowance ≤ r.used) ∧
    (let r := ticketOf .single 6 0 (.resting .unused); r.used < r.allowance) ∧
    (let r := ticketOf .returning 6 3 (.resting .outside); r.allowance ≤ r.used) ∧
    (ticketOf .single 6 1 (.resting .spent)).state = .resting .spent := by decide

theorem met_EventsAndErrorsRecorded :
    (bank6.bcm.mode ≠ .standby ∧ (bank6.evu.causes.get 1).pending = false ∧ bank6.evu.level 1 < bank6.evu.reportThreshold ∧
      bank6.evu.level 1 ≠ 7 ∧ ∀ f ∈ bank6.trunk.reportQ, f.body ≠ .eventList) ∧
    ¬bank6.evu.level 10 < bank6.evu.reportThreshold ∧
    (let s := dormant .standby
     s.bcm.mode = .standby ∧ s.bcm.entering = false ∧ (s.evu.causes.get 6).pending = false ∧ s.evu.level 6 < s.evu.wakeThreshold) ∧
    (let s := { bank6 with evu := { bank6.evu with errors := bank6.evu.errors.set 0 { detected := false, count := 0, masked := true } } }
     (s.evu.errors.get (errorIndex .frameCheck)).masked = true) ∧
    ((bank6.evu.errors.get (errorIndex .oversize)).masked = false ∧ ErrorKind.oversize.serious = true ∧ bank6.evu.firstError = none ∧
      bank6.evu.headerLog = none ∧ ErrorKind.laneReply.serious = false) := by decide +kernel

/-- A bank with this many undrained records. -/
def filled (n : Nat) (p : LogPolicy) : State := { bank6 with log := { bank6.log with undrained := n, policy := p } }

theorem met_LogRecordWritten :
    (filled 6143 .refuse).log.undrained + 1 = 6144 ∧ (filled 8159 .refuse).log.undrained + 1 = 8160 ∧
    (filled 8191 .refuse).log.undrained < 8192 ∧ (8192 ≤ (filled 8192 .refuse).log.undrained ∧ (filled 8192 .refuse).log.policy = .refuse) ∧
    (filled 8192 .overwrite).log.policy = .overwrite ∧ bank6.bcm.mode ≠ .standby := by decide

theorem met_VerdictsReachTheLane : bank6.bcm.mode = .opened ∧ service.bcm.mode ≠ .opened ∧ 3 ∈ bank6.slotsOf 3 ∧
    5 ∉ bank6.slotsOf 3 ∧ (bank6.lane 3).profile.refer.getLsbD (reasonCode .revoked) = true ∧
    (bank6.lane 3).profile.refer.getLsbD (reasonCode .spent) = false ∧ (bank6.lane 12).direction = .exit := by decide +kernel

theorem met_ReservationMovesZoneCounts :
    (let x := ({ quota := 5, entered := 3, held := 1, scanOuts := 0 } : Zone); 0 < x.quota ∧ x.quota ≤ x.entered + x.held + 1) ∧
    (((bank6.reserve 3 5).lane 3).reservation = some 5 ∧ 0 < ((bank6.reserve 3 5).zone 5).held) ∧
    (bank6.lane 3).reservation = none ∧
    (let x := ({ quota := 5, entered := 3, held := 2, scanOuts := 0 } : Zone); 0 < x.quota ∧ x.quota ≤ x.entered + x.held) ∧
    (let x := ({ quota := 6, entered := 3, held := 2, scanOuts := 0 } : Zone); x.entered + x.held < x.quota ∧ ¬x.entered + x.held + 1 < x.quota) ∧
    (let x := Zone.initial; x.quota = 0) := by decide +kernel

theorem met_QuerySentToHome : bank6.trunk.peerQ.length < 32 ∧
    32 ≤ ({ bank6.trunk with peerQ := List.replicate 32 (reconcileFrame 6 ⟨key, 2, none, 1, 1, none⟩) } : Trunk).peerQ.length ∧
    bank6.peers.queries.length + bank6.peers.lapsed.length < 256 := by decide +kernel

/-- A next-tag value that a list holds is passed over. -/
theorem met_FirstFreeTag : ({ (gaveUp .grant).peers with nextTag := 9 } : Peers).freshTag = 10 ∧
    (asking.peers.queries.length + asking.peers.lapsed.length < 256) := by decide +kernel

/-- The check of the worked record at lane 3. -/
def checkAt (r : Record) : Option Reason :=
  checkRecord (bank6 |> holds r).bcm.code (some 417) (bank6 |> holds r).bcm.clock ((bank6 |> holds r).lane 3).profile r

theorem met_ConfirmingHoldDecides : bank6.lookup key = none ∧
    (let r := ticketOf .single 2 1 (.resting .inside); (bank6 |> holds r).lookup key = some (3372, r) ∧ checkAt r = some .alreadyIn) ∧
    (let r := ticketOf .staff 2 1 (.resting .inside); (bank6 |> holds r).lookup key = some (3372, r) ∧ checkAt r = none) ∧
    (let r := ticketOf .group 2 0 (.resting .unused)
     checkAt r = none ∧ (bank6.lane 3).profile.offline.getLsbD (classCode r.cls) = false) ∧
    (let r := ticketOf .single 2 0 (.resting .unused)
     checkAt r = none ∧ (bank6.lane 3).profile.offline.getLsbD (classCode r.cls) = true) := by decide +kernel

/-! ### The Lane Link -/

/-- The link with the cycle at this slot, nothing awaited. -/
def atSlot (n : Nat) (s : State) : State := { s with link := { s.link with next := n, autoDone := true } }

theorem met_LaneCycleStarts : (atSlot 16 bank6).mayDrive = true ∧ (atSlot 16 bank6).link.next = 16 := by decide +kernel

theorem met_SlotEnds :
    (let s := { atSlot 15 bank6 with link := { (atSlot 15 bank6).link with test := some ⟨1, 5, true⟩ } }
     s.link.stopping = false ∧ s.link.test = some ⟨1, 5, true⟩ ∧ (15 : LaneNo).val = 15) ∧
    ((14 : LaneNo).val ≠ 15 ∧ bank6.link.stopping = false ∧ bank6.link.test = none) ∧
    (∀ m ∈ [BankMode.standby, .service], (let s := dormant m
     ({ s with link := { s.link with stopping := true } } : State).link.stopping = true ∧ s.bcm.mode = m)) := by decide +kernel

theorem met_HeadersSent :
    (bank6.mayDrive = true ∧ bank6.link.next < 16 ∧ bank6.link.autoDone = false ∧ bank6.link.autoAt = bank6.link.next) ∧
    (let s := { atSlot 15 bank6 with link := { (atSlot 15 bank6).link with trigger := true } }
     s.mayDrive = true ∧ s.link.next < 16 ∧ s.link.autoDone = true ∧ s.link.trigger = true ∧ s.link.gapHeader = false) ∧
    (atSlot 15 bank6).link.trigger = false := by decide +kernel

/-- An operation that leaves the trigger alone, and one that changes a flag at a position with its edge enabled. -/
theorem met_FlagsMakeTriggers :
    (State.modTrunk (fun k => { k with unwanted := 1 }) bank6).link.trigger = bank6.link.trigger ∧
    (let s := { bank6 with link := { bank6.link with settings := { bank6.link.settings with falling := 1 } } }
     s.flag .bankOpen = true ∧ s.link.settings.select.get 0 = .bankOpen ∧ (s.setMode .closing).flag .bankOpen = false ∧
       s.link.trigger = false ∧ (s.setMode .closing).link.trigger = true) := by decide +kernel

/-- The link at lane 15's slot, which holds these commands. -/
def due (f : Slot → Slot) : State := (atSlot 15 bank6).modSlot 15 f

theorem met_SlotCarriesDueCommand :
    (let s := due fun k => { k with resetDue := true, link := .absent }; s.slotReached 15 = true ∧ (s.slot 15).resetDue = true) ∧
    (let s := due fun k => { k with link := .absent }; s.slotReached 15 = true ∧ (s.slot 15).link = .absent) ∧
    (let s := due fun k => { k with link := .joining }; s.slotReached 15 = true ∧ (s.slot 15).link = .joining) ∧
    (let s := due id
     let t := { s with link := { s.link with test := some { count := 1, word := 5, begun := true } } }
     t.slotReached 15 = true ∧ (t.slot 15).link = .active) ∧
    (let s := due fun k => { k with repeatDue := true }; s.slotReached 15 = true ∧ (s.slot 15).repeatDue = true ∧ s.link.test = none) ∧
    (let s := due fun k => { k with verdict := some (.grant .entry 80) }; s.slotReached 15 = true) ∧
    (let s := due fun k => { k with parameterDue := true }
     let t := { s with mge := { s.mge with phase := .accessing ⟨34, 7, 20⟩ ⟨15, 63, false, 0, none⟩ } }
     t.slotReached 15 = true ∧ (t.slot 15).parameterDue = true) ∧
    (let s := due fun k => { k with modeDue := true }; s.slotReached 15 = true ∧ (s.slot 15).verdict = none) ∧
    (let s := due fun k => { k with lamp := some .closed }; s.slotReached 15 = true ∧ (s.slot 15).modeDue = false) ∧
    (let s := due id; s.slotReached 15 = true ∧ (s.slot 15).lamp = none) := by decide +kernel

/-- Lane 3 of bank 6 in this state, its reply awaited. -/
def replying (f : Lane → Lane) : State := heardAt 3 (.poll false) (bank6.modLane 3 f)

theorem met_replying (f : Lane → Lane) : (replying f).listens 3 .active := by
  refine ⟨rfl, rfl, rfl, rfl, ?_, ?_, ?_⟩ <;>
    simp [replying, heardAt, State.slot, State.modSlot, State.modLane, upd, Vector.get_eq_getElem, bank6, activeSlot]

theorem met_ReportsReachTheSequencer :
    (let s := replying id
     s.isMarked (s.sequencer 3) 3 = false ∧ (s.slot 3).lastNumber ≠ some 15 ∧ (s.slot 3).lastNumber = some 0 ∧
       (s.slot 3).sent ≠ some .again) ∧
    ((bank6.lane 3).state = .idle ∧ (bank6.lane 3).direction = .entry) ∧
    ((bank6.lane 12).state = .idle ∧ (bank6.lane 12).direction = .exit) ∧
    (let n := { bank6.lane 3 with override := .freeExit }; n.direction = .freeExit) ∧
    (service.lane 3).state = .closed ∧ (running.lane 3).state = .querying := by decide +kernel

/-- Lanes 0 and 1 are a wide lane, whose verdicts go to both slots; lane 3 stands alone. -/
theorem met_WideLane : (uncharged.pairs.get 0).inForce = true ∧ uncharged.sequencer 1 = 0 ∧ uncharged.slotsOf 0 = [0, 1] ∧
    uncharged.slotsOf 1 = [1] ∧ uncharged.sequencer 3 = 3 ∧ uncharged.slotsOf 3 = [3] := by decide +kernel

/-- Lane 3's slot repeats, and the unit has not had this command. -/
def repeating (c : SlotCommand) (s : State) : State := heardAt 3 .again (s.modSlot 3 fun k => { k with outstanding := some c })

theorem met_UndeliveredCommand :
    (∀ c ∈ [SlotCommand.verdict (.grant .entry 80), .lamp .ready, .mode (some ControlImage.initial), .parameter 63 false 0],
      (let s := repeating c bank6
       s.link.running = true ∧ s.link.awaiting = true ∧ s.link.next = 3 ∧ (s.slot 3).link = .active ∧
         (s.slot 3).lastNumber = some 0 ∧ (s.slot 3).sent = some .again ∧ (s.slot 3).outstanding = some c ∧
         (s.slot 3).verdict = none ∧ (s.slot 3).lamp = none)) ∧
    ((bank6.modLane 3 fun n => { n with state := .opened }).lane (bank6.sequencer 3)).state = .opened ∧
    (let n := (bank6.sendRefusal 3 .refer none).lane 3
     n.state = .refusing ∧ n.result.map (fun x => x.verdict) = some .refer) ∧
    (bank6.lane 3).state = .idle ∧
    (let s := { bank6 with mge := { bank6.mge with phase := .accessing ⟨34, 7, 20⟩ ⟨3, 63, false, 0, some 1⟩ } }
     s.mge.phase = .accessing ⟨34, 7, 20⟩ ⟨3, 63, false, 0, some 1⟩) := by decide +kernel

theorem met_ConfirmAndAnswerEndWork :
    (let s := replying fun n => { n with commanding := true }
     (s.lane 3).commanding = true ∧ (s.lane 3).confirmed ≠ some (s.lane 3).control ∧ s.isMarked (s.sequencer 3) 3 = false ∧
       (s.slot 3).lastNumber ≠ some 15) ∧
    (bank6.lane 3).commanding = false ∧ ({ ControlImage.initial with power := false } : ControlImage) ≠ (bank6.lane 3).control ∧
    (⟨3, 63, true, 0, some 0⟩ : Access).slots.isSome = true ∧ (⟨3, 63, true, 0, some 3⟩ : Access).slots = some 3 ∧
    (⟨3, 63, true, 0, some 2⟩ : Access).slots ≠ some 3 := by decide +kernel

theorem met_HelloStartsJoining : (activeSlot.lastNumber = some 0 ∧ activeSlot.lastNumber ≠ some 15) ∧
    ({ activeSlot with link := .joining, joinRun := 1 } : Slot).joinRun < 2 ∧
    2 ≤ ({ activeSlot with link := .joining, joinRun := 2 } : Slot).joinRun ∧
    (∀ st ∈ [SlotLink.absent, .joining, .active],
      ((heardAt 15 (.poll true) (bank6.modSlot 15 fun k => { k with link := st })).slot 15).link = st) := by decide +kernel

theorem met_FailedAndTestReplies : (replying id).link.test = none ∧ readReply [] = none ∧
    (let s := heardAt 3 (.test 5) bank6; s.link.test = none ∧ (s.slot 3).sent = some (.test 5)) ∧
    (let s := heardAt 3 (.mode none) bank6; s.link.awaiting = true ∧ (s.slot 3).sent = some (.mode none)) ∧
    (let s := { heardAt 3 (.test 5) bank6 with link := { (heardAt 3 (.test 5) bank6).link with test := some ⟨1, 5, true⟩ } }
     s.link.running = true ∧ s.link.awaiting = true ∧ s.link.next = 3 ∧ s.link.stopping = false ∧ (s.slot 3).link = .active ∧
       (s.slot 3).sent = some (.test 5) ∧ (s.slot 3).lastNumber ≠ some 15 ∧ s.isMarked (s.sequencer 3) 3 = false ∧
       s.link.testing.isSome = true) := by decide +kernel

/-- A failed slot that carried a Poll, with a test set up and with one running. -/
theorem met_FailedWhileTesting : ∀ b ∈ [false, true],
    (let s := heardAt 3 (.poll false) { bank6 with link := { bank6.link with test := some ⟨1, 5, b⟩ } }
     s.link.running = true ∧ s.link.awaiting = true ∧ s.link.next = 3 ∧ s.link.stopping = false ∧ (s.slot 3).link = .active ∧
       (s.slot 3).sent = some (.poll false) ∧ s.link.test = some ⟨1, 5, b⟩) := by decide +kernel

/-- A duplicate and a garbled reply in a test slot, with the test running and after its end. -/
theorem met_DuplicateTestReplies :
    (let s := heardAt 3 (.test 5) { bank6 with link := { bank6.link with test := some ⟨1, 5, true⟩ } }
     s.link.running = true ∧ s.link.awaiting = true ∧ s.link.next = 3 ∧ s.link.stopping = false ∧ (s.slot 3).link = .active ∧
       (s.slot 3).sent = some (.test 5) ∧ (s.slot 3).lastNumber = some 0 ∧ (6 : BitVec 16) ≠ 5 ∧ s.link.test = some ⟨1, 5, true⟩) ∧
    (let s := heardAt 3 (.test 5) bank6
     s.link.stopping = false ∧ (s.slot 3).sent = some (.test 5) ∧ (s.slot 3).lastNumber = some 0 ∧ s.link.test = none) ∧
    readReply [] = none := by decide +kernel

theorem met_LossMarkAndTestEnd :
    (let s := bank6.modSlot 3 fun k => { k with failureRun := 4 }; (s.slot 3).link = .active ∧ 4 ≤ (s.slot 3).failureRun) ∧
    ((leaving (ticketOf .single 6 1 (.resting .inside))).lane 12).state = .opened ∧
    (let s := bank6.modLane 3 fun n => { n with state := .opened }; (s.lane 3).state = .opened ∧ (s.lane 3).direction ≠ .exit) ∧
    (2 ≤ (⟨3, 2⟩ : MateMark).reports ∧ (⟨3, 1⟩ : MateMark).reports < 2) ∧
    (let s := { bank6 with pairs := bank6.pairs.set 1 ⟨true, true⟩ }.modLane 2 fun n => { n with mate := some ⟨3, 0⟩ }
     s.combined 3 = true ∧ (s.lane (s.sequencer 3)).mate = some ⟨3, 0⟩ ∧ (s.slot 3).lastNumber ≠ some 15 ∧
       (⟨3, 0⟩ : MateMark).head ≠ 2) ∧
    (bank6.combined 3 = false ∧ (bank6.lane 3).mate = none ∧ bank6.link.test = none ∧
      (bank6.modSlot 3 fun k => { k with failureRun := 3 }).slot 3 = { activeSlot with failureRun := 3 }) ∧
    (let s := { bank6 with mge := { bank6.mge with phase := .accessing ⟨34, 7, 20⟩ ⟨3, 63, false, 0, none⟩ } }
     s.mge.phase = .accessing ⟨34, 7, 20⟩ ⟨3, 63, false, 0, none⟩ ∧ (3 : LaneNo) ≠ 4) ∧
    ((running.lane 3).state = .querying ∧ (running.peers.queries.find? fun y => decide (y.lane = 3)).isSome = true ∧
      (running.slot 3).link = .active ∧ (State.reset.slot 3).link ≠ .active ∧ (service.lane 3).state = .closed) ∧
    ((⟨1, 5, true⟩ : LinkTest).count ≤ 1 ∧ 1 < (⟨2, 5, true⟩ : LinkTest).count) := by decide +kernel

/-! ### Passages, timers and time -/

/-- What a grant of the worked key by hold leaves. -/
def byHold (a : Authority) : DecisionResult :=
  { verdict := .grant, authority := some a, cls := some .single, zone := some 5, provisional := decide (a = .degraded), held := true }

/-- Lane 3 OPEN for the worked key. -/
def admitted (a : Authority) (n : Lane) : Lane :=
  { n with state := .opened, key := some key, result := some (byHold a), reservation := some 5, passTimer := some 8000 }

def heldBy3 : RecordState := .held { holder := .lane 3 (some 5), prior := .unused, revokePending := none }

/-- Lane 3's unit shows that it has not had its Grant (R126). -/
def ungranted : State := after (.nothingReport 3 0) (repeating (.verdict (.grant .entry 80)) (bank6.modLane 3 (admitted .byBank)))

/-- An undelivered Grant is due again, and is discarded when the pass window ends before it is sent; a Grant that was never sent
waits on. -/
theorem test_undelivered_grant_ends_with_operation :
    ((ungranted.slot 3).verdict = some (.grant .entry 80) ∧ (ungranted.slot 3).undelivered = true) ∧
    (let t := after (.passWindowExpiry 3) ungranted
     (t.lane 3).state = .idle ∧ (t.slot 3).verdict = none ∧ (t.slot 3).undelivered = false ∧ (t.slot 3).lamp = some .ready) ∧
    (let t := after (.passWindowExpiry 3) (ungranted.modSlot 3 (Slot.queueVerdict (.grant .entry 80)))
     (t.slot 3).verdict = some (.grant .entry 80)) := by decide +kernel

/-- A REFUSING lane whose undelivered Refuse waits, and which a presentation makes QUERYING, discards it. -/
theorem test_undelivered_refuse_ends_with_query :
    let s := (bank6.sendRefusal 3 .refuse none).modSlot 3 (Slot.requeueVerdict (.refuse 20))
    let t := s.sendQuery 3 key none (ticketOf .single 2 0 (.resting .unused))
    (s.slot 3).undelivered = true ∧ (t.lane 3).state = .querying ∧ (t.slot 3).verdict = none := by decide +kernel

/-- A wide lane of lanes 2 and 3, whose upper head is marked. -/
def wide : State := { bank6 with pairs := bank6.pairs.set 1 ⟨true, true⟩ }.modLane 2 fun n => { n with mate := some ⟨3, 0⟩ }

theorem met_MarkedHead :
    (let s := heardAt 3 (.poll false) wide
     s.link.running = true ∧ s.link.awaiting = true ∧ s.link.next = 3 ∧ (s.slot 3).link = .active ∧
       (s.slot 3).lastNumber ≠ some 15 ∧ s.combined 3 = true ∧ (s.lane (s.sequencer 3)).mate = some ⟨3, 0⟩) := by decide +kernel

/-- A Hello of the marked head counts as a further report. -/
theorem test_mark_counts_hello :
    ((after (.helloReport 3 15 7) (heardAt 3 (.poll false) (wide.modSlot 3 fun k => { k with link := .joining }))).lane 2).mate =
      some ⟨3, 1⟩ := by decide +kernel

/-- A wrong echo after the test has ended is discarded. -/
theorem test_echo_after_test_end : ((after (.testEcho 3 15 9) (heardAt 3 (.test 5) bank6)).slot 3).mismatches = 0 := by
  decide +kernel

theorem met_PassageEndsOperation :
    (let s := replying (admitted .byBank)
     (s.slot 3).lastNumber ≠ some 15 ∧ s.isMarked (s.sequencer 3) 3 = false ∧
       ((s.lane (s.sequencer 3)).state = .opened ∧ (s.lane (s.sequencer 3)).key = some key ∧
         (s.lane (s.sequencer 3)).result = some (byHold .byBank) ∧ (s.lane (s.sequencer 3)).granted = .entry)) ∧
    (let s := heardAt 12 (.poll false) (leaving (ticketOf .single 6 1 (.resting .inside)))
     (s.lane (s.sequencer 12)).state = .opened ∧ (s.lane (s.sequencer 12)).granted = .exit) := by decide +kernel

theorem met_PassageRecordsEntry :
    (let s := bank6.modLane 3 (admitted .byBank)
     (s.lane 3).key = some key ∧ (s.lane 3).result = some (byHold .byBank) ∧ s.lookup key = none) ∧
    (let r := ticketOf .single 9 0 heldBy3
     let s := (bank6 |> holds r).modLane 3 (admitted .degraded)
     s.lookup key = some (3372, r) ∧ (byHold .degraded).held = true ∧ (byHold .degraded).authority = some .degraded ∧
       (s.peer r.home).state ≠ .up) ∧
    (let r := ticketOf .single 9 0 (.resting .unused); (bank6 |> holds r).lookup key = some (3372, r)) ∧
    ({ byHold .byBank with held := false } : DecisionResult).held = false := by decide +kernel

theorem met_ExitUpdateByRecord : (bank6.lane 12).key = none ∧
    (let s := { leaving (ticketOf .single 6 1 (.resting .inside)) with table := State.reset.table }; s.lookup key = none) ∧
    (let r := ticketOf .group 6 2 (.resting .inside)
     ((leaving r).lane 12).key = some key ∧ (leaving r).lookup key = some (3372, r) ∧ r.cls = .group) ∧
    (ticketOf .single 6 0 (.resting .unused)).state ≠ .resting .inside ∧
    (let r := ticketOf .returning 6 1 (.resting .inside)
     (leaving r).lookup key = some (3372, r) ∧ r.cls ≠ .group ∧ r.used < r.allowance) := by decide +kernel

theorem met_OperationEndsWithoutEntry :
    (let s := bank6.modLane 3 (admitted .byBank)
     (s.lane 3).passTimer = some 8000 ∧ (s.lane 3).state = .opened ∧ (s.lane 3).granted = .entry ∧
       (s.lane 3).key = some key ∧ (s.lane 3).result = some (byHold .byBank) ∧ s.lookup key = none) ∧
    ((leaving (ticketOf .single 6 1 (.resting .inside))).lane 12).granted = .exit ∧
    (bank6.lane 3).passTimer = none ∧
    (let s := bank6.modLane 3 fun n => { n with state := .refusing, displayTimer := some 1500 }
     (s.lane 3).state = .refusing ∧ (s.lane 3).displayTimer = some 1500) ∧
    (let r := ticketOf .single 2 0 heldBy3
     let s := (bank6 |> holds r).modLane 3 (admitted .remote)
     s.lookup key = some (3372, r) ∧ (byHold .remote).held = true) ∧
    (let r := ticketOf .single 2 0 (.resting .unused); (bank6 |> holds r).lookup key = some (3372, r)) := by decide +kernel

theorem met_UngrantedRotation :
    (let s := heardAt 3 (.poll false) { service with bcm := { service.bcm with mode := .closing } }
     (s.lane (s.sequencer 3)).state = .closed ∧ s.bcm.mode = .closing ∧ (s.slot 3).link = .active ∧
       (s.slot 3).lastNumber ≠ some 15 ∧ s.isMarked (s.sequencer 3) 3 = false) ∧
    (service.bcm.mode ≠ .opened ∧ service.bcm.mode ≠ .closing) ∧
    (let s := replying id; (s.lane (s.sequencer 3)).state = .idle ∧ (s.lane (s.sequencer 3)).direction = .entry) ∧
    (let s := replying fun n => { n with override := .freeExit }
     (s.lane (s.sequencer 3)).state = .idle ∧ (s.lane (s.sequencer 3)).direction = .freeExit) := by decide +kernel

/-- Pairs 0 to 2 wait to be combined and pair 3 to be separated. -/
def pairing : State :=
  { bank6 with pairs := (((bank6.pairs.set 0 ⟨true, false⟩).set 1 ⟨true, false⟩).set 2 ⟨true, false⟩).set 3 ⟨false, true⟩ }

theorem met_PairsSettle :
    ((pairing.pairs.get 0).requested ≠ (pairing.pairs.get 0).inForce ∧ (pairing.pairs.get 0).requested = true ∧
      (pairing.lane 0).state = .idle ∧ (pairing.lane 1).state = .idle) ∧
    ((pairing.pairs.get 3).requested ≠ (pairing.pairs.get 3).inForce ∧ (pairing.pairs.get 3).requested = false ∧
      (pairing.lane 6).state = .idle) ∧
    (let s := { service with pairs := pairing.pairs }; (s.lane 0).state = .closed ∧ (s.lane 1).state = .closed ∧ (s.lane 6).state = .closed) ∧
    ((pairing.pairs.get 4).requested = (pairing.pairs.get 4).inForce ∧ (running.lane 3).state = .querying) := by decide +kernel

/-- The operations that an abort ends: an OPEN entry lane's, an OPEN exit lane's, a query. -/
theorem met_AbortedOperations :
    (let s := (bank6 |> holds (ticketOf .single 6 0 heldBy3)).modLane 3 (admitted .remote)
     (s.lane 3).state = .opened ∧ (s.lane 3).direction ≠ .exit) ∧
    (let s := leaving (ticketOf .single 6 1 (.resting .inside)); (s.lane 12).state = .opened ∧ (s.lane 12).direction = .exit) ∧
    ((asking.lane 3).state = .querying ∧
      (asking.peers.queries.find? fun y => decide (y.lane = 3)) = some ⟨9, 3, 2, key, some 5, 150⟩) ∧
    ((bank6.lane 3).state = .idle ∧ (service.lane 3).state = .closed) := by decide +kernel

/-- R38, R92: the lane reset of an OPEN lane reverts its record, releases its zone and writes WITHDRAWN. -/
theorem test_reset_of_open_lane :
    let s := (bank6 |> holds (ticketOf .single 2 0 heldBy3)).modLane 3 (admitted .remote)
    let t := s.resetLane 3
    (t.lookup key).map (fun x => x.2.state) = some (.resting .unused) ∧ (s.zone 5).held = 3 ∧ (t.zone 5).held = 2 ∧
      reasonOf t = some (.withdrawn, none) ∧ t.trunk.peerQ.map (fun f => (f.dst, f.kind)) = [(2, .withdrawNotice)] := by
  decide +kernel

/-- A CLOSED lane that meets the conditions on what it has in force, and one that does not. -/
theorem met_OfferedIdle :
    (let s := bank6.modLane 3 fun n => { n with state := .closed }
     (s.lane 3).state = .closed ∧ (s.slot 3).link = .active ∧ (s.lane 3).inForce.isSome = true ∧ (s.lane 3).direction ≠ .closed ∧
       ¬(s.combined 3 = true ∧ (3 : LaneNo).val % 2 = 1) ∧ s.bcm.mode = .opened) ∧
    (let s := bank6.modLane 3 fun _ => Lane.initial
     (s.lane 3).state = .closed ∧ ¬(s.lane 3).inForce.isSome = true) ∧
    ((Lane.initial.power = true ∧ Lane.initial.override = .none) ∧ ({ Lane.initial with power := false } : Lane).power = false) := by
  decide +kernel

theorem met_LaneRestsIdleOrClosed :
    (let t := bank6.rest 3
     (bank6.slot 3).link = .active ∧ (t.lane 3).inForce.isSome = true ∧ (t.lane 3).direction ≠ .closed ∧
       ¬(bank6.combined 3 = true ∧ 3 % 2 = 1) ∧ bank6.bcm.mode = .opened) ∧
    (service.lane 3).state = .closed ∧ service.bcm.mode ≠ .opened ∧ (bank6.lane 3).state ≠ .closed ∧
    (running.lane 3).state = .querying := by decide +kernel

/-- The bank in this mode at this event time, its schedule armed from 700,000 to 720,000. -/
def scheduled (m : BankMode) (t : Nat) : State :=
  { dormant m with bcm := { (dormant m).bcm with clock := some t, schedule := ⟨700000, 720000, true, .service⟩ } }

theorem met_ClockAndSurgeAdvance : State.reset.bcm.clock = none ∧
    (let s := scheduled .service 699999
     s.bcm.clock = some 699999 ∧ s.bcm.schedule.armed = true ∧ 700000 = s.bcm.schedule.opening ∧ s.bank.isSome = true ∧
       s.bcm.mode = .service) ∧
    (scheduled .standby 699999).bcm.mode = .standby ∧
    (let s := scheduled .opened 719999; 720000 ≠ s.bcm.schedule.opening ∧ 720000 = s.bcm.schedule.closing ∧ s.bcm.mode = .opened) ∧
    (scheduled .closing 719999).bcm.mode ≠ .opened ∧ bank6.bcm.schedule.armed = false ∧
    (let g := { bank6.bcm.surge with estimate := 152, count := 27 }; 8 * g.on ≤ g.estimate - g.estimate / 8 + g.count) ∧
    (let g := { bank6.bcm.surge with flag := true, estimate := 96, count := 11 }
     ¬8 * g.off ≤ g.estimate - g.estimate / 8 + g.count) := by decide +kernel

/-! ### Frames -/

theorem met_RequestFrameJoinsQueue :
    (let f : FrameFields := ⟨33, 34, 0, List.replicate 512 0⟩; f.payload.length ≤ bank6.trunk.maxPayload ∧ bank6.bcm.mode ≠ .deep) ∧
    (bank6.bank = some 6 ∧ (6 : Byte) = bankByte 6) ∧ bank6.mge.queue.length < 8 ∧
    8 ≤ (List.replicate 8 (request [1])).length := by decide +kernel

theorem met_FramesDiscarded :
    ([1, 2, 3, 4, 5, 6, 7] : List Byte).length < 8 ∧ 8 + bank6.trunk.maxPayload < 521 ∧
    (let bytes : List Byte := [33, 34, 1, 0, 0, 0, 0, 0]
     8 ≤ bytes.length ∧ bytes.drop (bytes.length - 2) ≠ be 2 (crc16 (bytes.take (bytes.length - 2))).toNat) ∧
    (bank6.trunk.maxPayload < ofBytes [2, 1] ∧ ofBytes [2, 0] ≤ bank6.trunk.maxPayload) ∧
    (ofBytes [0, 1] ≠ 0 ∧ ofBytes [0, 0] = 0) ∧ ((0 : Byte).toNat = 0 ∧ 13 < (14 : Byte).toNat) ∧
    ¬((32 : Byte).toNat < 32 ∨ (32 : Byte) = 33 ∨ (32 : Byte) = 34) ∧
    (∀ b, bank6.bank = some b → (7 : Byte) ≠ bankByte b) ∧ (dormant .deep).bcm.mode = .deep ∧
    (let s := { bank6 with bank := none }; s.bank = none ∧ (32 : Byte) ≠ 33) := by
  refine ⟨by decide, by decide, by decide +kernel, by decide, by decide, by decide, by decide, ?_, by decide, by decide⟩
  intro b hb; cases hb; decide

/-- A notice of bank 2 for every bank: taken and then discarded by each of the conditions, or with bytes that fail their check. -/
theorem met_PeerFramesDiscarded :
    let f := fromBank2 32 (exitPayload ⟨.barcode, 40215906117⟩ 2 1 none .spent)
    ((FrameKind.exitNotice = .entryNotice ∨ FrameKind.exitNotice = .exitNotice) ∧ f.dst = 32 ∧ f.payload.length ≤ 512) ∧
    (dormant .standby).bcm.mode = .standby ∧ (let s := { bank6 with bank := none }; s.bank = none) ∧
    (let g := { f with src := 6 }; bank6.bank = some 6 ∧ g.src = bankByte 6) ∧
    (let g := { f with src := 33 }; 32 ≤ g.src.toNat) ∧
    (bank6.bank = some 6 ∧ (2 : BankNo) ≠ 6 ∧ f.src = bankByte 2 ∧ bank6.bcm.mode ≠ .standby) ∧ readPeer .exitNotice [1] = none ∧
    (readPeer .exitNotice (exitPayload key 3 1 none .spent)).map (fun p => p.bank) = some (some 3) ∧ (3 : BankNo) ≠ 2 := by
  decide +kernel

theorem met_WakeFrameReleasesDeep : State.fits (dormant .deep) ⟨33, 34, 0, [0, 0]⟩ ∧ State.addressed (dormant .deep) 33 ∧
    (let s := dormant .deep
     s.bcm.wakeOffset + s.bcm.wakePattern.length ≤ 2 ∧ (([0, 0] : List Byte).drop s.bcm.wakeOffset).take 2 = s.bcm.wakePattern ∧
       ((([0, 1] : List Byte).drop s.bcm.wakeOffset).take 2 ≠ s.bcm.wakePattern)) ∧ bank6.bcm.mode ≠ .deep :=
  ⟨⟨by decide, by decide⟩, .inr (.inl rfl), by decide, by decide⟩

/-- Bank 6 with one undrained record, written at 0 ms. -/
def logged : State :=
  bank6.writeLog ⟨some 680000, 6, 3, .refused, some .unknown, none, some key, none, none, false⟩

theorem met_TallyAndAuditFramesBuilt : bank6.log.undrained = 0 ∧
    (logged.log.undrainedEntries.length = 1 ∧ 0 < logged.log.undrained) ∧
    (let s := { logged with log := { logged.log with due := true } }; s.log.due = true ∧ s.trunk.reportQ.length < 16) ∧
    logged.log.due = false ∧
    (let s := { logged with log := { logged.log with audit := some ⟨0, 2, 0, 0⟩ } }
     s.log.audit = some ⟨0, 2, 0, 0⟩ ∧ (auditRead s.log s.effectiveBatch 0 2).left = 0 ∧
       (auditRead s.log s.effectiveBatch 0 2).found.length = 1) ∧
    (let s := { logged with log := { logged.log with audit := some ⟨0, 2, 0, 0⟩, calm := ⟨1, 10⟩ } }
     (auditRead s.log s.effectiveBatch 0 2).left ≠ 0) := by decide +kernel

/-- A log whose ring is sound. -/
theorem met_AuditSpan : logged.log.ringOk := by unfold Log.ringOk; decide +kernel

theorem met_EventAndStatusFramesPlaced : bank6.evu.inRange ∧
    (let s := { bank6 with evu := { bank6.evu with wanted := true } }
     s.evu.wanted = true ∧ (∀ f ∈ s.trunk.reportQ, f.body ≠ .eventList) ∧ s.trunk.reportQ.length < 16 ∧ s.evu.holdoff = none) ∧
    bank6.evu.wanted = false ∧ bank6.evu.statusTimer = some 10000 ∧
    (let s := { bank6 with evu := { bank6.evu with statusDue := true } }; s.evu.statusRest = none ∧ s.evu.statusDue = true) ∧
    (let s := { bank6 with evu := { bank6.evu with statusRest := some (1, [5]), holdoff := some 100 } }
     s.evu.statusRest = some (1, [5]) ∧ s.evu.holdoff = some 100) ∧
    bank6.evu.statusDue = false := by unfold Evu.inRange; decide +kernel

/-- A waiting frame. -/
def frame : TxFrame := ⟨34, .reply, 0, .bytes []⟩

theorem met_ArbiterSendsFrame :
    (let k := { bank6.trunk with peerQ := [frame] }; k.peerQ = frame :: []) ∧
    (let k := { bank6.trunk with replyQ := [frame], reportQ := [frame], lastServed := some .report }
     k.peerQ = [] ∧ k.replyQ = frame :: [] ∧ k.arbiter = .roundRobin ∧ k.lastServed = some .report) ∧
    (let k := { bank6.trunk with replyQ := [frame], reportQ := [frame], arbiter := .weighted, reportCount := 4 }
     k.weight ≤ k.reportCount) ∧
    (let k := { bank6.trunk with replyQ := [frame], reportQ := [frame], arbiter := .weighted, reportCount := 3 }
     k.arbiter ≠ .reportOff ∧ k.reportCount < k.weight) ∧
    (bank6.trunk.peerQ = [] ∧ bank6.trunk.replyQ = [] ∧ bank6.trunk.reportQ = []) := by decide +kernel

theorem met_PeerFrameSetsSourceUp :
    (let e : Reconcile := ⟨key, 2, none, 1, 1, none⟩
     (∀ n ∈ [31, 32], (let s := { bank6 with trunk := { bank6.trunk with peerQ := List.replicate n frame } }
       s.trunk.peerQ.length = n)) ∧
     ∀ n ∈ [255, 256], (let s := { bank6 with peers := { bank6.peers with reconcile := List.replicate n e } }
       s.peers.reconcile.length = n)) ∧
    (bank6.peer 2).state = .up ∧ (bank6.peer 9).state = .down ∧
    (let s := bank6.modPeer 2 fun p => { p with state := .suspect }; (s.peer 2).state = .suspect) := by decide +kernel

theorem met_QueryAnsweredByHome :
    (readPeer .query (fromBank2 6 query).payload = some (.query ⟨key, 1, 80, 60⟩) ∧ (fromBank2 6 query).dst = bankByte 6 ∧
      (bank6.heardFrom 2).trunk.peerQ.length < 32 ∧ query.length ≤ 512) ∧
    ({ (bank6.heardFrom 2).table with sweeping := true } : Table).sweeping = true ∧ (bank6.heardFrom 2).lookup key = none ∧
    (let s := (bank6 |> holds (ticketOf .single 6 0 (.revoked 7))).heardFrom 2
     s.lookup key = some (3372, ticketOf .single 6 0 (.revoked 7))) ∧
    (let s := (bank6 |> holds (ticketOf .single 6 0 heldBy3)).heardFrom 2; s.lookup key = some (3372, ticketOf .single 6 0 heldBy3)) ∧
    ((ticketOf .single 6 1 (.resting .inside)).stateTest 60 (some 680000) = some .alreadyIn ∧
      (ticketOf .single 6 0 (.resting .unused)).stateTest 60 (some 680000) = none) := by decide +kernel

theorem met_AnswersMatchedByTag :
    (readPeer .answer (answerBytes 0 0xFF) = some (.answer ⟨key, .grant, none, 1⟩) ∧
      readPeer .answer (answerBytes 1 12) = some (.answer ⟨key, .refuse, some .alreadyIn, 1⟩) ∧
      readPeer .answer (answerBytes 2 0xFF) = some (.answer ⟨key, .unavailable, none, 1⟩)) ∧
    ((asking.peers.queries.find? fun x => decide (x.tag = 9 ∧ x.home = 2 ∧ x.key = key)) = some ⟨9, 3, 2, key, some 5, 150⟩) ∧
    (let u := (asking.heardFrom 2).dropQuery 3; u.lookup key = none) ∧
    (let u := ((asking |> holds (ticketOf .single 2 0 (.resting .unused))).heardFrom 2).dropQuery 3
     u.lookup key = some (3372, ticketOf .single 2 0 (.resting .unused))) ∧
    ((bank6.peers.queries.find? fun x => decide (x.tag = 9 ∧ x.home = 2 ∧ x.key = key)) = none ∧
      (bank6.peers.lapsed.find? fun x => decide (x.tag = 9 ∧ x.home = 2 ∧ x.key = key)) = none) ∧
    (((gaveUp .grant).peers.lapsed.find? fun x => decide (x.tag = 9 ∧ x.home = 2 ∧ x.key = key)) =
      some ⟨9, 3, 2, key, .grant, 12000⟩) ∧
    (((gaveUp .aborted).peers.lapsed.find? fun x => decide (x.tag = 9 ∧ x.home = 2 ∧ x.key = key)) =
      some ⟨9, 3, 2, key, .aborted, 12000⟩) := by decide +kernel

/-- Bank 2's lane 1 entered with the worked key at 650,000. -/
def noticeBytes (p : Bool) : List Byte := entryPayload key 2 1 (some 650000) 1 p (some 3)

/-- The record held by bank 2's lane 1. -/
def heldRemotely (w : Option (Fin 16)) : Record :=
  ticketOf .single 6 0 (.held { holder := .remote 2 1 12000, prior := .unused, revokePending := w })

theorem met_RepeatedNotices :
    (readPeer .reconcileNotice (noticeBytes true) = some (.reconcile ⟨key, 2, 1, some 650000, 1, true, some 3⟩) ∧
      readPeer .exitNotice (exitPayload key 2 1 none .spent) = some (.exit ⟨key, 2, 1, none, .spent⟩)) ∧
    (let r := { ticketOf .single 6 1 (.resting .inside) with last := some ⟨none, 2, 1, some 3⟩ }
     ((bank6 |> holds r).heardFrom 2).lookup key = some (3372, r) ∧ r.last = some ⟨none, 2, 1, some 3⟩) ∧
    (bank6.heardFrom 2).lookup key = none := by decide +kernel

theorem met_HolderNoticeEndsRemoteHold :
    (readPeer .entryNotice (noticeBytes false) = some (.entry ⟨key, 2, 1, some 650000, 1, false, some 3⟩) ∧
      readPeer .withdrawNotice (withdrawPayload key 2 1) = some (.withdraw ⟨key, 2, 1⟩)) ∧
    (bank6.heardFrom 2).lookup key = none ∧
    (((bank6 |> holds (heldRemotely (some 15))).heardFrom 2).lookup key = some (3372, heldRemotely (some 15)) ∧
      (heldRemotely (some 15)).last = none) ∧
    (let r := { ticketOf .single 6 1 (.resting .inside) with last := some ⟨some 650000, 2, 1, some 3⟩ }
     ((bank6 |> holds r).heardFrom 2).lookup key = some (3372, r)) ∧
    (ticketOf .single 6 0 (.resting .unused)).state = .resting .unused := by decide +kernel

theorem met_EntryElsewhereApplied :
    (readPeer .entryNotice (noticeBytes false) = some (.entry ⟨key, 2, 1, some 650000, 1, false, some 3⟩) ∧
      readPeer .reconcileNotice (noticeBytes true) = some (.reconcile ⟨key, 2, 1, some 650000, 1, true, some 3⟩)) ∧
    (let r := ticketOf .single 6 0 (.resting .unused)
     ((bank6 |> holds r).heardFrom 2).lookup key = some (3372, r) ∧ r.last = none ∧ r.home = 6 ∧ r.cls ≠ .staff) ∧
    (let r := ticketOf .group 2 2 (.resting .inside)
     ((bank6 |> holds r).heardFrom 2).lookup key = some (3372, r) ∧ r.used < r.allowance) ∧
    (let r := ticketOf .single 6 1 (.resting .inside)
     ((bank6 |> holds r).heardFrom 2).lookup key = some (3372, r) ∧ r.state ≠ .resting .unused) := by decide +kernel

/-- A late entry recorded while the clock is Unset has no event time; its last keeps the notice's. -/
theorem test_late_entry_clock_unset :
    let s := { service with bcm := { service.bcm with clock := none } } |> holds (ticketOf .single 6 0 (.resting .unused))
    let t := after (.entryNotice (fromBank2 32 (noticeBytes false))) s
    t.log.kept.getLast?.map (fun e => (e.admission.outcome, e.admission.time)) = some (.lateEntry, none) ∧
    (t.lookup key).map (fun x => x.2.last) = some (some ⟨some 650000, 2, 1, some 3⟩) := by decide +kernel

theorem met_ExitNoticeApplied :
    readPeer .exitNotice (exitPayload key 2 1 (some 863999) .spent) = some (.exit ⟨key, 2, 1, some 863999, .spent⟩) ∧
    (∀ r ∈ [ticketOf .single 6 1 (.resting .inside), heldRemotely none, ticketOf .single 6 1 (.revoked 15)],
      ((bank6 |> holds r).heardFrom 2).lookup key = some (3372, r) ∧ r.last = none) ∧
    (let r := ticketOf .returning 6 2 (.resting .inside)
     r.state = .resting .inside ∧ r.cls ≠ .staff ∧ r.used < r.allowance ∧
       readPeer .exitNotice (exitPayload key 2 1 (some 0) .outside) = some (.exit ⟨key, 2, 1, some 0, .outside⟩)) := by decide +kernel

theorem met_PeerDeadlinesExpire :
    ((asking.peers.queries.find? fun x => decide (x.lane = 3)) = some ⟨9, 3, 2, key, some 5, 150⟩) ∧
    ((bank6 |> holds (heldRemotely none)).lookup key = some (3372, heldRemotely none)) ∧
    ((bank6 |> holds (ticketOf .single 6 0 heldBy3)).lookup key = some (3372, ticketOf .single 6 0 heldBy3)) ∧
    (((gaveUp .grant).peers.lapsed.find? fun x => decide (x.tag = 9)) = some ⟨9, 3, 2, key, .grant, 12000⟩) := by decide +kernel

/-! ### Requests -/

theorem met_RequestsCheckedAndReplied :
    (let s := asks [] bank6; s.mge.phase = .idle ∧ s.mge.queue.head? = some (request []) ∧ (request []).payload = []) ∧
    (35 < (36 : Byte).toNat) ∧ (asks [2] service).bcm.mode = .service ∧ (asks [2, 31] bank6).bcm.mode ≠ .service ∧
    ((14, .clearTable, 0) ∈ requestTypes ∧ (30, .readLog, 6) ∈ requestTypes ∧ ([0, 0, 0, 0, 0] : List Byte).length < 6 ∧
      ([31] : List Byte).length < 2 ∧ [1].length < 32 * (1 : Byte).toNat) ∧
    (givenSize (2 ^ 1) [3, 1, 1, 1, 1] = 1 ∧ givenSize 0 [12, 1, 1, 2] = 0 ∧ 2 ^ 32 - 1 < 2 ^ 32) ∧
    (running.mge.queue = [] ∧ (MgePhase.sweeping ⟨34, 7, 14⟩ none) ≠ .idle) ∧
    4 < bank6.trunk.maxPayload ∧
    (let r : ReplyRest := ⟨⟨34, 7, 1⟩, .ok, .none, 0, []⟩; r.part = 0 ∧ (MgePhase.replying r = .replying r)) := by decide +kernel

theorem met_BankRequestsTakeEffect : bank6.bcm.mode ≠ .deep ∧ service.bcm.mode = .service ∧
    ((asks (byte 2 :: [31]) service).asked (request (byte 2 :: [31])) 2 [31] ∧ (31 : Byte) = bankByte 31 ∧ 32 ≤ (32 : Byte).toNat) ∧
    ((asks (byte 3 :: be 2 9999) service).asked (request (byte 3 :: be 2 9999)) 3 (be 2 9999 ++ [])) ∧
    ((asks (byte 4 :: be 3 863999) service).asked (request (byte 4 :: be 3 863999)) 4 (be 3 863999 ++ []) ∧ 863999 < 864000 ∧
      service.bcm.schedule.armed = false) ∧
    (optFits 3 (some 863999) ∧ optFits 3 none ∧ (1 = bit true) ∧ (4 = modeCode RestMode.deep.mode) ∧ 863999 < 864000 ∧ 0 ≠ 863999) ∧
    (1 ≤ ([0] : List Byte).length ∧ (List.replicate 16 (0 : Byte)).length ≤ 16 ∧ (63 : Byte).toNat ≤ 63) := by
  refine ⟨by decide, by decide, ⟨⟨rfl, rfl, rfl⟩, by decide, by decide⟩, ⟨rfl, rfl, rfl⟩, ⟨⟨rfl, rfl, rfl⟩, by decide, by decide⟩, ⟨?_, ?_, by decide⟩,
    by decide⟩
  · intro v h; cases h; decide
  · intro v h; cases h

/-- Set Clock to the opening and to the closing time of the armed schedule, and to another time. -/
theorem met_ClockSetToSchedule :
    (let s := scheduled .standby 5
     s.bcm.schedule.armed = true ∧ 700000 = s.bcm.schedule.opening ∧ s.bank.isSome = true ∧ s.bcm.mode = .standby) ∧
    (let s := scheduled .opened 5
     s.bcm.schedule.armed = true ∧ 720000 ≠ s.bcm.schedule.opening ∧ 720000 = s.bcm.schedule.closing ∧ s.bcm.mode = .opened) ∧
    ((scheduled .service 5).bcm.mode = .service ∧ (scheduled .closing 5).bcm.mode ≠ .opened ∧
      ({ scheduled .service 5 with bank := none } : State).bank = none ∧ 700001 ≠ (scheduled .service 5).bcm.schedule.opening ∧
      700001 ≠ (scheduled .service 5).bcm.schedule.closing) := by decide +kernel

theorem met_BankModeByTable : bank6.bcm.mode = .opened ∧ service.bcm.mode = .service ∧
    ((asks (byte 6 :: [byte (modeCode .deep)]) service).asked (request (byte 6 :: [byte (modeCode .deep)])) 6
      (byte (modeCode .deep) :: [])) ∧
    ({ service with bank := none } : State).bank = none ∧
    (service.bank.isSome = true ∧ service.bcm.clock.isSome = true ∧ ({ service.bcm with clock := none } : Bcm).clock = none) ∧
    ((service.raise .zoneFull (some 0)).evu.causes.get 6).pending = true ∧ service.evu.level 6 < service.evu.wakeThreshold ∧
    (∀ c : Fin 24, (service.evu.causes.get c).pending = false) ∧ RestMode.deep ≠ .service := by
  refine ⟨by decide, by decide, ⟨rfl, rfl, rfl⟩, by decide, by decide, by decide +kernel, by decide, ?_, by decide⟩
  intro c
  simp [service, bank6, State.reset, Evu.initial, Vector.get_eq_getElem]

theorem met_ModeChangesTakeEffect : service.link.stopping = false ∧ bank6.bcm.mode = .opened ∧
    (bank6.lane 3).state = .idle ∧ (running.lane 3).state = .querying ∧
    (∀ k, (service.pairs.get k).requested = (service.pairs.get k).inForce) ∧
    (let s := dormant .closing
     s.bcm.mode = .closing ∧ (∀ l, (s.lane l).state = .closed) ∧ s.bcm.requested = none ∧ s.bcm.schedule.afterClose = .service) ∧
    (let s := { dormant .closing with bcm := { (dormant .closing).bcm with requested := some .deep } }
     s.bcm.requested = some .deep ∧ ∀ c : Fin 24, (s.evu.causes.get c).pending = false) ∧
    (service.link.running = true ∧ service.link.awaiting = false ∧ (heardAt 3 (.poll false) bank6).link.awaiting = true) ∧
    (dormant .standby).bcm.mode = .standby ∧ RestMode.standby ≠ .service ∧
    ({ service with link := { service.link with test := some ⟨1, 5, true⟩ } } : State).link.test ≠ none := by decide +kernel

theorem met_TableRequestsTakeEffect :
    (32768 ∈ [1024, 2048, 4096, 8192, 16384, 32768] ∧ 32767 ∉ [1024, 2048, 4096, 8192, 16384, 32768]) ∧
    service.bcm.mode = .service ∧ service.table.slots = [] ∧
    ((service |> holds (ticketOf .single 6 0 heldBy3)).table.slots = [(3372, ticketOf .single 6 0 heldBy3)]) ∧
    key.value < 2 ^ 80 ∧
    ((Reader.list Reader.image) (byte 1 :: (ticketOf .single 6 0 (.resting .unused)).image 0)).isSome = true ∧
    (Reader.fill (be 3 3372 ++ byte 1 :: (ticketOf .single 6 0 (.resting .unused)).image 0)).isSome = true ∧
    (1 ≤ (List.replicate 30 key).length ∧ (List.replicate 30 key).length ≤ 30) ∧
    (30 < (List.replicate 31 key).length ∧ (List.replicate 255 key).length < 256 ∧ 16 ≤ (16 : Byte).toNat ∧
      (Reader.list Reader.image [0]).map (fun x => x.1.length) = some 0) ∧
    (let h := (ticketOf .single 6 0 heldBy3).holdPart 0 0; h.length = 7) ∧ (70000 - 4465 ≤ 65535 ∧ ¬70000 - 4464 ≤ 65535) := by
  refine ⟨by decide, by decide, by decide, by decide +kernel, by decide, rfl, rfl, by decide, by decide +kernel, by decide +kernel, by decide⟩

/-- An image with every field at the top of its bytes, and a full list of them. -/
def topImage : RawImage :=
  ⟨⟨255, 2 ^ 80 - 1⟩, 255, 255, 255, 65535, 255, 2 ^ 24 - 1, 2 ^ 24 - 1, 255, 255, 255, 2 ^ 24 - 1, 255, 255, 255⟩

theorem met_ImagesRead : topImage.fits ∧ (∀ x ∈ List.replicate 255 topImage, x.fits) ∧ (List.replicate 255 topImage).length < 256 ∧
    2 ^ 24 - 1 < 2 ^ 24 := by
  have h : topImage.fits := by unfold RawImage.fits topImage; decide
  exact ⟨h, fun x hx => by rw [List.eq_of_mem_replicate hx]; exact h, by simp only [List.length_replicate]; decide, by decide⟩

theorem met_FieldsRead :
    (255 < 256 ∧ 65535 < 65536 ∧ 2 ^ 24 - 1 < 2 ^ 24 ∧ (List.replicate 255 (0x41 : Byte)).length < 256) ∧
    (optFits 1 (some 255) ∧ optFits 2 (some 65535) ∧ optFits 2 none) := by
  refine ⟨⟨by decide, by decide, by decide, by simp only [List.length_replicate]; decide⟩, ?_, ?_, ?_⟩ <;> intro v h <;> cases h <;> decide

theorem met_RecordEntryResults :
    RawImage.check { imageOf 40215906117 0 1 with zones := 0 } = .error .badValue ∧
    RawImage.check { imageOf 40215906117 0 1 with flags := 2 } = .error .badWindow ∧
    (RawImage.check { imageOf 99999999999999 0 1 with flags := 30, closes := 863999, lastTime := 863999, lastBank := 31, lastLane := 15, lastZone := 255 }).toOption.isSome =
      true ∧
    (RawImage.check (imageOf 40215906117 0 1)).toOption.isSome = true ∧
    (RawImage.check { imageOf 40215906117 0 1 with flags := 4, state := 5, reason := 15 }).toOption.isSome = true ∧
    ((bank6 |> holds (ticketOf .single 6 0 heldBy3)).lookup key = some (3372, ticketOf .single 6 0 heldBy3)) ∧
    (bank6.lookup key = none ∧ bank6.table.freeSlot key = some 3372) ∧
    (crowded.putRecord 2 (ticketOf .single 6 0 (.resting .unused))).table.freeSlot ⟨.barcode, 2047⟩ = none ∧
    (3379 < 4 * bank6.table.buckets ∧ 3379 / 4 ∈ probeBuckets bank6.table.buckets bank6.table.probe key ∧
      3380 / 4 ∉ probeBuckets bank6.table.buckets bank6.table.probe key) := by decide +kernel

/-- Lanes, zones, banks and codes just above their lists. -/
theorem met_RefusedFields :
    (4 < (5 : Byte).toNat ∧ 15 < (16 : Byte).toNat ∧ 7 < (8 : Byte).toNat ∧ 31 < (32 : Byte).toNat) ∧
    (∃ v, some 5 = some v ∧ 4 < v) ∧ (∃ v, some 2 = some v ∧ 1 < v) ∧
    (∃ v, some (#v[0, 0, 0, 0, 0, 0, 0, 9] : Vector Byte 8) = some v ∧ ∃ i, 8 < (v.get i).toNat) ∧
    ((1 : Byte) = 1 ∧ 2 ≤ ([0, 0] : List Byte).length ∧ 1 < (2 : Byte).toNat ∧ 2 < (3 : Byte).toNat) :=
  ⟨by decide, ⟨5, rfl, by decide⟩, ⟨2, rfl, by decide⟩, ⟨_, rfl, 7, by decide⟩, by decide⟩

/-- The fields of Write Profile and of Write Template with contents, as the worked ones. -/
def profileBytes (p : Byte) : List Byte := p :: entryProfile.bytes

theorem met_PolicyRequestsTakeEffect :
    (max 1 (min 8 (4 : Byte).toNat) = bank6.policy.np ∧ max 1 (min 8 (0 : Byte).toNat) ≠ bank6.policy.np) ∧
    ((Reader.profile (profileBytes 3)).map fun x => (x.1.index, x.1.direction, x.1.window, x.2)) = some (3, laneDirectionCode .entry, 80, []) ∧
    ((Reader.profile (profileBytes 7)).map fun x => x.1.index) = some 7 ∧
    ((Reader.contents ticket.bytes).map fun x => (x.1.lenMin, x.1.checkLen, x.2)) = some (19, 2, []) ∧
    (15 < (16 : Byte).toNat ∧ (15 : Byte).toNat ≤ 15 ∧ min 16 ((48 - 4 * 8) / 2) ≤ (8 : Byte).toNat ∧ (2 : Byte) ≠ 0 ∧ (2 : Byte) ≠ 1) ∧
    15 < min 16 ((48 - 4 * bank6.policy.np) / 2) ∧ min 16 ((48 - 4 * 8) / 2) ≤ 8 ∧
    ((service.lane 3).choice = 1 ∧ (service.lane 3).choice ≠ 7 ∧ (service.lane 3).state = .closed ∧ (bank6.lane 3).state = .idle ∧
      (running.lane 3).state = .querying) := by decide +kernel

theorem met_LaneRequestsTakeEffect :
    ((bank6.slot 3).link = .active ∧ (State.reset.slot 3).link ≠ .active ∧ bank6.link.test = none ∧ (63 : Byte).toNat ≤ 63 ∧
      63 < (64 : Byte).toNat) ∧
    (bank6.lane 3).control.override ≠ .closed ∧ service.bcm.mode = .service ∧ 65535 < 65536 ∧
    optFits 1 (some 255) ∧ optFits 1 (some (bit true)) ∧ optFits 1 none := by
  refine ⟨by decide +kernel, by decide +kernel, by decide, by decide, ?_, ?_, ?_⟩ <;> intro v h <;> cases h <;> decide

theorem met_SettingRequestsTakeEffect : bank6.bcm.mode ≠ .deep ∧ (dormant .standby).bcm.mode = .standby ∧
    (65535 < 65536 ∧ 16383 < 16384) ∧
    ((Reader.reporting (be 4 0)).map fun x => (x.1.arbiter, x.1.policy, x.2)) = some (none, none, []) ∧
    ((Reader.reporting (be 4 (2 ^ 6) ++ [3])).map fun x => x.1.arbiter) = some (some 3) ∧
    ((Reader.reporting (be 4 (2 ^ 8) ++ [2])).map fun x => x.1.policy) = some (some 2) ∧
    optFits 1 (some 255) ∧ optFits 2 (some 65535) := by
  refine ⟨by decide, by decide, by decide, by decide +kernel, by decide +kernel, by decide +kernel, ?_, ?_⟩ <;> intro v h <;> cases h <;> decide

/-- A cause of level 3 pending in STANDBY, with the wake threshold moved from 2 to 4; and one that was not reportable. -/
theorem met_LevelsWake :
    (let s := { (dormant .standby) with evu := { bank6.evu with causes := bank6.evu.causes.set 2 ⟨true, 1, none⟩ } }
     s.bcm.mode = .standby ∧ (s.evu.causes.get 2).pending = true ∧ s.evu.level 2 < 4 ∧ ¬s.evu.level 2 < s.evu.wakeThreshold) ∧
    (let s := { bank6 with evu := { bank6.evu with causes := bank6.evu.causes.set 10 ⟨true, 1, none⟩ } }
     (s.evu.causes.get 10).pending = true ∧ ¬s.evu.level 10 < s.evu.reportThreshold ∧ s.evu.level 10 < 8) := by decide +kernel

theorem met_ReadAndClearRequests : bank6.log.audit = none ∧
    ({ bank6.log with audit := some ⟨0, 2, 0, 0⟩ } : Log).audit = some ⟨0, 2, 0, 0⟩ ∧ 8192 ≤ 8192 ∧ (2 ^ 32 - 1 < 2 ^ 32) ∧
    (bank6.errorOccurs .oversize none []).evu.firstError = some ⟨.oversize, some 680000, none⟩ ∧
    (bank6.errorOccurs .oversize none []).evu.headerLog = some ⟨.oversize, []⟩ ∧ bank6.evu.firstError = none ∧
    (0 < 16383 ∧ 16383 < 16384 ∧ 2 ^ 24 - 1 < 2 ^ 24) := by decide +kernel

end Sys2Proof.Tests
end

section
/-! SUPPORT. The power-on values (R163): what each table of the reset state reads, and the statement over every block. -/

namespace Sys2Proof.Machine

/-! ## The tables of the reset state -/

@[simp] theorem State.lane_reset (l : LaneNo) : State.reset.lane l = Lane.initial := by
  simp [State.lane, State.reset, Vector.get_eq_getElem]

@[simp] theorem State.slot_reset (l : LaneNo) : State.reset.slot l = Slot.initial := by
  simp [State.slot, State.reset, Link.initial, Vector.get_eq_getElem]

@[simp] theorem State.zone_reset (z : ZoneNo) : State.reset.zone z = Zone.initial := by
  simp [State.zone, State.reset, Vector.get_eq_getElem]

@[simp] theorem State.peer_reset (b : BankNo) : State.reset.peer b = { present := false, state := .down, timeouts := 0 } := by
  simp [State.peer, State.reset, Peers.initial, Vector.get_eq_getElem]

@[simp] theorem State.pairs_reset (k : Fin 8) : State.reset.pairs.get k = { requested := false, inForce := false } := by
  simp [State.reset, Vector.get_eq_getElem]

@[simp] theorem State.profiles_reset (p : Fin 8) : State.reset.policy.profiles.get p = Profile.default := by
  simp [State.reset, Policy.initial, Vector.get_eq_getElem]

@[simp] theorem State.templates_reset (i : Fin 16) : State.reset.policy.templates.get i = none := by
  simp [State.reset, Policy.initial, Vector.get_eq_getElem]

@[simp] theorem State.words_reset (i : Fin 7) : State.reset.link.settings.words.get i = 0 := by
  simp [State.reset, Link.initial, HeaderSettings.initial, Vector.get_eq_getElem]

@[simp] theorem State.causes_reset (c : Fin 24) :
    State.reset.evu.causes.get c = { pending := false, count := 0, detail := none } := by
  simp [State.reset, Evu.initial, Vector.get_eq_getElem]

@[simp] theorem State.errors_reset (k : Fin 14) :
    State.reset.evu.errors.get k = { detected := false, count := 0, masked := false } := by
  simp [State.reset, Evu.initial, Vector.get_eq_getElem]

/-- Settles O3: the tables read their initial entries, and every other value is a field of the reset state. -/
theorem resetHoldsPowerOnValues : Obligations.ResetHoldsPowerOnValues := by
  unfold Obligations.ResetHoldsPowerOnValues
  simp only [State.lane_reset, State.slot_reset, State.zone_reset, State.peer_reset, State.pairs_reset, State.profiles_reset,
    State.templates_reset, State.words_reset, State.causes_reset, State.errors_reset]
  simp [State.reset, Lane.initial, Slot.initial, Zone.initial, LaneCounts.zero, ControlImage.initial, Table.initial,
    Bcm.initial, Policy.initial, Link.initial, HeaderSettings.initial, Peers.initial, Log.initial, Trunk.initial,
    Evu.initial]

end Sys2Proof.Machine
end

section
/-! SUPPORT. Every setting stays in its range: the invariant `State.settingsInRange` said block by block, what each block's own
update must keep, and then one lemma for each operation of the model, in the order in which the model defines them. -/

namespace Sys2Proof.Machine

/-! ## The invariant by blocks -/

/-- The two coalescing sets of the log are in their ranges (R144). -/
def Log.inRange (g : Log) : Prop := g.calm.inRange ∧ g.surge.inRange

/-- The header settings in force and pending, and the cycle period, are in their ranges (R123, R130). -/
def Link.inRange (k : Link) : Prop :=
  k.settings.inRange ∧ (∀ h, k.pendingSettings = some h → h.inRange) ∧ 2 ≤ k.period ∧ k.period ≤ 20

/-- The profile in force at a lane, if there is one, is in its ranges (R75). -/
def Lane.inRange (n : Lane) : Prop := ∀ a, n.inForce = some a → a.profile.inRange

/-- Every setting is in its range, block by block. -/
structure State.InRange (s : State) : Prop where
  bcm : s.bcm.inRange
  log : s.log.inRange
  trunk : s.trunk.inRange
  evu : s.evu.inRange
  peers : s.peers.inRange
  link : s.link.inRange
  policy : s.policy.inRange
  lanes : ∀ l, (s.lane l).inRange

theorem State.settingsInRange_iff (s : State) : s.settingsInRange ↔ s.InRange := by
  constructor
  · rintro ⟨hb, hc, hg, hk, he, hp, hs, hq, h2, h20, hy, hl⟩
    exact ⟨hb, ⟨hc, hg⟩, hk, he, hp, ⟨hs, hq, h2, h20⟩, hy, hl⟩
  · rintro ⟨hb, ⟨hc, hg⟩, hk, he, hp, ⟨hs, hq, h2, h20⟩, hy, hl⟩
    exact ⟨hb, hc, hg, hk, he, hp, hs, hq, h2, h20, hy, hl⟩

namespace State.InRange

variable {s : State}

/-! ## Updates of one block

Where the update leaves the block's settings as they were, its side condition is `id`. -/

theorem modBcm (h : s.InRange) {f : Bcm → Bcm} (hf : s.bcm.inRange → (f s.bcm).inRange) : (s.modBcm f).InRange :=
  { h with bcm := hf h.bcm }

theorem modLog (h : s.InRange) {f : Log → Log} (hf : s.log.inRange → (f s.log).inRange) : (s.modLog f).InRange :=
  { h with log := hf h.log }

theorem modTrunk (h : s.InRange) {f : Trunk → Trunk} (hf : s.trunk.inRange → (f s.trunk).inRange) :
    (s.modTrunk f).InRange :=
  { h with trunk := hf h.trunk }

theorem modEvu (h : s.InRange) {f : Evu → Evu} (hf : s.evu.inRange → (f s.evu).inRange) : (s.modEvu f).InRange :=
  { h with evu := hf h.evu }

theorem modPeers (h : s.InRange) {f : Peers → Peers} (hf : s.peers.inRange → (f s.peers).inRange) :
    (s.modPeers f).InRange :=
  { h with peers := hf h.peers }

theorem modLink (h : s.InRange) {f : Link → Link} (hf : s.link.inRange → (f s.link).inRange) : (s.modLink f).InRange :=
  { h with link := hf h.link }

theorem modPolicy (h : s.InRange) {f : Policy → Policy} (hf : s.policy.inRange → (f s.policy).inRange) :
    (s.modPolicy f).InRange :=
  { h with policy := hf h.policy }

theorem modLane (h : s.InRange) {l : LaneNo} {f : Lane → Lane} (hf : (s.lane l).inRange → (f (s.lane l)).inRange) :
    (s.modLane l f).InRange :=
  { h with
    lanes := fun k => by
      rw [State.lane_modLane]
      split
      · exact hf (h.lanes l)
      · exact h.lanes k }

theorem modSlot (h : s.InRange) (l : LaneNo) (f : Slot → Slot) : (s.modSlot l f).InRange := { h with link := h.link }

theorem modTable (h : s.InRange) (f : Table → Table) : (s.modTable f).InRange := { h with }

theorem modMge (h : s.InRange) (f : Mge → Mge) : (s.modMge f).InRange := { h with }

theorem reach (h : s.InRange) (n : Nat) : (s.reach n).InRange := { h with }

theorem drawn (h : s.InRange) : s.drawn.InRange := { h with }

/-! ## The same done to many -/

theorem foldl {α : Type} (h : s.InRange) {f : State → α → State} (hf : ∀ t a, t.InRange → (f t a).InRange) (xs : List α) :
    (xs.foldl f s).InRange :=
  List.foldlRecOn xs f h fun t ht a _ => hf t a ht

theorem eachLane (h : s.InRange) {f : LaneNo → State → State} (hf : ∀ l t, t.InRange → (f l t).InRange) :
    (s.eachLane f).InRange :=
  h.foldl (fun t l ht => hf l t ht) allLanes

end State.InRange
end Sys2Proof.Machine
end

section
namespace Sys2Proof.Machine
namespace State.InRange

variable {s : State}

theorem ite {c : Prop} [Decidable c] {a b : State} (ha : a.InRange) (hb : b.InRange) : (if c then a else b).InRange :=
  iteInduction (fun _ => ha) fun _ => hb

/-! ## Flags and events (R133, R155, R180 to R187) -/

theorem flagging {f : State → State} (hf : (f s).InRange) : (s.flagging f).InRange := by
  rw [State.flagging, State.noteFlags_eq]
  exact { hf with link := hf.link }

theorem setMode (h : s.InRange) (m : BankMode) : (s.setMode m).InRange := flagging (h.modBcm id)

theorem startLink (h : s.InRange) : s.startLink.InRange := ite h (flagging (h.modLink id))

theorem offer (h : s.InRange) (c : Fin 24) : (s.offer c).InRange := ite (h.modEvu id) h

theorem raiseQuiet (h : s.InRange) (c : Cause) (d : Option Nat) : (s.raiseQuiet c d).InRange :=
  ite (h.modEvu id) ((h.modEvu id).offer _)

theorem releaseStandby (h : s.InRange) : s.releaseStandby.InRange :=
  ((h.setMode .service).startLink.raiseQuiet .wake none).raiseQuiet .modeChange none

theorem raise (h : s.InRange) (c : Cause) (d : Option Nat) : (s.raise c d).InRange :=
  ite (h.raiseQuiet c d).releaseStandby (h.raiseQuiet c d)

theorem raiseAll (h : s.InRange) (cs : List Cause) : (cs.foldl (fun (x : State) c => x.raise c none) s).InRange :=
  h.foldl (fun _ c ht => ht.raise c none) cs

theorem capture (h : s.InRange) (k : ErrorKind) (l : Option LaneNo) : (s.capture k l).InRange :=
  h.modEvu fun he => by split <;> exact he

theorem logHeader (h : s.InRange) (k : ErrorKind) (bs : List Byte) : (s.logHeader k bs).InRange :=
  h.modEvu fun he => by split <;> exact he

theorem errorOccurs (h : s.InRange) (k : ErrorKind) (l : Option LaneNo) (bs : List Byte) :
    (s.errorOccurs k l bs).InRange := by
  have h1 := h.modEvu (f := fun e => { e with errors := upd e.errors (errorIndex k) ErrorEntry.occurred }) id
  have h2 := ite (c := (s.evu.errors.get (errorIndex k)).masked) h1 (h1.raise k.cause (some (errorIndex k).val))
  have h3 := ite (c := k.serious && !(s.evu.errors.get (errorIndex k)).masked) (h2.capture k l) h2
  exact ite (h3.logHeader k bs) h3

/-! ## The Admission Log (R140 to R145) -/

theorem drainTest (h : s.InRange) : s.drainTest.InRange := h.modLog id

theorem reportLevel (h : s.InRange) (n : Nat) : (s.reportLevel n).InRange :=
  ite (h.raise _ _) (ite (h.raise _ _) h)

theorem writeLog (h : s.InRange) (a : Admission) : (s.writeLog a).InRange := by
  unfold State.writeLog
  refine ite ((flagging (h.modLog id)).reportLevel _).drainTest ?_
  split
  · exact (h.modLog id).errorOccurs _ _ _
  · exact ((h.modLog id).errorOccurs _ _ _).drainTest

/-! ## The table, the peers and the zones -/

theorem putRecord (h : s.InRange) (n : Nat) (r : Record) : (s.putRecord n r).InRange := h.modTable _

theorem pushPeer (h : s.InRange) (f : TxFrame) : (s.pushPeer f).InRange := h.modTrunk id

theorem offerPeer (h : s.InRange) (f : TxFrame) : (s.offerPeer f).InRange := ite (h.pushPeer f) (h.errorOccurs _ _ _)

theorem reconcileSend (h : s.InRange) (b : BankNo) : (s.reconcileSend b).InRange := by
  unfold State.reconcileSend
  exact (h.modTrunk id).modPeers id

theorem addReconcile (h : s.InRange) (e : Reconcile) : (s.addReconcile e).InRange :=
  ite (h.modPeers id) ((h.modPeers id).errorOccurs _ _ _)

theorem modPeer (h : s.InRange) (b : BankNo) (f : Peer → Peer) : (s.modPeer b f).InRange := flagging (h.modPeers id)

theorem hearPeer (h : s.InRange) (b : BankNo) : (s.hearPeer b).InRange := by
  unfold State.hearPeer
  split
  · exact h.modPeer b _
  · exact (h.modPeer b _).reconcileSend b
  · exact ((h.modPeer b _).raise _ _).reconcileSend b

theorem peerTimeout (h : s.InRange) (b : BankNo) : (s.peerTimeout b).InRange :=
  ite ((h.modPeer b _).raise _ _) (h.modPeer b _)

theorem dropQuery (h : s.InRange) (l : LaneNo) : (s.dropQuery l).InRange := h.modPeers id

theorem addLapsed (h : s.InRange) (q : Query) (v : LapsedVerdict) : (s.addLapsed q v).InRange := by
  unfold State.addLapsed
  exact h.modPeers id

theorem abortQuery (h : s.InRange) (l : LaneNo) : (s.abortQuery l).InRange := by
  unfold State.abortQuery
  split
  · exact (h.dropQuery l).addLapsed _ _
  · exact h

theorem modZone (h : s.InRange) (z : ZoneNo) (f : Zone → Zone) : (s.modZone z f).InRange := flagging { h with }

theorem reportFull (h : s.InRange) (z : ZoneNo) : (s.reportFull z).InRange := ite (h.raise _ _) h

theorem reserve (h : s.InRange) (l : LaneNo) (z : ZoneNo) : (s.reserve l z).InRange :=
  ((h.modZone z _).reportFull z).modLane id

theorem release (h : s.InRange) (l : LaneNo) : (s.release l).InRange := by
  unfold State.release
  split
  · exact (h.modZone _ _).modLane id
  · exact h

theorem commitZone (h : s.InRange) (l : LaneNo) : (s.commitZone l).InRange := by
  unfold State.commitZone
  split
  · exact ((h.modZone _ _).reportFull _).modLane id
  · exact h

/-! ## The lane sequencers (R77 to R93) -/

theorem queueVerdict (h : s.InRange) (l : LaneNo) (v : VerdictCommand) : (s.queueVerdict l v).InRange :=
  h.foldl (fun _ k ht => ht.modSlot k _) _

theorem endVerdict (h : s.InRange) (l : LaneNo) : (s.endVerdict l).InRange := h.foldl (fun _ k ht => ht.modSlot k _) _

theorem queueLamp (h : s.InRange) (l : LaneNo) (d : Display) : (s.queueLamp l d).InRange :=
  h.foldl (fun _ k ht => ht.modSlot k _) _

/-- What a lane adopts comes from a store whose profiles are in their ranges (R77). -/
theorem adopt (h : s.InRange) (l : LaneNo) : (s.adopt l).InRange := by
  refine h.modLane fun _ a ha => ?_
  obtain ⟨-, -, hprofiles, -⟩ := h.policy
  simp only [Lane.adopted] at ha
  split at ha
  · cases ha
    exact hprofiles _
  · cases ha

theorem enterIdle (h : s.InRange) (l : LaneNo) : (s.enterIdle l).InRange := ((h.modLane id).endVerdict l).queueLamp l _

theorem enterClosed (h : s.InRange) (l : LaneNo) : (s.enterClosed l).InRange :=
  ((h.modLane id).endVerdict l).queueLamp l _

theorem rest (h : s.InRange) (l : LaneNo) : (s.rest l).InRange :=
  ite ((h.adopt l).enterIdle l) ((h.adopt l).enterClosed l)

theorem tryIdle (h : s.InRange) (l : LaneNo) : (s.tryIdle l).InRange :=
  ite (ite ((h.adopt l).enterIdle l) (h.adopt l)) h

theorem offerIdle (h : s.InRange) (l : LaneNo) : (s.offerIdle l).InRange := ite (h.tryIdle l) h

theorem readopt (h : s.InRange) (l : LaneNo) : (s.readopt l).InRange := by
  unfold State.readopt
  split
  · exact h.tryIdle l
  · exact h.rest l
  · exact h

theorem closeLane (h : s.InRange) (l : LaneNo) : (s.closeLane l).InRange := by
  unfold State.closeLane
  split
  · exact (h.adopt l).enterClosed l
  · exact (h.adopt l).enterClosed l
  · exact h

theorem readoptIdle (h : s.InRange) (l : LaneNo) : (s.readoptIdle l).InRange := ite (h.rest l) h

theorem withPairs (h : s.InRange) (v : Vector Pair 8) : { s with pairs := v }.InRange := { h with }

theorem settlePair (h : s.InRange) (k : Fin 8) : (s.settlePair k).InRange :=
  have hp := h.withPairs (upd s.pairs k fun q => { q with inForce := q.requested })
  ite (ite (hp.closeLane _) (((hp.modLane id).tryIdle _).readoptIdle _)) h

theorem settlePairs (h : s.InRange) : s.settlePairs.InRange := h.foldl (fun _ k ht => ht.settlePair k) _

theorem revertHeld (h : s.InRange) (l : LaneNo) (k : Key) : (s.revertHeld l k).InRange := by
  unfold State.revertHeld
  split
  · exact ite (h.putRecord _ _) h
  · exact h

theorem withdrawRemote (h : s.InRange) (l : LaneNo) (k : Key) (res : DecisionResult) :
    (s.withdrawRemote l k res).InRange := by
  unfold State.withdrawRemote
  refine ite ?_ h
  split
  · exact h.offerPeer _
  · exact h

theorem endWithout (h : s.InRange) (l : LaneNo) (o : Outcome) : (s.endWithout l o).InRange := by
  unfold State.endWithout
  split
  · exact (((ite (h.revertHeld l _) h).release l).writeLog _).withdrawRemote l _ _
  · exact h.release l

theorem abortOperation (h : s.InRange) (l : LaneNo) (o : Outcome) : (s.abortOperation l o).InRange := by
  unfold State.abortOperation
  split
  · exact ite h (h.endWithout l o)
  · exact (h.abortQuery l).release l
  · exact h

theorem abortLane (h : s.InRange) (l : LaneNo) (o : Outcome) : (s.abortLane l o).InRange :=
  have ha := (h.abortOperation l o).modLane (l := l) (f := fun n => { n with mate := none }) id
  ite ha (ha.enterClosed l)

theorem loseLane (h : s.InRange) (l : LaneNo) : (s.loseLane l).InRange :=
  have ha := (h.modLane (l := l) (f := Lane.unconfirmed) id).abortLane l .laneLost
  ite (ha.errorOccurs _ _ _) ha

theorem resetLane (h : s.InRange) (l : LaneNo) : (s.resetLane l).InRange :=
  have ht := h.modSlot l fun k => { k.left .absent with resetDue := true }
  ((ite (ht.raise .presence (some l.val)) ht).modLane id).abortLane l .withdrawn

/-! ## Replies and the access in flight (R94, R173, R174) -/

theorem setPhase (h : s.InRange) (p : MgePhase) : (s.setPhase p).InRange := h.modMge _

theorem placeParts (h : s.InRange) (n : Nat) (r : ReplyRest) : (s.placeParts n r).InRange := by
  induction n generalizing s r with
  | zero => exact h.setPhase _
  | succ n ih =>
    unfold State.placeParts
    exact ite (ite ((h.modTrunk id).setPhase _) (ih (h.modTrunk id) _)) (h.setPhase _)

theorem sendReply (h : s.InRange) (x : ReplyHead) (r : Reply) : (s.sendReply x r).InRange := h.placeParts _ _

theorem endAccess (h : s.InRange) (x : ReplyHead) (l : LaneNo) (v : Option (BitVec 16)) : (s.endAccess x l v).InRange :=
  ((h.modSlot l _).raise _ _).sendReply _ _

theorem failAccess (h : s.InRange) (l : LaneNo) : (s.failAccess l).InRange := by
  unfold State.failAccess
  split
  · exact ite (h.endAccess _ l none) h
  · exact h

theorem failAnyAccess (h : s.InRange) : s.failAnyAccess.InRange := by
  unfold State.failAnyAccess
  split
  · exact h.endAccess _ _ none
  · exact h

/-! ## Changes of bank mode (R136, R154 to R160) -/

theorem endTest (h : s.InRange) : s.endTest.InRange := by
  unfold State.endTest
  split
  · exact (h.modLink id).raise _ _
  · exact h

theorem stopLane (h : s.InRange) (l : LaneNo) : (s.stopLane l).InRange := ite ((h.raise _ _).loseLane l) h

theorem haltLink (h : s.InRange) : s.haltLink.InRange := by
  have ht : (s.eachLane State.stopLane).InRange := h.eachLane fun l _ ht => ht.stopLane l
  simp only [State.haltLink]
  generalize s.eachLane State.stopLane = t at ht
  refine failAnyAccess { ht with link := ht.link, lanes := fun l => ?_ }
  simp only [State.lane, get_updAll]
  exact ht.lanes l

theorem setEntering (h : s.InRange) (b : Bool) : (s.setEntering b).InRange := h.modBcm id

theorem stopLink (h : s.InRange) : s.stopLink.InRange := (h.setEntering true).haltLink.setEntering false

theorem enterOpen (h : s.InRange) (cs : List Cause) : (s.enterOpen cs).InRange :=
  (((h.setMode .opened).modBcm id).startLink.endTest.raiseAll _).eachLane fun l _ ht => ht.offerIdle l

theorem sinkDeep (h : s.InRange) : s.sinkDeep.InRange := by
  refine (h.modBcm fun hb => ?_).modMge _
  obtain ⟨-, hb⟩ := hb
  exact ⟨nofun, hb⟩

theorem enterDormant (h : s.InRange) (m : RestMode) : (s.enterDormant m).InRange := by
  have hu := (((h.setEntering true).setMode m.mode).eachLane fun l _ ht => ht.closeLane l).endTest
  simp only [State.enterDormant]
  generalize State.endTest _ = u at hu ⊢
  have hw := (ite (c := u.link.running) (ite (c := u.link.awaiting)
    (hu.modLink (f := fun k => { k with stopping := true }) id) hu.haltLink) hu).raise .modeChange none
  exact (ite hw.sinkDeep hw).setEntering false

theorem settleClosing (h : s.InRange) : s.settleClosing.InRange :=
  ite (ite (((h.modBcm id).setMode _).raise _ _) ((h.modBcm id).enterDormant _)) h

theorem settle (h : s.InRange) : s.settle.InRange := h.settlePairs.settleClosing

theorem enterClosing (h : s.InRange) (cs : List Cause) : (s.enterClosing cs).InRange :=
  ((((h.setMode .closing).modBcm (f := fun b => { b with requested := none }) id).raiseAll _).eachLane
    fun l _ ht => ht.closeLane l).settle

theorem leaveStandby (h : s.InRange) : s.leaveStandby.InRange := ((h.setMode _).startLink.raise _ _).raise _ _

/-- Leaving DEEP disarms the schedule, whose opening and closing times may then be equal (R153, R160). -/
theorem leaveDeep (h : s.InRange) : s.leaveDeep.InRange := by
  refine ((((h.setMode .service).modBcm fun hb => ?_).startLink).raise _ _).raise _ _
  obtain ⟨hclock, hcode, hopening, hclosing, -, hb⟩ := hb
  exact ⟨hclock, hcode, hopening, hclosing, nofun, hb⟩

theorem scheduleAt (h : s.InRange) (n : Nat) : (s.scheduleAt n).InRange := by
  unfold State.scheduleAt
  refine ite h (ite ?_ (ite (ite (h.enterClosing _) h) h))
  split
  · exact (h.enterOpen _).settle
  · exact (h.enterOpen _).settle
  · exact h

theorem resetMode (h : s.InRange) : s.resetMode.InRange := by
  have ht := h.modBcm (f := fun b => { b with requested := none }) id
  unfold State.resetMode
  dsimp only
  split
  · exact ht
  · exact ht.leaveStandby
  · exact (ht.setMode _).raise _ _

theorem doBankReset (h : s.InRange) : s.doBankReset.InRange := by
  have ha : s.abortAll.InRange :=
    (h.eachLane fun l _ ht => (ht.modSlot l _).abortLane l _).eachLane fun l _ ht => ht.adopt l
  have hr : s.abortAll.resetMode.InRange := by
    exact ha.resetMode
  exact hr.settlePairs

end State.InRange
end Sys2Proof.Machine
end

section
namespace Sys2Proof.Machine
namespace State.InRange

variable {s : State}

/-! ## The admission decision (R39 to R58, R80, R103) -/

theorem sendRefusal (h : s.InRange) (l : LaneNo) (v : Verdict) (c : Option TicketClass) :
    (s.sendRefusal l v c).InRange := by
  have ht := (h.modLane (l := l) (f := fun n => { n with counts := n.counts.refused v }) id).queueVerdict l
    (refusalCommand v (s.lane l).profile.display)
  exact ite (ht.modLane id) ((ht.adopt l).enterClosed l)

theorem refuse (h : s.InRange) (l : LaneNo) (e : Option Reason) (k : Option Key) (c : Option TicketClass)
    (u : Option Nat) : (s.refuse l e k c u).InRange :=
  ((h.release l).writeLog _).sendRefusal l _ c

theorem refuseUnlogged (h : s.InRange) (l : LaneNo) : (s.refuseUnlogged l).InRange := (h.modLog id).sendRefusal l _ none

theorem refuseFound (h : s.InRange) (l : LaneNo) (e : Reason) (k : Key) (r : Record) : (s.refuseFound l e k r).InRange :=
  h.refuse l _ _ _ _

theorem openLane (h : s.InRange) (l : LaneNo) (k : Option Key) (res : DecisionResult) : (s.openLane l k res).InRange :=
  (h.modLane id).queueVerdict l _

theorem grantHold (h : s.InRange) (l : LaneNo) (k : Key) (i : Nat) (r : Record) (z : Option ZoneNo) (a : Authority) :
    (s.grantHold l k i r z a).InRange :=
  (h.putRecord _ _).openLane l _ _

theorem grantStaff (h : s.InRange) (l : LaneNo) (k : Key) : (s.grantStaff l k).InRange := h.openLane l _ _

theorem confirmHold (h : s.InRange) (l : LaneNo) (k : Key) (code : Option Nat) : (s.confirmHold l k code).1.InRange := by
  unfold State.confirmHold
  dsimp only
  split
  · exact h.refuse l _ _ _ _
  · split
    · exact h.refuseFound l _ _ _
    · split
      · exact (h.release l).grantStaff l k
      · split
        · exact h.grantHold l k _ _ _ _
        · exact h.refuseFound l _ _ _

theorem sendQuery (h : s.InRange) (l : LaneNo) (k : Key) (code : Option Nat) (r : Record) :
    (s.sendQuery l k code r).InRange := by
  have ht := h.modPeers (f := fun p => { p with nextTag := s.peers.freshTag + 1 }) id
  unfold State.sendQuery
  exact ite ((((ht.pushPeer _).modPeers id).modLane id).endVerdict l) (ht.confirmHold l k code)

theorem authorize (h : s.InRange) (l : LaneNo) (k : Key) (code : Option Nat) (i : Nat) (r : Record) :
    (s.authorize l k code i r).InRange := by
  unfold State.authorize
  dsimp only
  split
  · exact ite (h.grantStaff l k) (h.grantHold l k i r _ _)
  · exact h.sendQuery l k code r
  · exact ite (h.grantHold l k i r _ _) (h.refuseFound l _ k r)

theorem chargeAndAdmit (h : s.InRange) (l : LaneNo) (k : Key) (code : Option Nat) (i : Nat) (r : Record) :
    (s.chargeAndAdmit l k code i r).InRange := by
  unfold State.chargeAndAdmit
  refine ite ?_ (h.authorize l k code i r)
  split
  · exact (h.reserve l _).authorize l k code i r
  · exact h.refuseFound l _ k r

theorem decideKey (h : s.InRange) (l : LaneNo) (k : Key) (code : Option Nat) : (s.decideKey l k code).InRange := by
  unfold State.decideKey
  split
  · exact h.refuse l _ _ _ _
  · split
    · exact h.refuseFound l _ _ _
    · exact h.chargeAndAdmit l _ _ _ _

theorem entryDecision (h : s.InRange) (l : LaneNo) (p : Presentation) : (s.entryDecision l p).InRange := by
  unfold State.entryDecision
  refine ite (h.refuseUnlogged l) ?_
  split
  · exact h.refuse l _ _ _ _
  · exact h.decideKey l _ _

/-- The surge estimator's count saturates (R161). -/
theorem countPresentation (h : s.InRange) (l : LaneNo) : (s.countPresentation l).InRange := by
  refine (h.modLane id).modBcm fun hb => ?_
  obtain ⟨hclock, hcode, hopening, hclosing, harmed, hest, -, hb⟩ := hb
  exact ⟨hclock, hcode, hopening, hclosing, harmed, hest, by simp only [sat16_eq]; omega, hb⟩

theorem present (h : s.InRange) (l : LaneNo) (p : Presentation) : (s.present l p).InRange := by
  unfold State.present
  split
  · exact (h.countPresentation l).entryDecision l p
  · exact (h.countPresentation l).entryDecision l p
  · exact (h.countPresentation l).openLane l _ _
  · exact (h.countPresentation l).openLane l _ _
  · exact h.modLane id
  · exact h.modLane id
  · exact h

/-! ## Passages, rotations and timers (R59, R81 to R89) -/

theorem recordPassage (h : s.InRange) (l : LaneNo) (k : Key) (res : DecisionResult) : (s.recordPassage l k res).InRange := by
  unfold State.recordPassage
  split
  · exact h.putRecord _ _
  · exact h

theorem notifyEntry (h : s.InRange) (l : LaneNo) (k : Key) (res : DecisionResult) (g : Recorded) :
    (s.notifyEntry l k res g).InRange :=
  (h.offerPeer _).drawn

theorem noteReconcile (h : s.InRange) (l : LaneNo) (k : Key) (res : DecisionResult) (g : Recorded) :
    (s.noteReconcile l k res g).InRange := by
  unfold State.noteReconcile
  split
  · exact ite (h.addReconcile _) h
  · exact h

theorem endByPassage (h : s.InRange) (l : LaneNo) : (s.endByPassage l).InRange := by
  unfold State.endByPassage
  split
  · exact (((((h.recordPassage l _ _).commitZone l).writeLog _).notifyEntry l _ _ _).noteReconcile l _ _ _).rest l
  · exact h.rest l

theorem logUnmatched (h : s.InRange) (l : LaneNo) (k : Option Key) (r : Option Record) : (s.logUnmatched l k r).InRange :=
  h.writeLog _

theorem scanOut (h : s.InRange) (z : Option ZoneNo) : (s.scanOut z).InRange := by
  unfold State.scanOut
  split
  · exact h.modZone _ _
  · exact h

theorem exitMatched (h : s.InRange) (l : LaneNo) (k : Key) (i : Nat) (r : Record) (st : Resting) :
    (s.exitMatched l k i r st).InRange :=
  (((h.putRecord _ _).scanOut _).writeLog _).offerPeer _

theorem exitUpdate (h : s.InRange) (l : LaneNo) : (s.exitUpdate l).InRange := by
  unfold State.exitUpdate
  split
  · exact h.logUnmatched l _ _
  · split
    · exact h.logUnmatched l _ _
    · split
      · exact h.exitMatched l _ _ _ _
      · exact h.logUnmatched l _ _

theorem endPassed (h : s.InRange) (l : LaneNo) : (s.endPassed l).InRange :=
  ite ((h.exitUpdate l).rest l) (h.endByPassage l)

theorem endUnpassed (h : s.InRange) (l : LaneNo) (o : Outcome) : (s.endUnpassed l o).InRange :=
  ite (h.rest l) ((h.endWithout l o).rest l)

theorem tailgate (h : s.InRange) (l : LaneNo) : (s.tailgate l).InRange := ((h.raise _ _).writeLog _).modLane id

theorem ungranted (h : s.InRange) (l : LaneNo) (d : Direction) : (s.ungranted l d).InRange := by
  unfold State.ungranted
  split
  · exact ite (h.tailgate l) h
  · exact h
  · exact h.tailgate l
  · exact h.modLane id
  · exact h.tailgate l
  · exact h.tailgate l
  · exact h.logUnmatched l _ _
  · exact h.logUnmatched l _ _
  · exact h

theorem setMate (h : s.InRange) (l head : LaneNo) : (s.setMate l head).InRange := ite (h.modLane id) h

theorem rotation (h : s.InRange) (l head : LaneNo) (d : Direction) : (s.rotation l head d).InRange :=
  ite (h.modLane id) (ite ((ite (h.endPassed l) (h.endUnpassed l _)).setMate l head) (h.ungranted l d))

theorem reverse (h : s.InRange) (l : LaneNo) : (s.reverse l).InRange := ite (h.endUnpassed l _) h

theorem passExpiry (h : s.InRange) (l : LaneNo) : (s.passExpiry l).InRange := by
  unfold State.passExpiry
  split
  · exact ite ((h.reach _).endUnpassed l _) h
  · exact h

theorem displayExpiry (h : s.InRange) (l : LaneNo) : (s.displayExpiry l).InRange := by
  unfold State.displayExpiry
  split
  · exact ite ((h.reach _).rest l) h
  · exact h

/-! ## Peer frames and deadlines (R97 to R117) -/

theorem answerQuery (h : s.InRange) (b : BankNo) (tag : Byte) (q : QueryFields) : (s.answerQuery b tag q).InRange := by
  unfold State.answerQuery
  refine ite (h.offerPeer _).drawn ?_
  split
  · exact (h.offerPeer _).drawn
  · split
    · exact h.offerPeer _
    · exact (h.putRecord _ _).offerPeer _

theorem refuseHeld (h : s.InRange) (q : Query) (e : Reason) (r : Option Record) : (s.refuseHeld q e r).InRange :=
  (h.refuse _ _ _ _ _).offerPeer _

theorem grantAnswer (h : s.InRange) (q : Query) : (s.grantAnswer q).InRange := by
  unfold State.grantAnswer
  dsimp only
  split
  · exact h.refuseHeld q _ _
  · split
    · exact h.refuseHeld q _ _
    · exact h.refuseHeld q _ _
    · exact (h.putRecord _ _).openLane _ _ _

theorem matchedAnswer (h : s.InRange) (q : Query) (a : AnswerFields) : (s.matchedAnswer q a).InRange := by
  unfold State.matchedAnswer
  dsimp only
  split
  · exact (h.dropQuery _).grantAnswer q
  · exact (h.dropQuery _).refuse _ _ _ _ _
  · exact (h.dropQuery _).confirmHold _ _ _

theorem lateAnswer (h : s.InRange) (e : Lapsed) (a : AnswerFields) : (s.lateAnswer e a).InRange := by
  have ht := (h.modPeers (f := fun p => { p with lapsed := p.lapsed.filter fun x => decide (x.tag ≠ e.tag) }) id).errorOccurs
    .lateAnswer none []
  unfold State.lateAnswer
  dsimp only
  split
  · exact ht.offerPeer _
  · exact ht.offerPeer _
  · exact (ht.writeLog _).raise _ _
  · exact ht

theorem takeAnswer (h : s.InRange) (b : BankNo) (tag : Byte) (a : AnswerFields) : (s.takeAnswer b tag a).InRange := by
  unfold State.takeAnswer
  split
  · exact h.matchedAnswer _ a
  · split
    · exact h.lateAnswer _ a
    · exact h.errorOccurs _ _ _

theorem applyEntry (h : s.InRange) (n : EntryFields) (late : Bool) (i : Nat) (r : Record) :
    (s.applyEntry n late i r).InRange :=
  have ht := h.putRecord i (r.enteredElsewhere (s.isHome r) n)
  ite (ht.writeLog _) (ite ht ((ht.writeLog _).raise _ _))

theorem takeEntry (h : s.InRange) (n : EntryFields) : (s.takeEntry n).InRange := by
  unfold State.takeEntry
  split
  · exact h
  · exact ite h (ite (h.putRecord _ _) (h.applyEntry n _ _ _))

theorem takeReconcile (h : s.InRange) (n : EntryFields) : (s.takeReconcile n).InRange := by
  unfold State.takeReconcile
  split
  · exact h
  · exact ite h (h.applyEntry n _ _ _)

theorem takeExit (h : s.InRange) (n : ExitFields) : (s.takeExit n).InRange := by
  unfold State.takeExit
  split
  · exact h
  · exact ite h (h.putRecord _ _)

theorem takeWithdraw (h : s.InRange) (n : WithdrawFields) : (s.takeWithdraw n).InRange := by
  unfold State.takeWithdraw
  split
  · exact h
  · exact ite (h.putRecord _ _) h

theorem actPeer (h : s.InRange) (b : BankNo) (tag : Byte) (p : PeerPayload) : (s.actPeer b tag p).InRange := by
  cases p with
  | query q => exact h.answerQuery b tag q
  | answer a => exact (h.takeAnswer b tag a).settle
  | entry n => exact h.takeEntry n
  | exit n => exact h.takeExit n
  | withdraw n => exact h.takeWithdraw n
  | reconcile n => exact h.takeReconcile n

theorem takePeer (h : s.InRange) (k : FrameKind) (src tag : Byte) (payload lead : List Byte) :
    (s.takePeer k src tag payload lead).InRange := by
  unfold State.takePeer
  refine ite h ?_
  split
  · exact h
  · split
    · exact h.errorOccurs _ _ _
    · exact ite ((h.hearPeer _).actPeer _ _ _) h

theorem queryExpiry (h : s.InRange) (l : LaneNo) : (s.queryExpiry l).InRange := by
  unfold State.queryExpiry
  split
  · exact h
  · exact ((((h.reach _).peerTimeout _).dropQuery l).confirmHold l _ _).addLapsed _ _

theorem lapsedExpiry (h : s.InRange) (tag : Byte) : (s.lapsedExpiry tag).InRange := by
  unfold State.lapsedExpiry
  split
  · exact (h.reach _).modPeers id
  · exact h

theorem remoteExpiry (h : s.InRange) (k : Key) : (s.remoteExpiry k).InRange := by
  unfold State.remoteExpiry
  split
  · exact h
  · split
    · exact (((h.reach _).putRecord _ _).writeLog _).raise _ _
    · exact h

/-! ## The Lane Link (R123 to R136) -/

theorem startCycle (h : s.InRange) : s.startCycle.InRange := ite (flagging (((h.reach _).modLink id).modLink id)) h

theorem sendHeader (h : s.InRange) : s.sendHeader.InRange := h.modLink id

/-- Pending header settings come into force (R130). -/
theorem adoptSettings (h : s.InRange) : (s.modLink Link.adoptSettings).InRange := by
  refine h.modLink fun hk => ?_
  obtain ⟨-, hpending, hperiod⟩ := hk
  unfold Link.adoptSettings
  split
  · next x hx => exact ⟨hpending x hx, nofun, hperiod⟩
  · exact h.link

theorem sendAutomatic (h : s.InRange) : s.sendAutomatic.InRange := ite (h.adoptSettings.sendHeader.modLink id) h

theorem sendTriggered (h : s.InRange) : s.sendTriggered.InRange := ite h.sendHeader h

end State.InRange
end Sys2Proof.Machine
end

section
namespace Sys2Proof.Machine

/-- Starting a lane's timer leaves its profile in force (R81, R85). -/
theorem Lane.timed_inForce (now : Nat) (c : SlotCommand) (n : Lane) : (Lane.timed now c n).inForce = n.inForce := by
  unfold Lane.timed
  split <;> rfl

theorem clamp_eq (lo hi v : Nat) (h : lo ≤ hi) : clamp lo hi v = max lo (min hi v) := by
  unfold clamp
  split
  · omega
  · split <;> omega

theorem le_clamp (lo hi v : Nat) (h : lo ≤ hi) : lo ≤ clamp lo hi v := by rw [clamp_eq lo hi v h]; omega

theorem clamp_le (lo hi v : Nat) (h : lo ≤ hi) : clamp lo hi v ≤ hi := by rw [clamp_eq lo hi v h]; omega

/-- An optional field after its clamp lies in a range that holds the value in force. -/
theorem clampedOr_mem {lo hi now : Nat} (h : lo ≤ now ∧ now ≤ hi) (f : Option Nat) :
    lo ≤ (clampedOr lo hi now f).value ∧ (clampedOr lo hi now f).value ≤ hi := by
  cases f with
  | none => exact h
  | some v => exact ⟨le_clamp _ _ _ (h.1.trans h.2), clamp_le _ _ _ (h.1.trans h.2)⟩

/-- The estimate of the next second keeps its range (R161). -/
theorem Surge.next_le {g : Surge} (he : g.estimate ≤ 524280) (hc : g.count ≤ 65535) : g.next ≤ 524280 := by
  unfold Surge.next
  omega

/-- An advanced clock stays within the day (R151). -/
theorem nextTenth_lt (t : Nat) : nextTenth t < Config.dayTenths := by
  unfold nextTenth
  split
  · assumption
  · decide

/-- The header settings of a request stay in their ranges, and their header is not empty (R130). -/
theorem HeaderFields.applied_inRange (f : HeaderFields) {h : HeaderSettings} (hh : h.inRange) (bw : Bool)
    (sel : Vector FlagSource 8) : (f.applied h bw sel).inRange := by
  obtain ⟨hcount, hoffset, -⟩ := hh
  have hc := clampedOr_mem ⟨h.count.zero_le, hcount⟩ f.count
  refine ⟨?_, (clampedOr_mem ⟨h.offset.zero_le, hoffset⟩ f.offset).2, ?_⟩
  · simp only [HeaderFields.applied, HeaderFields.countOf]
    split
    · decide
    · exact hc.2
  · simp only [HeaderFields.applied, HeaderFields.countOf]
    split
    · exact nofun
    · next hne => exact fun h0 => by simpa [h0] using hne

/-- A payload length is one of the three of R166. -/
theorem payloadOf_mem (v : Nat) : payloadOf v = 256 ∨ payloadOf v = 512 ∨ payloadOf v = 1024 := by
  unfold payloadOf
  split
  · exact .inr (.inr rfl)
  · split
    · exact .inr (.inl rfl)
    · exact .inl rfl

/-- The Report count never passes the weight (R172). -/
theorem Trunk.counted_le {k : Trunk} (h : k.reportCount ≤ k.weight) (q : ServedQueue) :
    k.counted q ≤ k.weight := by
  unfold Trunk.counted
  split
  · exact min_le_left _ _
  · exact Nat.zero_le _
  · exact h

namespace State.InRange

variable {s : State}

theorem sendSlot (h : s.InRange) (l : LaneNo) (c : SlotCommand) : (s.sendSlot l c).InRange := by
  have ht := ((h.modSlot l (Slot.sending c)).modLane (l := l) (f := Lane.timed s.now c)
    fun hn a ha => hn a (by rwa [Lane.timed_inForce] at ha)).modLink
      (f := fun k => { k with awaiting := true, line := commandBytes s.draws l c }) id
  unfold State.sendSlot
  dsimp only
  split
  · exact (ht.modMge _).drawn
  · exact ht.drawn

theorem sendIf (h : s.InRange) (l : LaneNo) (kind : SlotCommand → Bool) : (s.sendIf l kind).InRange := by
  unfold State.sendIf
  refine ite ?_ h
  split
  · exact ite (h.sendSlot l _) h
  · exact h

theorem endSlot (h : s.InRange) (l : LaneNo) : (s.endSlot l).InRange := by
  have ht := (h.modLink (f := Link.slotEnded l) id).modMge fun m => { m with phase := m.phase.slotEnded l }
  exact ite (ite ht.stopLink.startLink ht.stopLink) ht

theorem loseSlot (h : s.InRange) (l : LaneNo) : (s.loseSlot l).InRange :=
  (((h.modSlot l _).raise _ _).loseLane l).failAccess l

theorem queueMode (h : s.InRange) (l : LaneNo) : (s.queueMode l).InRange := h.modSlot l _

theorem joined (h : s.InRange) (l : LaneNo) : (s.joined l).InRange :=
  (((h.modSlot l _).raise _ _).queueMode l).offerIdle l

theorem requeue (h : s.InRange) (l : LaneNo) (c : SlotCommand) : (s.requeue l c).InRange := by
  unfold State.requeue
  split
  · exact ite (h.modSlot l _) h
  · exact ite (h.modSlot l _) h
  · exact h.queueMode l
  · exact ite (h.modSlot l _) h
  · exact h

theorem duplicate (h : s.InRange) (l : LaneNo) : (s.duplicate l).InRange := by
  unfold State.duplicate
  split
  · exact (h.modSlot l _).requeue l _
  · exact h

theorem judge (h : s.InRange) (l : LaneNo) (r : Option Report) : (s.judge l r).InRange := by
  unfold State.judge
  split
  · exact ite h (h.modSlot l _)
  · exact h

theorem confirm (h : s.InRange) (l : LaneNo) (image : ControlImage) : (s.confirm l image).InRange := by
  have ht := h.modLane (l := l) (f := fun x => { x with
    confirmed := some image, commanding := if image = (s.lane l).control then false else x.commanding }) id
  exact ite (ite (ht.raise _ _) ht) (ht.queueMode l)

theorem answerAccess (h : s.InRange) (l : LaneNo) (v : BitVec 16) : (s.answerAccess l v).InRange := by
  unfold State.answerAccess
  split
  · exact ite (h.endAccess _ l _) h
  · exact h

theorem handOn (h : s.InRange) (l : LaneNo) (r : Report) : (s.handOn l r).InRange := by
  cases r with
  | nothing | hello _ | testEcho _ => exact h
  | presentation p => exact h.present _ p
  | passage d | forced d => exact h.rotation _ l d
  | reverse => exact h.reverse _
  | button | fault => exact h.raise _ _
  | confirm image => exact h.confirm l image
  | parameterAnswer v => exact h.answerAccess l v

theorem countMate (h : s.InRange) (l : LaneNo) : (s.countMate l).InRange := ite (h.modLane id) h

theorem activeReport (h : s.InRange) (l : LaneNo) (fresh : Bool) (r : Report) : (s.activeReport l fresh r).InRange :=
  ite (((h.judge l _).modSlot l _).handOn l r) ((h.judge l _).duplicate l)

theorem joiningReport (h : s.InRange) (l : LaneNo) : (s.joiningReport l).InRange := ite (h.joined l) (h.modSlot l _)

theorem byLink (h : s.InRange) (l : LaneNo) (fresh : Bool) (r : Report) : (s.byLink l fresh r).InRange := by
  unfold State.byLink
  split
  · exact h.modSlot l _
  · exact h.modSlot l _
  · exact (h.judge l _).loseSlot l
  · exact h
  · exact h
  · exact h.joiningReport l
  · exact h.activeReport l fresh _

theorem heard (h : s.InRange) (l : LaneNo) (fresh : Bool) (r : Report) : (s.heard l fresh r).InRange :=
  ite ((h.byLink l fresh r).countMate l) (h.byLink l fresh r)

theorem goodReply (h : s.InRange) (l : LaneNo) (n : Fin 16) (r : Report) : (s.goodReply l n r).InRange :=
  ite ((ite h ((h.modSlot l _).heard l _ r).settle).endSlot l) h

theorem failure (h : s.InRange) (l : LaneNo) : (s.failure l).InRange := by
  unfold State.failure
  split
  · exact (h.judge l none).modSlot l _
  · exact h.modSlot l _
  · exact h
  · exact h

theorem noReply (h : s.InRange) (l : LaneNo) : (s.noReply l).InRange := ite ((ite h (h.failure l)).endSlot l) h

theorem garbled (h : s.InRange) (l : LaneNo) : (s.garbled l).InRange :=
  have ht := h.errorOccurs .laneReply none []
  ite ((ite ht (ht.failure l)).endSlot l) h

theorem replyReceived (h : s.InRange) (l : LaneNo) (bs : List Byte) : (s.replyReceived l bs).InRange := by
  unfold State.replyReceived
  split
  · exact h.goodReply l _ _
  · exact h.garbled l

theorem slotLost (h : s.InRange) (l : LaneNo) : (s.slotLost l).InRange := ite (h.loseSlot l).settle h

theorem clearMate (h : s.InRange) (l : LaneNo) : (s.clearMate l).InRange := ite (h.modLane id) h

theorem testEnded (h : s.InRange) : s.testEnded.InRange := ite h.endTest h

/-! ## Reports and the arbiter (R145 to R148, R172, R182 to R184) -/

theorem pushReport (h : s.InRange) (k : FrameKind) (b : Body) : (s.pushReport k b).InRange := h.modTrunk id

theorem buildTally (h : s.InRange) : s.buildTally.InRange := (flagging ((h.pushReport _ _).drawn.modLog id)).drainTest

theorem holdExpiry (h : s.InRange) : s.holdExpiry.InRange := by
  unfold State.holdExpiry
  split
  · exact (h.reach _).drainTest
  · exact h

theorem endAudit (h : s.InRange) (sent missing : Nat) : (s.endAudit sent missing).InRange := (h.modLog id).raise _ _

theorem pushAudit (h : s.InRange) (es : List Entry) : (s.pushAudit es).InRange := by
  cases es with
  | nil => exact h
  | cons => exact (h.pushReport _ _).drawn

theorem buildAudit (h : s.InRange) (a : Audit) : (s.buildAudit a).InRange :=
  ite ((h.pushAudit _).endAudit _ _) ((h.pushAudit _).modLog id)

theorem tryEvent (h : s.InRange) : s.tryEvent.InRange := ite ((h.pushReport _ _).modEvu id) h

theorem holdoffExpiry (h : s.InRange) : s.holdoffExpiry.InRange := by
  unfold State.holdoffExpiry
  split
  · exact ((h.reach _).modEvu id).tryEvent
  · exact h

theorem statusExpiry (h : s.InRange) : s.statusExpiry.InRange := by
  unfold State.statusExpiry
  split
  · exact (h.reach _).modEvu id
  · exact h

theorem placeStatus (h : s.InRange) (part : Nat) (rest : List Byte) : (s.placeStatus part rest).InRange :=
  ite ((h.pushReport _ _).modEvu id) ((h.pushReport _ _).modEvu id)

theorem tryStatus (h : s.InRange) : s.tryStatus.InRange := by
  unfold State.tryStatus
  refine ite ?_ h
  split
  · exact h.placeStatus _ _
  · exact ite (h.placeStatus _ _).drawn h

theorem sendFrame (h : s.InRange) : s.sendFrame.InRange := by
  obtain ⟨hmax, hlow, hhigh, hcount⟩ := h.trunk
  have hc := Trunk.counted_le hcount
  unfold State.sendFrame
  split
  · exact h.modTrunk id
  · exact (h.modTrunk fun _ => ⟨hmax, hlow, hhigh, hc _⟩).drainTest
  · exact h.modTrunk fun _ => ⟨hmax, hlow, hhigh, hc _⟩
  · exact h

end State.InRange
end Sys2Proof.Machine
end

section
namespace Sys2Proof.Machine

/-- The contents that Write Profile applies are in their ranges (R75, R76). -/
theorem ProfileFields.applied_inRange (f : ProfileFields) (d : LaneDirection) (c : Bool) : (f.applied d c).inRange :=
  ⟨le_clamp 20 300 _ (by decide), clamp_le 20 300 _ (by decide), le_clamp 5 50 _ (by decide),
    clamp_le 5 50 _ (by decide), clamp_le 0 600 _ (by decide)⟩

theorem Profile.default_inRange : Profile.default.inRange := by unfold Profile.inRange; decide

/-- Template contents that pass R3's checks are in their ranges once applied (R2, R3). -/
theorem TemplateFields.applied_inRange {f : TemplateFields} (hbad : f.bad = false)
    (hlen : f.applied.lenMin ≤ f.applied.lenMax) : f.applied.inRange := by
  simp only [TemplateFields.bad, Bool.or_eq_false_iff, Bool.and_eq_false_iff, decide_eq_false_iff_not, not_not,
    Bool.not_eq_false', List.all_eq_true, not_lt] at hbad
  obtain ⟨⟨⟨hevent, hcheck⟩, hmarker⟩, hlegal⟩ := hbad
  have hlength (v : Nat) : 4 ≤ clamp 4 48 v ∧ clamp 4 48 v ≤ 48 := ⟨le_clamp _ _ _ (by decide), clamp_le _ _ _ (by decide)⟩
  have hoffset (v : Nat) : clamp 0 47 v ≤ 47 := clamp_le _ _ _ (by decide)
  exact ⟨(hlength _).1, hlen, (hlength _).2, hmarker, hlegal, hoffset _, hoffset _, hevent, hoffset _,
    le_clamp 4 14 _ (by decide), clamp_le 4 14 _ (by decide), hoffset _, hcheck⟩

/-- The store under a new profile count from 1 to 8 is in its ranges: no template is Loaded (R5). -/
theorem Policy.recount_inRange {p : Policy} (h : p.inRange) {np : Nat} (h1 : 1 ≤ np) (h8 : np ≤ 8) :
    (p.recount np).inRange := by
  obtain ⟨-, -, hprofiles, -⟩ := h
  refine ⟨h1, h8, fun i => ?_, fun i t ht => ?_⟩
  · simp only [Policy.recount, Vector.get_eq_getElem, Vector.getElem_ofFn]
    split
    · exact hprofiles _
    · exact Profile.default_inRange
  · simp [Policy.recount, Vector.get_eq_getElem] at ht

/-- The levels and thresholds that a request applies are in their ranges (R181). -/
theorem LevelFields.applied_inRange (f : LevelFields) {e : Evu} (h : e.inRange) : (f.applied e).inRange := by
  obtain ⟨hlevels, hr1, hr8, hw, hrest⟩ := h
  have hr := clampedOr_mem ⟨hr1, hr8⟩ f.report
  refine ⟨fun i => ?_, hr.1, hr.2, (clampedOr_mem ⟨Nat.zero_le _, hw⟩ f.wake).2, hrest⟩
  cases hf : f.levels with
  | none => simpa [LevelFields.applied, levelsOr, hf] using hlevels i
  | some xs =>
    simp only [LevelFields.applied, levelsOr, hf, Vector.get_eq_getElem, Vector.getElem_ofFn]
    exact clamp_le 0 7 _ (by decide)

/-- Clearing events touches no setting (R187). -/
theorem Evu.clearEvents_inRange (n : Nat) (e : Evu) : (e.clearEvents n).inRange ↔ e.inRange := by
  simp only [Evu.inRange, Evu.clearEvents]

namespace State.InRange

variable {s : State}

/-! ## Management requests: the frame of work (R173 to R175) -/

theorem beginRequest (h : s.InRange) : s.beginRequest.InRange := h.modMge _

theorem serveWith {α : Type} (h : s.InRange) (code : Nat) (m : Taken) (rd : Reader α)
    {act : ReplyHead → α → State → State} (ha : ∀ x a t, t.InRange → (act x a t).InRange) :
    (s.serveWith code m rd act).InRange := by
  unfold State.serveWith
  split
  · exact h
  · refine ite ?_ h
    dsimp only
    split
    · exact h.beginRequest.sendReply _ _
    · exact ite (ha _ _ _ h.beginRequest) (h.beginRequest.sendReply _ _)

theorem serve {α : Type} (h : s.InRange) (code : Nat) (m : Taken) (rd : Reader α) {f : α → State → State × Reply}
    (hf : ∀ a t, t.InRange → (f a t).1.InRange) : (s.serve code m rd f).InRange :=
  h.serveWith code m rd fun _ a t ht => (hf a t ht).sendReply _ _

theorem serveUnknown (h : s.InRange) : s.serveUnknown.InRange := by
  unfold State.serveUnknown
  split
  · exact h
  · split
    · exact h.beginRequest.sendReply _ _
    · exact ite h ((h.beginRequest.errorOccurs _ _ _).sendReply _ _)

theorem placeReply (h : s.InRange) : s.placeReply.InRange := by
  unfold State.placeReply
  split
  · exact h.placeParts _ _
  · exact h

/-- The state of a request's result. -/
theorem pair {β : Type} {a : State} (h : a.InRange) (b : β) : (a, b).1.InRange := h

/-! ## The bank, its clock, its schedule and its mode (R151 to R160, R169) -/

theorem assign (h : s.InRange) (b : BankNo) : (s.assign b).InRange := flagging { h with }

theorem doAssignBank (h : s.InRange) (n : Nat) : (doAssignBank n s).1.InRange := by
  unfold Machine.doAssignBank
  split
  · exact h.assign _
  · exact h

theorem doSetEvent (h : s.InRange) (n : Nat) : (doSetEvent n s).1.InRange := by
  unfold Machine.doSetEvent
  split
  · refine pair (h.modBcm fun hb => ?_) _
    obtain ⟨hclock, -, hb⟩ := hb
    exact ⟨hclock, nofun, hb⟩
  · split
    · exact h
    · next hn => exact pair (h.modBcm fun ⟨hclock, _, hb⟩ => ⟨hclock, fun c hc => by cases hc; omega, hb⟩) _

theorem setClock (h : s.InRange) {v : Nat} (hv : v < Config.dayTenths) : (s.setClock v).InRange :=
  (h.modBcm fun ⟨_, hb⟩ => ⟨fun t ht => by cases ht; exact hv, hb⟩).scheduleAt v

theorem doSetClock (h : s.InRange) (v : Nat) : (doSetClock v s).1.InRange := by
  unfold Machine.doSetClock
  split
  · exact h
  · next hv => exact pair (h.setClock (not_le.1 hv)) _

theorem doSetSchedule (h : s.InRange) (f : ScheduleFields) : (doSetSchedule f s).1.InRange := by
  unfold Machine.doSetSchedule
  dsimp only
  split
  · split
    · exact h
    · next hok =>
      simp only [not_or, not_le, not_and] at hok
      obtain ⟨hopening, hclosing, hdiffer⟩ := hok
      exact pair (h.modBcm fun ⟨hclock, hcode, _, _, _, hb⟩ =>
        ⟨hclock, hcode, hopening, hclosing, fun harmed he => hdiffer he harmed, hb⟩) _
  · exact h

theorem requestOpen (h : s.InRange) (cs : List Cause) : (s.requestOpen cs).1.InRange := by
  unfold State.requestOpen
  split
  · exact h
  · split
    · exact h
    · exact pair (h.enterOpen cs).settle _

theorem requestDormant (h : s.InRange) (m : RestMode) : (s.requestDormant m).1.InRange := by
  unfold State.requestDormant
  split
  · exact h
  · exact pair (h.enterDormant m) _

theorem recordDormant (h : s.InRange) (m : RestMode) : (s.recordDormant m).1.InRange :=
  pair (h.modBcm id) _

theorem requestMode (h : s.InRange) (m : BankMode) : (s.requestMode m).1.InRange := by
  unfold State.requestMode
  split
  · exact h
  · exact h
  · exact h
  · exact h
  · exact h.requestOpen _
  · exact h.requestDormant _
  · exact h.requestDormant _
  · exact pair (h.enterClosing _) _
  · exact pair (h.enterOpen _).settle _
  · exact h.recordDormant _
  · exact h.recordDormant _
  · exact pair h.leaveStandby _
  · exact h.requestOpen _
  · exact h.requestDormant _
  · exact h

theorem doSetBankMode (h : s.InRange) (n : Nat) : (doSetBankMode n s).1.InRange := by
  unfold Machine.doSetBankMode
  split
  · exact h.requestMode _
  · exact h

theorem doSetWakePattern (h : s.InRange) (f : WakeFields) : (doSetWakePattern f s).1.InRange := by
  unfold Machine.doSetWakePattern
  split
  · exact h
  · next hok =>
    simp only [List.isEmpty_iff, not_or, not_lt] at hok
    obtain ⟨hpos, hlen⟩ := hok
    exact pair (h.modBcm fun ⟨hclock, hcode, hopening, hclosing, harmed, he, hc, hoff, hle, hon, _⟩ =>
      ⟨hclock, hcode, hopening, hclosing, harmed, he, hc, hoff, hle, hon, clamp_le 0 63 _ (by decide),
        List.length_pos_iff.2 hpos, hlen⟩) _

/-! ## The Policy Store and the lanes (R3, R5, R76, R90 to R95, R130, R134) -/

theorem recountLane (h : s.InRange) (l : LaneNo) : (s.recountLane l).InRange := by
  unfold State.recountLane
  split
  · exact h.tryIdle l
  · exact ite (h.rest l) h
  · exact h

theorem changeCount (h : s.InRange) {np : Nat} (h1 : 1 ≤ np) (h8 : np ≤ 8) : (s.changeCount np).InRange := by
  have ht := h.modPolicy fun hp => Policy.recount_inRange hp h1 h8
  exact ((ite (ht.errorOccurs _ _ _) ht).eachLane fun l _ ht => ht.recountLane l).settle

theorem doSetProfileCount (h : s.InRange) (n : Nat) : (doSetProfileCount n s).1.InRange :=
  pair (ite h (h.changeCount (le_clamp 1 8 n (by decide)) (clamp_le 1 8 n (by decide)))) _

theorem storeProfile (h : s.InRange) (p : Fin 8) {x : Profile} (hx : x.inRange) : (s.storeProfile p x).InRange := by
  have ht := h.modPolicy (f := fun q => { q with profiles := upd q.profiles p fun _ => x })
    fun ⟨h1, h8, hprofiles, htemplates⟩ => ⟨h1, h8, fun i => by
      rw [get_upd]
      split
      · exact hx
      · exact hprofiles i, htemplates⟩
  exact (ht.eachLane fun l _ ht => ite (ht.readopt l) ht).settle

theorem doWriteProfile (h : s.InRange) (f : ProfileFields) : (doWriteProfile f s).1.InRange := by
  unfold Machine.doWriteProfile
  split
  · exact h
  · split
    · exact h
    · split
      · exact pair (h.storeProfile _ (f.applied_inRange _ _)) _
      · exact h

theorem setTemplate (h : s.InRange) (i : Fin 16) {t : Option Template}
    (ht : ∀ x, t = some x → i.val < usableTemplates s.policy.np ∧ x.inRange) : (s.setTemplate i t).InRange :=
  h.modPolicy fun ⟨h1, h8, hprofiles, htemplates⟩ => ⟨h1, h8, hprofiles, fun j x hx => by
    rw [get_upd] at hx
    split at hx
    · next e => exact e ▸ ht x hx
    · exact htemplates j x hx⟩

theorem loadTemplate (h : s.InRange) {i : Fin 16} (hi : i.val < usableTemplates s.policy.np) (f : TemplateFields) :
    (s.loadTemplate i f).1.InRange := by
  unfold State.loadTemplate
  split
  · exact h
  · split
    · exact h
    · next hbad hlen =>
      exact pair (h.setTemplate i fun x hx => ⟨hi, by
        cases hx
        exact TemplateFields.applied_inRange (by simpa using hbad) (not_lt.1 hlen)⟩) _

theorem doWriteTemplate (h : s.InRange) (r : TemplateRequest) : (doWriteTemplate r s).1.InRange := by
  unfold Machine.doWriteTemplate
  split
  · split
    · exact h
    · next hi =>
      split
      · exact h.loadTemplate (not_le.1 hi) _
      · split
        · exact pair (h.setTemplate _ fun _ hx => by cases hx) _
        · exact h
  · exact h

theorem choose (h : s.InRange) (l : LaneNo) (p : Fin 8) : (s.choose l p).InRange :=
  ite h ((h.modLane id).readopt l).settle

theorem doSetLaneProfileChoice (h : s.InRange) (f : ChoiceFields) : (doSetLaneProfileChoice f s).1.InRange := by
  unfold Machine.doSetLaneProfileChoice
  split
  · exact pair (h.choose _ _) _
  · exact h

theorem requestCombine (h : s.InRange) (l : LaneNo) (f : Option Nat) (c : Bool) : (s.requestCombine l f c).InRange := by
  unfold State.requestCombine
  split
  · exact h.withPairs _
  · exact h

theorem commandLane (h : s.InRange) (l : LaneNo) : (s.commandLane l).InRange := ite ((h.modLane id).queueMode l) h

theorem controlLane (h : s.InRange) (l : LaneNo) (f : ControlFields) (c : ControlImage) (reset : Bool) :
    (s.controlLane l f c reset).InRange := by
  have ht := ((h.modLane (l := l) (f := fun n => { n with control := c }) id).requestCombine l f.combine c.combine).commandLane l
  have hu := (ite (c := (s.lane l).control.override ≠ c.override ∨ (s.lane l).control.power ≠ c.power) (ht.readopt l) ht).settle
  exact ite (hu.resetLane l).settle hu

theorem doSetLaneControl (h : s.InRange) (f : ControlFields) : (doSetLaneControl f s).1.InRange := by
  unfold Machine.doSetLaneControl
  split
  · exact h
  · split
    · exact pair (h.controlLane _ f _ _) _
    · exact h

theorem beginAccess (h : s.InRange) (x : ReplyHead) (a : Access) : (s.beginAccess x a).InRange :=
  ite (h.endAccess x _ none) ((h.modSlot _ _).setPhase _)

theorem actLaneParameterAccess (h : s.InRange) (x : ReplyHead) (f : AccessFields) :
    (actLaneParameterAccess x f s).InRange := by
  unfold Machine.actLaneParameterAccess
  split
  · exact ite (h.sendReply _ _) (h.beginAccess _ _)
  · exact h.sendReply _ _

theorem accessTimeout (h : s.InRange) : s.accessTimeout.InRange := by
  unfold State.accessTimeout
  split
  · exact ite (h.endAccess _ _ none) h
  · exact h

theorem doLaneLinkTest (h : s.InRange) (f : TestFields) : (doLaneLinkTest f s).1.InRange := by
  unfold Machine.doLaneLinkTest
  split
  · exact h
  · exact pair (h.modLink id) _

/-- The settings that a header request starts from: the pending ones, or those in force (R130). -/
theorem pendingOr (h : s.InRange) : (s.link.pendingSettings.getD s.link.settings).inRange := by
  obtain ⟨hsettings, hpending, -⟩ := h.link
  cases hs : s.link.pendingSettings with
  | none => exact hsettings
  | some x => exact hpending x hs

theorem doSetLinkHeader (h : s.InRange) (f : HeaderFields) : (doSetLinkHeader f s).1.InRange := by
  unfold Machine.doSetLinkHeader
  dsimp only
  split
  · next bw sel _ _ =>
    refine pair (h.modLink fun ⟨hsettings, hpending, hperiod⟩ =>
      ⟨hsettings, fun x hx => ?_, clampedOr_mem hperiod f.period⟩) _
    dsimp only at hx
    split at hx
    · cases hx
      exact f.applied_inRange h.pendingOr bw sel
    · exact hpending x hx
  · exact h

theorem doClearCounts (h : s.InRange) (n : Nat) : (doClearCounts n s).1.InRange := by
  unfold Machine.doClearCounts
  split
  · exact h
  · exact pair (h.eachLane fun l _ ht => ite (ht.modLane id) ht) _

/-! ## Zones, peers, reporting, events, errors and the log (R67 to R69, R99, R147, R162, R166, R177, R181, R187) -/

theorem doSetZoneQuota (h : s.InRange) (f : QuotaFields) : (doSetZoneQuota f s).1.InRange := by
  unfold Machine.doSetZoneQuota
  split
  · exact h
  · exact pair (ite (h.modZone _ _) ((h.modZone _ _).reportFull _)) _

theorem doResetZoneCounts (h : s.InRange) (n : Nat) : (doResetZoneCounts n s).1.InRange := by
  unfold Machine.doResetZoneCounts
  split
  · exact h
  · exact pair (h.foldl (fun _ z ht => ite (ht.modZone z _) ht) _) _

theorem doSetPeer (h : s.InRange) (f : PeerFields) : (doSetPeer f s).1.InRange := by
  unfold Machine.doSetPeer
  split
  · exact h
  · split
    · exact h
    · refine pair ((h.modPeers fun ⟨hd1, hd8, ht20, ht1000, hh5, hh60⟩ => ?_).modPeer _ _) _
      have hd := clampedOr_mem ⟨hd1, hd8⟩ f.downAfter
      have ht := clampedOr_mem ⟨ht20, ht1000⟩ f.timeout
      have hh := clampedOr_mem ⟨hh5, hh60⟩ f.hold
      exact ⟨hd.1, hd.2, ht.1, ht.2, hh.1, hh.2⟩

theorem setArbiter_inRange {k : Trunk} (h : k.inRange) (a : ArbiterMode) {w : Nat} (hw : 1 ≤ w ∧ w ≤ 15) :
    (k.setArbiter a w).inRange := by
  unfold Trunk.setArbiter
  split
  · exact h
  · exact ⟨h.1, hw.1, hw.2, Nat.zero_le _⟩

theorem doReadLog (h : s.InRange) (f : LogFields) : (doReadLog f s).1.InRange := by
  unfold Machine.doReadLog
  split
  · split
    · exact pair (h.endAudit _ _) _
    · exact h
  · split
    · exact h
    · exact pair (h.modLog id) _

theorem setLevels (h : s.InRange) (f : LevelFields) : (s.setLevels f).InRange := by
  have he : (s.modEvu f.applied).InRange := h.modEvu (f := f.applied) f.applied_inRange
  have ht : ((s.modEvu f.applied).offerNew s.evu).InRange := he.foldl (fun _ c ht => ite (ht.offer c) ht) _
  exact ite ht.releaseStandby ht

theorem doSetEventLevels (h : s.InRange) (f : LevelFields) : (doSetEventLevels f s).1.InRange := by
  unfold Machine.doSetEventLevels
  split
  · split
    · exact h
    · exact pair (h.setLevels f) _
  · exact pair (h.setLevels f) _

theorem doClearErrors (h : s.InRange) (n : Nat) : (doClearErrors n s).1.InRange := by
  unfold Machine.doClearErrors
  split
  · exact h
  · exact pair (h.modEvu id) _

theorem doClearEvents (h : s.InRange) (n : Nat) : (doClearEvents n s).1.InRange := by
  unfold Machine.doClearEvents
  split
  · exact h
  · exact pair (h.modEvu (Evu.clearEvents_inRange n _).2) _

end State.InRange

/-- The values that Set Reporting applies are in their ranges (R144, R162, R166, R172, R177). -/
structure ReportingValues.InRange (v : ReportingValues) : Prop where
  calm : (⟨v.calmBatch.value, v.calmHold.value⟩ : Coalescing).inRange
  surge : (⟨v.surgeBatch.value, v.surgeHold.value⟩ : Coalescing).inRange
  thresholds : 1 ≤ v.surgeOff.value ∧ v.surgeOff.value ≤ v.surgeOn.value ∧ v.surgeOn.value ≤ 1000
  weight : 1 ≤ v.weight.value ∧ v.weight.value ≤ 15
  maxPayload : v.maxPayload.value = 256 ∨ v.maxPayload.value = 512 ∨ v.maxPayload.value = 1024
  interval : 1 ≤ v.interval.value ∧ v.interval.value ≤ 60
  holdoff : v.holdoff.value ≤ 1000

/-- SurgeOff after a request is at least 1 and not above SurgeOn (R162). -/
theorem surgeOffOr_mem {on now : Nat} (hon : 1 ≤ on) (hnow : 1 ≤ now ∧ now ≤ 1000) (f : Option Nat) :
    1 ≤ (surgeOffOr on now f).value ∧ (surgeOffOr on now f).value ≤ on :=
  ⟨le_min (clampedOr_mem hnow f).1 hon, min_le_right _ _⟩

theorem maxPayloadOr_mem {now : Nat} (h : now = 256 ∨ now = 512 ∨ now = 1024) (f : Option Nat) :
    (maxPayloadOr now f).value = 256 ∨ (maxPayloadOr now f).value = 512 ∨ (maxPayloadOr now f).value = 1024 := by
  cases f with
  | none => exact h
  | some v => exact payloadOf_mem v

/-- Clamped coalescing settings make a set in its ranges (R144). -/
theorem Coalescing.inRange_clampedOr {c : Coalescing} (h : c.inRange) (b t : Option Nat) :
    (⟨(clampedOr 1 32 c.batch b).value, (clampedOr 10 10000 c.hold t).value⟩ : Coalescing).inRange := by
  obtain ⟨hb1, hb32, ht10, ht10000⟩ := h
  have hb := clampedOr_mem ⟨hb1, hb32⟩ b
  have ht := clampedOr_mem ⟨ht10, ht10000⟩ t
  exact ⟨hb.1, hb.2, ht.1, ht.2⟩

theorem ReportingFields.values_inRange {s : State} (h : s.InRange) (f : ReportingFields) (a : ArbiterMode)
    (p : LogPolicy) : (f.values s a p).InRange := by
  obtain ⟨-, -, -, -, -, -, -, hoff1, hle, hon1000, -⟩ := h.bcm
  obtain ⟨hcalm, hsurge⟩ := h.log
  obtain ⟨hmax, hw1, hw15, -⟩ := h.trunk
  obtain ⟨-, -, -, -, hi1, hi60, hh⟩ := h.evu
  have hon := clampedOr_mem (lo := 1) ⟨hoff1.trans hle, hon1000⟩ f.surgeOn
  have hoff := surgeOffOr_mem hon.1 ⟨hoff1, hle.trans hon1000⟩ f.surgeOff
  exact {
    calm := Coalescing.inRange_clampedOr hcalm _ _
    surge := Coalescing.inRange_clampedOr hsurge _ _
    thresholds := ⟨hoff.1, hoff.2, hon.2⟩
    weight := clampedOr_mem ⟨hw1, hw15⟩ f.weight
    maxPayload := maxPayloadOr_mem hmax f.maxPayload
    interval := clampedOr_mem ⟨hi1, hi60⟩ f.interval
    holdoff := (clampedOr_mem ⟨Nat.zero_le _, hh⟩ f.holdoff).2 }

namespace State.InRange

variable {s : State}

theorem applyReporting (h : s.InRange) {v : ReportingValues} (hv : v.InRange) : (s.applyReporting v).InRange := by
  refine ((((h.modLog fun _ => ⟨hv.calm, hv.surge⟩).modBcm fun hb => ?_).modTrunk fun hk => ?_).modEvu
    fun he => ?_).drainTest
  · obtain ⟨hclock, hcode, hopening, hclosing, harmed, hest, hcount, -, -, -, hwake⟩ := hb
    obtain ⟨hoff, hle, hon⟩ := hv.thresholds
    exact ⟨hclock, hcode, hopening, hclosing, harmed, hest, hcount, hoff, hle, hon, hwake⟩
  · obtain ⟨-, hk⟩ := setArbiter_inRange hk v.arbiter hv.weight
    exact ⟨hv.maxPayload, hk⟩
  · obtain ⟨hlevels, hr1, hr8, hw, -⟩ := he
    exact ⟨hlevels, hr1, hr8, hw, hv.interval.1, hv.interval.2, hv.holdoff⟩

theorem doSetReporting (h : s.InRange) (f : ReportingFields) : (doSetReporting f s).1.InRange := by
  unfold Machine.doSetReporting
  split
  · exact pair (h.applyReporting (f.values_inRange h _ _)) _
  · exact h

/-! ## The Entitlement Table (R17, R23 to R31) -/

theorem beginSweep (h : s.InRange) (x : ReplyHead) (p : Option Nat) : (s.beginSweep x p).InRange :=
  (h.modTable _).setPhase _

theorem endSweep (h : s.InRange) : s.endSweep.InRange := by
  unfold State.endSweep
  split
  · exact (h.modTable _).sendReply _ _
  · exact h

theorem actSetTableGeometry (h : s.InRange) (x : ReplyHead) (f : GeometryFields) : (actSetTableGeometry x f s).InRange :=
  ite (h.sendReply _ _) (ite (h.sendReply _ _) ((h.modTable _).beginSweep _ _))

theorem actClearTable (h : s.InRange) (x : ReplyHead) (u : Unit) : (actClearTable x u s).InRange :=
  ite (h.sendReply _ _) (h.beginSweep _ _)

theorem eachEntry {α : Type} (h : s.InRange) {f : α → State → State × EntryResult}
    (hf : ∀ a t, t.InRange → (f a t).1.InRange) (xs : List α) : (s.eachEntry f xs).1.InRange := by
  induction xs generalizing s with
  | nil => exact h
  | cons a xs ih => exact ih (hf a s h)

theorem runList {α : Type} (h : s.InRange) (xs : List α) {f : α → State → State × EntryResult}
    (hf : ∀ a t, t.InRange → (f a t).1.InRange) : (s.runList xs f).1.InRange := by
  unfold State.runList
  split
  · exact h
  · exact pair (h.eachEntry hf xs) _

theorem upsertOne (h : s.InRange) (r : RawImage) : (s.upsertOne r).1.InRange := by
  unfold State.upsertOne
  split
  · exact h
  · unfold State.upsertImage
    split
    · exact pair (h.putRecord _ _) _
    · split
      · exact pair (h.putRecord _ _) _
      · exact pair (h.errorOccurs _ _ _) _

theorem fillImage (h : s.InRange) (n : Nat) (i : Image) : (s.fillImage n i).1.InRange := by
  unfold State.fillImage
  dsimp only
  split
  · exact h
  · split
    · exact h
    · split
      · split
        · exact pair (h.putRecord _ _) _
        · exact h
      · exact pair (h.putRecord _ _) _

theorem fillOne (h : s.InRange) (e : Nat × RawImage) : (s.fillOne e).1.InRange := by
  unfold State.fillOne
  split
  · exact h
  · exact h.fillImage _ _

theorem revokeOne (h : s.InRange) (e : Fin 16) (k : Key) : (s.revokeOne e k).1.InRange := by
  unfold State.revokeOne
  split
  · exact h
  · exact pair (h.putRecord _ _) _

theorem doRevokeRecords (h : s.InRange) (f : RevokeFields) : (doRevokeRecords f s).1.InRange := by
  unfold Machine.doRevokeRecords
  split
  · exact h
  · split
    · exact h.runList _ fun k _ ht => ht.revokeOne _ k
    · exact h

theorem purgeOne (h : s.InRange) (k : Key) : (s.purgeOne k).1.InRange := by
  unfold State.purgeOne
  split
  · exact h
  · split
    · exact h
    · exact pair (h.modTable _) _

theorem doPurgeRecords (h : s.InRange) (ks : List RawKey) : (doPurgeRecords ks s).1.InRange := by
  unfold Machine.doPurgeRecords
  split
  · exact h
  · exact h.runList _ fun k _ ht => ht.purgeOne k

theorem doReadRecord (h : s.InRange) (k : RawKey) : (doReadRecord k s).1.InRange := by
  unfold Machine.doReadRecord
  split
  · exact h
  · exact pair h.drawn _

/-! ## The clock, the surge estimator and power-on (R151, R161, R163) -/

theorem advanceClock (h : s.InRange) : s.advanceClock.InRange := by
  unfold State.advanceClock
  split
  · exact h
  · next t _ =>
    have hu := (h.reach s.bcm.tick).modBcm (f := fun b => { b with clock := some (nextTenth t), tick := b.tick + 100 })
      fun ⟨_, hb⟩ => ⟨fun c hc => by cases hc; exact nextTenth_lt t, hb⟩
    exact (ite (hu.raise _ _) hu).scheduleAt _

theorem surgeEvents (h : s.InRange) (before : Bool) : (s.surgeEvents before).InRange := by
  unfold State.surgeEvents
  split
  · exact (h.raise _ _).drainTest
  · exact (h.raise _ _).drainTest
  · exact h

theorem updateSurge (h : s.InRange) : s.updateSurge.InRange := by
  refine (flagging ((h.reach _).modBcm fun hb => ?_)).surgeEvents _
  obtain ⟨hclock, hcode, hopening, hclosing, harmed, hest, hcount, hb⟩ := hb
  exact ⟨hclock, hcode, hopening, hclosing, harmed, Surge.next_le hest hcount, Nat.zero_le _, hb⟩

/-- Every setting has a power-on value in its range. -/
theorem reset : State.reset.InRange where
  bcm := by
    refine ⟨nofun, nofun, ?_⟩
    decide
  log := by unfold Log.inRange Coalescing.inRange; decide
  trunk := by unfold Trunk.inRange; decide
  evu := by unfold Evu.inRange; decide
  peers := by unfold Peers.inRange; decide
  link := ⟨by unfold HeaderSettings.inRange; decide, nofun, by decide, by decide⟩
  policy := by
    refine ⟨by decide, by decide, fun i => ?_, fun i t ht => ?_⟩
    · rw [show State.reset.policy.profiles.get i = Profile.default by simp [State.reset, Policy.initial, Vector.get_eq_getElem]]
      exact Profile.default_inRange
    · simp [State.reset, Policy.initial, Vector.get_eq_getElem] at ht
  lanes l a ha := by simp [State.lane, State.reset, Lane.initial, Vector.get_eq_getElem] at ha

theorem powerUp (s : State) : s.powerUp.InRange := { reset with }

/-! ## Frames received (R165 to R168) -/

theorem takeWake (h : s.InRange) (payload : List Byte) : (s.takeWake payload).InRange :=
  ite (leaveDeep (h.modTrunk id)) (h.modTrunk id)

theorem takeRequest (h : s.InRange) (f : FrameFields) (lead : List Byte) : (s.takeRequest f lead).InRange :=
  ite (h.modMge _) (h.errorOccurs _ _ _)

theorem handPeer (h : s.InRange) (k : FrameKind) (f : FrameFields) (lead : List Byte) : (s.handPeer k f lead).InRange :=
  takePeer (h.modTrunk id) k _ _ _ _

theorem byKind (h : s.InRange) (k : FrameKind) (f : FrameFields) (lead : List Byte) : (s.byKind k f lead).InRange := by
  have hu : s.countUnwanted.InRange := h.modTrunk id
  have ht : s.countTaken.InRange := h.modTrunk id
  cases k with
  | request => exact ite (ht.takeRequest f lead) hu
  | query | answer | withdrawNotice | reconcileNotice | entryNotice | exitNotice => exact ite (h.handPeer _ f lead) hu
  | wake | reply | tally | event | status | audit => exact hu

theorem address (h : s.InRange) (g : Frame) (lead : List Byte) : (s.address g lead).InRange :=
  ite (h.modTrunk id) (ite (ite (h.takeWake _) (h.modTrunk id)) (h.byKind _ _ _))

theorem receive (h : s.InRange) (bs : List Byte) : (s.receive bs).InRange := by
  unfold State.receive
  split
  · exact h.errorOccurs _ _ _
  · exact h.address _ _

end State.InRange
end Sys2Proof.Machine
end

section
namespace Sys2Proof.Machine

/-! ## Every command and every step -/

/-- Every command answers a next state, with every setting in its range. -/
theorem State.InRange.exec {s : State} (h : s.InRange) (c : Instr) : ∃ t, exec c s = .next t ∧ t.InRange := by
  cases c with
  | powerOn => exact ⟨_, rfl, powerUp s⟩
  | requestFrame | admissionQuery | answer | entryNotice | exitNotice | withdrawNotice | reconcileNotice | wakeFrame
  | unwantedFrame | damagedFrame => exact ⟨_, rfl, h.receive _⟩
  | identify => exact ⟨_, rfl, h.serve _ _ _ fun _ _ ht => ht⟩
  | assignBank => exact ⟨_, rfl, h.serve _ _ _ fun n _ ht => ht.doAssignBank n⟩
  | setEvent => exact ⟨_, rfl, h.serve _ _ _ fun n _ ht => ht.doSetEvent n⟩
  | setClock => exact ⟨_, rfl, h.serve _ _ _ fun v _ ht => ht.doSetClock v⟩
  | setSchedule => exact ⟨_, rfl, h.serve _ _ _ fun f _ ht => ht.doSetSchedule f⟩
  | setBankMode => exact ⟨_, rfl, h.serve _ _ _ fun n _ ht => ht.doSetBankMode n⟩
  | bankReset => exact ⟨_, rfl, h.serve _ _ _ fun _ _ ht => pair ht.doBankReset _⟩
  | setTableGeometry => exact ⟨_, rfl, h.serveWith _ _ _ fun x f _ ht => ht.actSetTableGeometry x f⟩
  | upsertRecords => exact ⟨_, rfl, h.serve _ _ _ fun rs _ ht => ht.runList rs fun r _ hu => hu.upsertOne r⟩
  | fillSlots => exact ⟨_, rfl, h.serve _ _ _ fun _ _ ht => ht.runList _ fun e _ hu => hu.fillOne e⟩
  | revokeRecords => exact ⟨_, rfl, h.serve _ _ _ fun f _ ht => ht.doRevokeRecords f⟩
  | purgeRecords => exact ⟨_, rfl, h.serve _ _ _ fun ks _ ht => ht.doPurgeRecords ks⟩
  | readRecord => exact ⟨_, rfl, h.serve _ _ _ fun k _ ht => ht.doReadRecord k⟩
  | clearTable => exact ⟨_, rfl, h.serveWith _ _ _ fun x u _ ht => ht.actClearTable x u⟩
  | sweepEnd => exact ⟨_, rfl, h.endSweep⟩
  | setProfileCount => exact ⟨_, rfl, h.serve _ _ _ fun n _ ht => ht.doSetProfileCount n⟩
  | writeProfile => exact ⟨_, rfl, h.serve _ _ _ fun f _ ht => ht.doWriteProfile f⟩
  | writeTemplate => exact ⟨_, rfl, h.serve _ _ _ fun r _ ht => ht.doWriteTemplate r⟩
  | setLaneProfileChoice => exact ⟨_, rfl, h.serve _ _ _ fun f _ ht => ht.doSetLaneProfileChoice f⟩
  | setLaneControl => exact ⟨_, rfl, h.serve _ _ _ fun f _ ht => ht.doSetLaneControl f⟩
  | laneParameterAccess => exact ⟨_, rfl, h.serveWith _ _ _ fun x f _ ht => ht.actLaneParameterAccess x f⟩
  | laneAccessTimeout => exact ⟨_, rfl, h.accessTimeout⟩
  | laneLinkTest => exact ⟨_, rfl, h.serve _ _ _ fun f _ ht => ht.doLaneLinkTest f⟩
  | setLinkHeader => exact ⟨_, rfl, h.serve _ _ _ fun f _ ht => ht.doSetLinkHeader f⟩
  | setZoneQuota => exact ⟨_, rfl, h.serve _ _ _ fun f _ ht => ht.doSetZoneQuota f⟩
  | resetZoneCounts => exact ⟨_, rfl, h.serve _ _ _ fun n _ ht => ht.doResetZoneCounts n⟩
  | readZones => exact ⟨_, rfl, h.serve _ _ _ fun _ _ ht => ht⟩
  | setPeer => exact ⟨_, rfl, h.serve _ _ _ fun f _ ht => ht.doSetPeer f⟩
  | setReporting => exact ⟨_, rfl, h.serve _ _ _ fun f _ ht => ht.doSetReporting f⟩
  | setEventLevels => exact ⟨_, rfl, h.serve _ _ _ fun f _ ht => ht.doSetEventLevels f⟩
  | setWakePattern => exact ⟨_, rfl, h.serve _ _ _ fun f _ ht => ht.doSetWakePattern f⟩
  | readLog => exact ⟨_, rfl, h.serve _ _ _ fun f _ ht => ht.doReadLog f⟩
  | readStatus => exact ⟨_, rfl, h.serve _ _ _ fun _ _ ht => ht.drawn⟩
  | readErrors => exact ⟨_, rfl, h.serve _ _ _ fun _ _ ht => ht.drawn⟩
  | clearErrors => exact ⟨_, rfl, h.serve _ _ _ fun n _ ht => ht.doClearErrors n⟩
  | clearEvents => exact ⟨_, rfl, h.serve _ _ _ fun n _ ht => ht.doClearEvents n⟩
  | clearCounts => exact ⟨_, rfl, h.serve _ _ _ fun n _ ht => ht.doClearCounts n⟩
  | unknownRequest => exact ⟨_, rfl, h.serveUnknown⟩
  | replyPlace => exact ⟨_, rfl, h.placeReply⟩
  | queryDeadlineExpiry l => exact ⟨_, rfl, (h.queryExpiry l).settle⟩
  | remoteHoldDeadline k => exact ⟨_, rfl, h.remoteExpiry k⟩
  | lapsedEntryExpiry tag => exact ⟨_, rfl, h.lapsedExpiry tag⟩
  | laneCycleStart => exact ⟨_, rfl, h.startCycle⟩
  | automaticHeader => exact ⟨_, rfl, h.sendAutomatic⟩
  | triggeredHeader => exact ⟨_, rfl, h.sendTriggered⟩
  | poll l | grantCommand l | refuseCommand l | referCommand l | lampCommand l | modeCommand l | parameterCommand l
  | repeatCommand l | testCommand l => exact ⟨_, rfl, h.sendIf l _⟩
  | nothingReport l n | presentationReport l n | passageReport l n | reverseReport l n | forcedReport l n
  | buttonReport l n | faultReport l n | helloReport l n | confirmReport l n | parameterAnswer l n | testEcho l n =>
    exact ⟨_, rfl, h.goodReply l n _⟩
  | missingReply l => exact ⟨_, rfl, h.noReply l⟩
  | garbledReply l bs => exact ⟨_, rfl, h.replyReceived l bs⟩
  | slotLoss l => exact ⟨_, rfl, h.slotLost l⟩
  | mateMarkClear l => exact ⟨_, rfl, h.clearMate l⟩
  | linkTestEnd => exact ⟨_, rfl, h.testEnded⟩
  | passWindowExpiry l => exact ⟨_, rfl, (h.passExpiry l).settle⟩
  | refusalDisplayExpiry l => exact ⟨_, rfl, (h.displayExpiry l).settle⟩
  | clockAdvance => exact ⟨_, rfl, h.advanceClock.settle⟩
  | surgeUpdate => exact ⟨_, rfl, h.updateSurge⟩
  | tallyHoldExpiry => exact ⟨_, rfl, h.holdExpiry⟩
  | tallyFrameBuild => exact ⟨_, rfl, ite h.buildTally h⟩
  | auditFrameBuild => exact ⟨_, rfl, by split; exacts [ite (h.buildAudit _) h, h]⟩
  | eventHoldoffExpiry => exact ⟨_, rfl, h.holdoffExpiry⟩
  | eventFramePlace => exact ⟨_, rfl, h.tryEvent⟩
  | statusIntervalExpiry => exact ⟨_, rfl, h.statusExpiry⟩
  | statusReportPlace => exact ⟨_, rfl, h.tryStatus⟩
  | trunkFrameSend => exact ⟨_, rfl, h.sendFrame⟩

/-- A step keeps every setting in its range. -/
theorem State.InRange.step {s t : State} (h : s.InRange) (ht : step s = .next t) : t.InRange := by
  unfold Machine.step at ht
  split at ht
  · cases ht
    exact { h with }
  · next c rest _ =>
    have hs : { s with pending := rest }.InRange := { h with }
    obtain ⟨u, hu, hr⟩ := hs.exec c
    cases hu.symm.trans ht
    exact hr

/-- Settles O10: the invariant holds block by block after every operation of the model, so after every command. -/
theorem settingsStayInRange : Obligations.SettingsStayInRange := fun s t h ht =>
  t.settingsInRange_iff.2 ((s.settingsInRange_iff.1 h).step ht)

end Sys2Proof.Machine
end

section
/-! SUPPORT. The Credential Decoder stage by stage, the bucket index, the probe sequence and the lookup (R6 to R15, R21). -/

namespace Sys2Proof.Machine

/-! ## Characters and digit fields (R1, R10 to R12) -/

/-- A digit character (log entry 50). -/
def IsDigit (b : Byte) : Prop := 0x30 ≤ b.toNat ∧ b.toNat ≤ 0x39

/-- A legal character: a digit or a capital letter (log entry 50). -/
def IsLegal (b : Byte) : Prop := IsDigit b ∨ (0x41 ≤ b.toNat ∧ b.toNat ≤ 0x5A)

/-- The value of a digit character. -/
def digitValue (b : Byte) : Nat := b.toNat - 0x30

/-- The field lies in the payload and every character of it is a digit (R10). -/
def DigitField (x : List Byte) (o n : Nat) : Prop := o + n ≤ x.length ∧ ∀ b ∈ field x o n, IsDigit b

theorem digitOf_of_isDigit {b : Byte} (h : IsDigit b) : digitOf b = some (digitValue b) := if_pos h

theorem digitOf_eq_none {b : Byte} (h : ¬IsDigit b) : digitOf b = none := if_neg h

theorem legalChar_iff (b : Byte) : legalChar b = true ↔ IsLegal b := by
  unfold legalChar IsLegal
  by_cases h : IsDigit b
  · simp [digitOf_of_isDigit h, h]
  · simp [digitOf_eq_none h, h]

theorem mapM_digitOf {bs : List Byte} (h : ∀ b ∈ bs, IsDigit b) : bs.mapM digitOf = some (bs.map digitValue) := by
  induction bs with
  | nil => rfl
  | cons b bs ih =>
    obtain ⟨hb, hbs⟩ := List.forall_mem_cons.1 h
    simp [List.mapM_cons, digitOf_of_isDigit hb, ih hbs]

theorem mapM_digitOf_eq_none {bs : List Byte} (h : ¬∀ b ∈ bs, IsDigit b) : bs.mapM digitOf = none := by
  induction bs with
  | nil => exact absurd (by simp) h
  | cons b bs ih =>
    by_cases hb : IsDigit b
    · have hbs : ¬∀ c ∈ bs, IsDigit c := fun hbs => h (List.forall_mem_cons.2 ⟨hb, hbs⟩)
      simp [List.mapM_cons, digitOf_of_isDigit hb, ih hbs]
    · simp [List.mapM_cons, digitOf_eq_none hb]

/-- A good field reads as the values of its digits. -/
theorem digitsAt_of_digitField {x : List Byte} {o n : Nat} (h : DigitField x o n) :
    digitsAt x o n = some ((field x o n).map digitValue) := by
  obtain ⟨hlen, hdigits⟩ := h
  rw [digitsAt, if_pos hlen, mapM_digitOf hdigits]

theorem digitsAt_eq_none {x : List Byte} {o n : Nat} (h : ¬DigitField x o n) : digitsAt x o n = none := by
  unfold digitsAt
  split
  · next hlen => exact mapM_digitOf_eq_none fun hdigits => h ⟨hlen, hdigits⟩
  · rfl

/-- A field that the template does not have reads as no digits; one that it has as its digits (R10). -/
theorem optDigitsAt_of_digitField {x : List Byte} {o n : Nat} (h : n = 0 ∨ DigitField x o n) :
    optDigitsAt x o n = some ((if n = 0 then [] else field x o n).map digitValue) := by
  unfold optDigitsAt
  split
  · rfl
  · next hn => exact digitsAt_of_digitField (h.resolve_left hn)

theorem optDigitsAt_eq_none {x : List Byte} {o n : Nat} (h : ¬(n = 0 ∨ DigitField x o n)) : optDigitsAt x o n = none := by
  obtain ⟨hn, hfield⟩ := not_or.1 h
  rw [optDigitsAt, if_neg hn, digitsAt_eq_none hfield]

theorem ofDigits_map (bs : List Byte) : ofDigits (bs.map digitValue) = bs.foldl (fun a b => a * 10 + (b.toNat - 0x30)) 0 :=
  List.foldl_map

theorem checkValue_map (bs : List Byte) :
    checkValue (bs.map digitValue) = (bs.zipIdx.map fun y => (y.1.toNat - 0x30) * (y.2 % 7 + 2)).sum % 97 := by
  rw [checkValue, List.zipIdx_map, List.map_map]
  rfl

/-! ## The fields of a template (R10 to R12) -/

/-- Every field of the template is good in the payload (R10). -/
def Template.Fits (t : Template) (x : List Byte) : Prop :=
  (t.eventLen = 0 ∨ DigitField x t.eventAt t.eventLen) ∧ DigitField x t.serialAt t.serialLen ∧
    (t.checkLen = 0 ∨ DigitField x t.checkAt t.checkLen)

/-- The digits that the check value is computed over: the event field, if there is one, and the serial field (R11). -/
def Template.checked (t : Template) (x : List Byte) : List Byte :=
  (if t.eventLen = 0 then [] else field x t.eventAt t.eventLen) ++ field x t.serialAt t.serialLen

theorem Template.extract_eq_malformed {t : Template} {x : List Byte} (h : ¬t.Fits x) : t.extract x = .failed .malformed := by
  unfold Template.extract
  split
  · next hev hserial hchk =>
    refine absurd ⟨?_, ?_, ?_⟩ h
    · exact Classical.byContradiction fun hn => by simp [optDigitsAt_eq_none hn] at hev
    · exact Classical.byContradiction fun hn => by simp [digitsAt_eq_none hn] at hserial
    · exact Classical.byContradiction fun hn => by simp [optDigitsAt_eq_none hn] at hchk
  · rfl

/-- What a template extracts from a payload with good fields. -/
theorem Template.extract_of_fits {t : Template} {x : List Byte} (h : t.Fits x) :
    t.extract x =
      if t.checkLen ≠ 0 ∧ ofDigits ((field x t.checkAt t.checkLen).map digitValue) ≠
          checkValue ((t.checked x).map digitValue) then .failed .badCheck
      else .decoded ⟨.barcode, ofDigits ((field x t.serialAt t.serialLen).map digitValue)⟩
        (if t.eventLen = 0 then none else some (ofDigits ((field x t.eventAt t.eventLen).map digitValue))) := by
  obtain ⟨hev, hserial, hchk⟩ := h
  simp only [Template.extract, optDigitsAt_of_digitField hev, digitsAt_of_digitField hserial, optDigitsAt_of_digitField hchk,
    Template.checked, List.map_append]
  by_cases hc : t.checkLen = 0 <;> by_cases he : t.eventLen = 0 <;> simp [hc, he]

/-! ## The winning template (R6 to R9) -/

theorem Template.wins_iff (t : Template) (x : List Byte) :
    t.wins x = true ↔ (t.lenMin ≤ x.length ∧ x.length ≤ t.lenMax) ∧
      (t.marker = [] ∨ (t.markerAt + t.marker.length ≤ x.length ∧ field x t.markerAt t.marker.length = t.marker)) := by
  simp [Template.wins]

/-- A template stands at this index of the accepted set, below the usable count (R6, R9). -/
def Policy.Accepts (p : Policy) (accepted : Set16) (i : Fin 16) (t : Template) : Prop :=
  accepted.getLsbD i.val = true ∧ i.val < usableTemplates p.np ∧ p.templates.get i = some t

theorem Policy.template_eq_some {p : Policy} {i : Fin 16} {t : Template} :
    p.template i = some t ↔ i.val < usableTemplates p.np ∧ p.templates.get i = some t := by
  unfold Policy.template
  split <;> simp_all

/-- No accepted template wins (R9). -/
theorem Policy.winner_eq_none {p : Policy} {accepted : Set16} {x : List Byte}
    (h : ∀ i t, p.Accepts accepted i t → t.wins x = false) : p.winner accepted x = none := by
  unfold Policy.winner
  rw [List.findSome?_eq_none_iff]
  intro i _
  split
  · next hacc =>
    split
    · next t ht =>
      have hw := h i t ⟨hacc, Policy.template_eq_some.1 ht⟩
      simp [hw]
    · rfl
  · rfl

/-- The first accepted template that wins is the winner (R9). -/
theorem Policy.winner_eq_some {p : Policy} {accepted : Set16} {x : List Byte} {i : Fin 16} {t : Template}
    (h : p.Accepts accepted i t) (hw : t.wins x = true)
    (hfirst : ∀ j u, j < i → p.Accepts accepted j u → u.wins x = false) : p.winner accepted x = some t := by
  obtain ⟨hacc, ht⟩ := h
  obtain ⟨before, after, hsplit⟩ := List.append_of_mem (List.mem_finRange i)
  have hsorted := List.pairwise_lt_finRange 16
  rw [hsplit, List.pairwise_append] at hsorted
  obtain ⟨-, -, hbefore⟩ := hsorted
  unfold Policy.winner
  rw [List.findSome?_eq_some_iff]
  refine ⟨before, i, after, hsplit, ?_, fun j hj => ?_⟩
  · simp [hacc, Policy.template_eq_some.2 ht, hw]
  · split
    · next haccj =>
      split
      · next u hu =>
        have hwu := hfirst j u (hbefore j hj i (List.mem_cons_self ..)) ⟨haccj, Policy.template_eq_some.1 hu⟩
        simp [hwu]
      · rfl
    · rfl

/-! ## The four stages (R7 to R13) -/

theorem decode_barcode_malformed {p : Policy} {prof : Profile} {x : List Byte}
    (h : x.length < 4 ∨ 48 < x.length ∨ ∃ b ∈ x, ¬IsLegal b) :
    decodePresentation p prof (.barcode x) = .failed .malformed := by
  refine if_pos (h.imp_right (Or.imp_right ?_))
  simp [← legalChar_iff]

/-- A payload of good length and characters goes to the winning template. -/
theorem decode_barcode_of_legal {p : Policy} {prof : Profile} {x : List Byte} (h4 : 4 ≤ x.length) (h48 : x.length ≤ 48)
    (hlegal : ∀ b ∈ x, IsLegal b) :
    decodePresentation p prof (.barcode x) =
      (p.winner prof.templates x).elim (.failed .noFormat) fun t => t.extract x := by
  have hall : x.all legalChar = true := List.all_eq_true.2 fun b hb => (legalChar_iff b).2 (hlegal b hb)
  have hgood : ¬(x.length < 4 ∨ 48 < x.length ∨ (!x.all legalChar) = true) := by simp [hall]; omega
  simp only [decodePresentation, if_neg hgood]
  cases p.winner prof.templates x <;> rfl

theorem decode_barcode_noFormat {p : Policy} {prof : Profile} {x : List Byte} (h4 : 4 ≤ x.length) (h48 : x.length ≤ 48)
    (hlegal : ∀ b ∈ x, IsLegal b) (hnone : ∀ i t, p.Accepts prof.templates i t → t.wins x = false) :
    decodePresentation p prof (.barcode x) = .failed .noFormat := by
  rw [decode_barcode_of_legal h4 h48 hlegal, Policy.winner_eq_none hnone]
  rfl

/-- The first accepted template that wins decides what a good payload decodes to (R9, R10). -/
theorem decode_barcode_of_first {p : Policy} {prof : Profile} {x : List Byte} (h4 : 4 ≤ x.length) (h48 : x.length ≤ 48)
    (hlegal : ∀ b ∈ x, IsLegal b) {i : Fin 16} {t : Template} (h : p.Accepts prof.templates i t) (hw : t.wins x = true)
    (hfirst : ∀ j u, j < i → p.Accepts prof.templates j u → u.wins x = false) :
    decodePresentation p prof (.barcode x) = t.extract x := by
  rw [decode_barcode_of_legal h4 h48 hlegal, Policy.winner_eq_some h hw hfirst]
  rfl

theorem decode_card_malformed {p : Policy} {prof : Profile} {uid : List Byte} (h4 : uid.length ≠ 4) (h7 : uid.length ≠ 7)
    (h10 : uid.length ≠ 10) : decodePresentation p prof (.card uid) = .failed .malformed :=
  if_pos ⟨h4, h7, h10⟩

theorem decode_card_of_length {p : Policy} {prof : Profile} {uid : List Byte}
    (h : uid.length = 4 ∨ uid.length = 7 ∨ uid.length = 10) :
    decodePresentation p prof (.card uid) = if prof.cards then .decoded ⟨.card, ofBytes uid⟩ none else .failed .noFormat :=
  if_neg (by omega)

/-! ## Buckets and probe sequences (R14 to R16) -/

theorem bucketOf_barcode (B v : Nat) : bucketOf B ⟨.barcode, v⟩ = v % 65521 % B := rfl

theorem bucketOf_card (B v : Nat) : bucketOf B ⟨.card, v⟩ = (v % 65521 + 29959) % 65521 % B := rfl

theorem bucketOf_lt {B : Nat} (h : 0 < B) (k : Key) : bucketOf B k < B := Nat.mod_lt _ h

/-- One value reaches different buckets as a Card key and as a Barcode key (R14). -/
theorem bucketOf_card_ne_barcode {B : Nat} (h : B ∈ Config.bucketCounts) (v : Nat) :
    bucketOf B ⟨.card, v⟩ ≠ bucketOf B ⟨.barcode, v⟩ := by
  rw [bucketOf_card, bucketOf_barcode]
  have hv := Nat.mod_lt v (by decide : 65521 > 0)
  simp only [Config.bucketCounts, List.mem_cons, List.not_mem_nil, or_false] at h
  rcases h with rfl | rfl | rfl | rfl | rfl | rfl <;> omega

theorem probeBuckets_length (B P : Nat) (k : Key) : (probeBuckets B P k).length = P := by simp [probeBuckets]

theorem probeBuckets_getElem {B P : Nat} {k : Key} {i : Nat} (h : i < (probeBuckets B P k).length) :
    (probeBuckets B P k)[i] = (bucketOf B k + i) % B := by simp [probeBuckets]

/-- At most B buckets in a row, modulo B, are different (R15). -/
theorem probeBuckets_nodup {B P : Nat} (h : P ≤ B) (k : Key) : (probeBuckets B P k).Nodup := by
  refine List.Nodup.map_on (fun i hi j hj e => ?_) List.nodup_range
  rw [List.mem_range] at hi hj
  have hmod : i ≡ j [MOD B] := Nat.ModEq.add_left_cancel' _ e
  exact hmod.eq_of_lt_of_lt (hi.trans_le h) (hj.trans_le h)

theorem mem_bucketSlots (n b : Nat) : n ∈ bucketSlots b ↔ n / 4 = b := by
  simp only [bucketSlots, List.mem_cons, List.not_mem_nil, or_false]
  omega

/-- The slots of a list of buckets, by position: four of each bucket in turn. -/
theorem flatMap_bucketSlots_getElem? (bs : List Nat) (i : Nat) :
    (bs.flatMap bucketSlots)[i]? = bs[i / 4]?.map fun b => 4 * b + i % 4 := by
  induction bs generalizing i with
  | nil => simp
  | cons b bs ih =>
    by_cases h : i < 4
    · have : i = 0 ∨ i = 1 ∨ i = 2 ∨ i = 3 := by omega
      rcases this with rfl | rfl | rfl | rfl <;> rfl
    · obtain ⟨j, rfl⟩ : ∃ j, i = j + 4 := ⟨i - 4, by omega⟩
      have hj : (j + 4) / 4 = j / 4 + 1 := by omega
      rw [List.flatMap_cons, List.getElem?_append_right (by simp [bucketSlots])]
      simp [hj, bucketSlots, ih]

namespace Table

variable {t : Table} {k : Key}

theorem mem_probeSlots (n : Nat) : n ∈ t.probeSlots k ↔ n / 4 ∈ probeBuckets t.buckets t.probe k := by
  simp [Table.probeSlots, List.mem_flatMap, mem_bucketSlots]

theorem probeSlots_length : (t.probeSlots k).length = 4 * t.probe := by
  have h (b : Nat) : (bucketSlots b).length = 4 := rfl
  simp [Table.probeSlots, List.length_flatMap, h, probeBuckets_length, Nat.mul_comm]

theorem probeSlots_getElem {i : Nat} (h : i < (t.probeSlots k).length) :
    (t.probeSlots k)[i] = 4 * ((bucketOf t.buckets k + i / 4) % t.buckets) + i % 4 := by
  have hi : i / 4 < (probeBuckets t.buckets t.probe k).length := by
    rw [probeSlots_length] at h
    rw [probeBuckets_length]
    omega
  have hget := flatMap_bucketSlots_getElem? (probeBuckets t.buckets t.probe k) i
  rw [List.getElem?_eq_getElem hi, probeBuckets_getElem hi] at hget
  exact (List.getElem_eq_iff h).2 hget

/-- Different buckets have different slots. -/
theorem probeSlots_nodup (h : t.probe ≤ t.buckets) : (t.probeSlots k).Nodup := by
  refine List.nodup_flatMap.2 ⟨fun b _ => ?_, (probeBuckets_nodup h k).imp fun hne n hn hm => hne ?_⟩
  · simp [bucketSlots]
  · rw [mem_bucketSlots] at hn hm
    exact hn.symm.trans hm

/-! ## Lookup (R21) -/

theorem lookup_sweeping (h : t.sweeping = true) : t.lookup k = none := if_pos h

/-- A lookup finds nothing exactly where no slot of the probe sequence holds the key. -/
theorem lookup_eq_none_iff (h : t.sweeping = false) :
    t.lookup k = none ↔ ∀ n ∈ t.probeSlots k, ∀ r, t.slotAt n = some r → r.key ≠ k := by
  unfold Table.lookup
  rw [if_neg (by simp [h]), List.findSome?_eq_none_iff]
  refine forall₂_congr fun n _ => ?_
  cases t.slotAt n <;> simp

/-- In a well-formed table a lookup finds the record of the key, which stands in one slot alone (R16, R21). -/
theorem lookup_of_mem (h : t.sweeping = false) (hwf : t.wf) {n : Nat} {r : Record} (hr : (n, r) ∈ t.slots) (hk : r.key = k) :
    t.lookup k = some (n, r) := by
  obtain ⟨hsorted, hplace, hkeys⟩ := hwf
  have hslot := (Table.slotAt_eq_some_iff hsorted n r).2 hr
  have hprobe := (hplace _ hr).2
  rw [hk] at hprobe
  cases hfound : t.lookup k with
  | none => exact absurd hk ((lookup_eq_none_iff h).1 hfound n hprobe r hslot)
  | some x =>
    obtain ⟨m, q⟩ := x
    obtain ⟨hslot', hk', -, -⟩ := Table.lookup_some hfound
    rw [hkeys _ ((Table.slotAt_eq_some_iff hsorted m q).1 hslot') _ hr (hk'.trans hk.symm)]

end Table

/-- Settles O14: the decoder by its stages, the bucket index, the lookup, and the probe sequence by position. -/
theorem bucketsAndProbeSequence : Obligations.BucketsAndProbeSequence := by
  refine ⟨fun p prof => ⟨rfl, fun uid => ⟨decode_card_malformed, fun hlen => ⟨fun hc => ?_, fun hc => ?_⟩⟩, fun x =>
    ⟨decode_barcode_malformed, fun h4 h48 hlegal => ?_⟩⟩, fun B v hB => ?_, fun s k => ?_, fun t k hB hP => ?_⟩
  · simp [decode_card_of_length hlen, hc]
  · simp [decode_card_of_length hlen, hc, ofBytes]
  · refine ⟨fun hnone => decode_barcode_noFormat h4 h48 hlegal fun i t hi => Bool.eq_false_iff.2 fun hw =>
      hnone i t hi ((t.wins_iff x).1 hw), fun i t hacc hw hfirst => ?_⟩
    have hx := decode_barcode_of_first h4 h48 hlegal hacc ((t.wins_iff x).2 hw) fun j u hj hu =>
      Bool.eq_false_iff.2 fun hwu => hfirst j u hj hu ((u.wins_iff x).1 hwu)
    refine ⟨fun hbad => hx.trans (Template.extract_eq_malformed hbad), fun hfit hc hne => ?_, fun hfit hok => ?_⟩
    · rw [hx, Template.extract_of_fits hfit, ofDigits_map, checkValue_map]
      exact if_pos ⟨hc, hne⟩
    · rw [hx, Template.extract_of_fits hfit, ofDigits_map, checkValue_map, ofDigits_map, ofDigits_map]
      exact if_neg fun ⟨hc, hne⟩ => hok.elim hc hne
  · have hpos : 0 < B := Nat.pos_of_ne_zero fun h0 => by simp [h0] at hB
    exact ⟨bucketOf_barcode B v, bucketOf_card B v, bucketOf_lt hpos _, bucketOf_lt hpos _, bucketOf_card_ne_barcode hB v⟩
  · refine ⟨Table.lookup_sweeping, fun hs => ⟨Table.lookup_eq_none_iff hs, fun n r hf => ?_, fun hwf n r hr hk =>
      Table.lookup_of_mem hs hwf hr hk⟩⟩
    obtain ⟨hslot, hk, hprobe, -⟩ := Table.lookup_some hf
    exact ⟨hprobe, hslot, hk⟩
  · have hle : t.probe ≤ t.buckets := by
      simp only [List.mem_cons, List.not_mem_nil, or_false] at hB
      omega
    exact ⟨probeBuckets_length _ _ k, probeBuckets_nodup hle k, fun _ => probeBuckets_getElem, Table.probeSlots_length,
      Table.probeSlots_nodup hle, fun _ => Table.probeSlots_getElem, Table.mem_probeSlots⟩

end Sys2Proof.Machine
end

section
/-! SUPPORT. An adoption at one lane (R77, R78): what it leaves as it was, what it depends on, and what a pass over all lanes
comes to at each of them. -/

namespace Sys2Proof.Machine
namespace State

/-! ## What an adoption leaves as it was -/

/-- From `s` to `t` only the lanes and the slots of the lane link may have changed, and the state of no slot's link. -/
structure LanesOnly (s t : State) : Prop where
  frame : t = { s with lanes := t.lanes, link := { s.link with slots := t.link.slots } }
  links : ∀ l, (t.slot l).link = (s.slot l).link

namespace LanesOnly

variable {s t u : State}

theorem refl (s : State) : LanesOnly s s := ⟨rfl, fun _ => rfl⟩

theorem trans (h : LanesOnly s t) (g : LanesOnly t u) : LanesOnly s u where
  frame := by rw [g.frame, h.frame]
  links l := (g.links l).trans (h.links l)

theorem policy (h : LanesOnly s t) : t.policy = s.policy := by rw [h.frame]

theorem pairs (h : LanesOnly s t) : t.pairs = s.pairs := by rw [h.frame]

theorem bcm (h : LanesOnly s t) : t.bcm = s.bcm := by rw [h.frame]

theorem evu (h : LanesOnly s t) : t.evu = s.evu := by rw [h.frame]

theorem modLane (s : State) (l : LaneNo) (f : Lane → Lane) : LanesOnly s (s.modLane l f) := ⟨rfl, fun _ => rfl⟩

theorem endVerdict (s : State) (l : LaneNo) : LanesOnly s (s.endVerdict l) where
  frame := by rw [State.endVerdict_eq]
  links k := by
    rw [State.slot_endVerdict, apply_ite Slot.link, Slot.endVerdict, apply_ite Slot.link, ite_self, ite_self]

theorem queueLamp (s : State) (l : LaneNo) (d : Display) : LanesOnly s (s.queueLamp l d) where
  frame := by rw [State.queueLamp_eq]
  links k := by rw [State.slot_queueLamp, apply_ite Slot.link, Slot.queueLamp, ite_self]

theorem adopt (s : State) (l : LaneNo) : LanesOnly s (s.adopt l) := modLane s l _

theorem enterIdle (s : State) (l : LaneNo) : LanesOnly s (s.enterIdle l) :=
  ((modLane s l _).trans (endVerdict _ l)).trans (queueLamp _ l _)

theorem enterClosed (s : State) (l : LaneNo) : LanesOnly s (s.enterClosed l) :=
  ((modLane s l _).trans (endVerdict _ l)).trans (queueLamp _ l _)

theorem rest (s : State) (l : LaneNo) : LanesOnly s (s.rest l) :=
  (adopt s l).trans (iteInduction (fun _ => enterIdle _ l) fun _ => enterClosed _ l)

theorem tryIdle (s : State) (l : LaneNo) : LanesOnly s (s.tryIdle l) :=
  iteInduction (fun _ => (adopt s l).trans (iteInduction (fun _ => enterIdle _ l) fun _ => refl _)) fun _ => refl s

theorem foldl {α : Type} {f : α → State → State} (hf : ∀ a s, LanesOnly s (f a s)) (ls : List α) (s : State) :
    LanesOnly s (ls.foldl (fun t a => f a t) s) := by
  induction ls generalizing s with
  | nil => exact refl s
  | cons a ls ih => exact (hf a s).trans (ih (f a s))

end LanesOnly

/-- Another lane is as it was where a lane comes to rest. -/
theorem lane_rest_of_ne {s : State} {k l : LaneNo} (h : l ≠ k) : (s.rest k).lane l = s.lane l := by
  rw [State.lane_rest, if_neg h]

/-- A CLOSED lane that adopts is IDLE or CLOSED with what waits in force, and every other lane is as it was. -/
theorem lane_tryIdle (s : State) (k l : LaneNo) :
    (s.tryIdle k).lane l =
      if l = k ∧ (s.lane k).state = .closed then
        (if (s.adopt k).mayIdle k then Lane.cleared .idle (Lane.adopted s.policy (s.lane k))
          else Lane.adopted s.policy (s.lane k))
      else s.lane l := by
  unfold State.tryIdle
  by_cases hc : (s.lane k).state = .closed <;> by_cases hi : (s.adopt k).mayIdle k = true <;> by_cases he : l = k <;>
    simp [hc, hi, he]

theorem lane_tryIdle_of_ne {s : State} {k l : LaneNo} (h : l ≠ k) : (s.tryIdle k).lane l = s.lane l := by
  rw [lane_tryIdle, if_neg fun g => h g.1]

/-! ## What an adoption depends on -/

/-- Lane `l` finds in `t` what it finds in `s`: itself, the store, the pairs, the state of its slot's link, and whether the bank is
OPEN. -/
structure AlikeAt (l : LaneNo) (s t : State) : Prop where
  lane : t.lane l = s.lane l
  policy : t.policy = s.policy
  pairs : t.pairs = s.pairs
  link : (t.slot l).link = (s.slot l).link
  opened : t.bcm.mode = .opened ↔ s.bcm.mode = .opened

namespace AlikeAt

variable {l : LaneNo} {s t u : State}

theorem of_lanesOnly (h : LanesOnly s t) (hl : t.lane l = s.lane l) : AlikeAt l s t :=
  ⟨hl, h.policy, h.pairs, h.links l, by rw [h.bcm]⟩

theorem mayIdle_adopt (h : AlikeAt l s t) : (t.adopt l).mayIdle l = (s.adopt l).mayIdle l := by
  have hlane : (t.adopt l).lane l = (s.adopt l).lane l := by simp [h.lane, h.policy]
  have hcombined : (t.adopt l).combined l = (s.adopt l).combined l := by simp [State.combined, h.pairs]
  have hopened : decide (t.bcm.mode = .opened) = decide (s.bcm.mode = .opened) := decide_eq_decide.2 h.opened
  rw [State.mayIdle, State.mayIdle, hlane, hcombined, State.slot_adopt, State.slot_adopt, h.link]
  exact congrArg (_ && ·) hopened

theorem rest (h : AlikeAt l s t) : (t.rest l).lane l = (s.rest l).lane l := by
  simp only [State.lane_rest, h.mayIdle_adopt, h.policy, h.lane]

theorem tryIdle (h : AlikeAt l s t) : (t.tryIdle l).lane l = (s.tryIdle l).lane l := by
  simp only [lane_tryIdle, h.mayIdle_adopt, h.policy, h.lane]

end AlikeAt

/-! ## A pass over the lanes -/

/-- What happens at lane `k` stays in that lane and its slots, and depends on what `AlikeAt` names. -/
structure LaneLocal (f : LaneNo → State → State) : Prop where
  lanesOnly : ∀ k s, LanesOnly s (f k s)
  others : ∀ k l s, l ≠ k → (f k s).lane l = s.lane l
  alike : ∀ l s t, AlikeAt l s t → (f l t).lane l = (f l s).lane l

namespace LaneLocal

variable {f : LaneNo → State → State}

theorem lane_foldl_of_notMem (hf : LaneLocal f) {l : LaneNo} {ls : List LaneNo} (hl : l ∉ ls) (s : State) :
    (ls.foldl (fun t k => f k t) s).lane l = s.lane l := by
  induction ls generalizing s with
  | nil => rfl
  | cons k ls ih =>
    obtain ⟨hne, hls⟩ : l ≠ k ∧ l ∉ ls := by rwa [List.mem_cons, not_or] at hl
    exact (ih hls (f k s)).trans (hf.others k l s hne)

theorem lane_foldl_of_mem (hf : LaneLocal f) {l : LaneNo} {ls : List LaneNo} (hd : ls.Nodup) (hl : l ∈ ls) (s : State) :
    (ls.foldl (fun t k => f k t) s).lane l = (f l s).lane l := by
  induction ls generalizing s with
  | nil => cases hl
  | cons k ls ih =>
    obtain ⟨hk, hd⟩ := List.nodup_cons.1 hd
    by_cases he : l = k
    · subst he
      exact hf.lane_foldl_of_notMem hk (f l s)
    · have hls : l ∈ ls := (List.mem_cons.1 hl).resolve_left he
      exact (ih hd hls (f k s)).trans (hf.alike l _ _ (.of_lanesOnly (hf.lanesOnly k s) (hf.others k l s he)))

/-- Each lane comes out of the pass as though it alone had been visited. -/
theorem lane_eachLane (hf : LaneLocal f) (s : State) (l : LaneNo) : (s.eachLane f).lane l = (f l s).lane l :=
  hf.lane_foldl_of_mem (List.nodup_finRange 16) (List.mem_finRange l) s

theorem lanesOnly_eachLane (hf : LaneLocal f) (s : State) : LanesOnly s (s.eachLane f) := .foldl hf.lanesOnly allLanes s

end LaneLocal

/-! ## The passes of Set Profile Count and Write Profile (R5, R76, R77) -/

theorem readopt_of_closed {s : State} {l : LaneNo} (h : (s.lane l).state = .closed) : s.readopt l = s.tryIdle l := by
  unfold State.readopt
  rw [h]

theorem readopt_of_idle {s : State} {l : LaneNo} (h : (s.lane l).state = .idle) : s.readopt l = s.rest l := by
  unfold State.readopt
  rw [h]

theorem readopt_of_busy {s : State} {l : LaneNo} (hc : (s.lane l).state ≠ .closed) (hi : (s.lane l).state ≠ .idle) :
    s.readopt l = s := by
  unfold State.readopt
  split
  · next h => exact absurd h hc
  · next h => exact absurd h hi
  · rfl

theorem laneLocal_readopt : LaneLocal fun l s => s.readopt l where
  lanesOnly k s := by
    unfold State.readopt
    split
    · exact .tryIdle s k
    · exact .rest s k
    · exact .refl s
  others k l s hne := by
    unfold State.readopt
    split
    · exact lane_tryIdle_of_ne hne
    · exact lane_rest_of_ne hne
    · rfl
  alike l s t h := by
    unfold State.readopt
    rw [h.lane]
    split
    · exact h.tryIdle
    · exact h.rest
    · exact h.lane

theorem laneLocal_writtenProfile (p : Fin 8) : LaneLocal (State.writtenProfile p) where
  lanesOnly k s := iteInduction (fun _ => laneLocal_readopt.lanesOnly k s) fun _ => .refl s
  others k l s hne := by
    unfold State.writtenProfile
    split
    · exact laneLocal_readopt.others k l s hne
    · rfl
  alike l s t h := by
    unfold State.writtenProfile
    rw [h.lane]
    split
    · exact laneLocal_readopt.alike l s t h
    · exact h.lane

theorem laneLocal_recountLane : LaneLocal State.recountLane where
  lanesOnly k s := by
    unfold State.recountLane
    split
    · exact .tryIdle s k
    · exact iteInduction (fun _ => .rest s k) fun _ => .refl s
    · exact .refl s
  others k l s hne := by
    unfold State.recountLane
    split
    · exact lane_tryIdle_of_ne hne
    · split
      · exact lane_rest_of_ne hne
      · rfl
    · rfl
  alike l s t h := by
    unfold State.recountLane
    rw [h.lane, h.policy]
    split
    · exact h.tryIdle
    · split
      · exact h.rest
      · exact h.lane
    · exact h.lane

end State
end Sys2Proof.Machine
end

section
/-! SUPPORT. What follows a change of lane states (`State.settle`, R88, R157) leaves the Policy Store as it is and clears no error
flag, whatever operations end on the way. -/

namespace Sys2Proof.Machine
namespace State

/-- From `s` to `t` the Policy Store is as it was and no error flag is cleared. -/
structure Retains (s t : State) : Prop where
  policy : t.policy = s.policy
  detected : ∀ k, (s.evu.errors.get k).detected = true → (t.evu.errors.get k).detected = true

namespace Retains

variable {s t : State}

theorem refl (s : State) : Retains s s := ⟨rfl, fun _ h => h⟩

theorem of_errors (h : Retains s t) {u : State} (hp : u.policy = t.policy) (he : u.evu.errors = t.evu.errors) :
    Retains s u :=
  ⟨hp.trans h.policy, fun k hk => by rw [he]; exact h.detected k hk⟩

theorem of_evu (h : Retains s t) {u : State} (hp : u.policy = t.policy := by simp) (he : u.evu = t.evu := by simp) :
    Retains s u := h.of_errors hp (congrArg Evu.errors he)

theorem ite {c : Prop} [Decidable c] {a b : State} (ha : Retains s a) (hb : Retains s b) : Retains s (if c then a else b) :=
  iteInduction (fun _ => ha) fun _ => hb

theorem foldl {α : Type} {f : State → α → State} (h : Retains s t) (hf : ∀ u a, Retains s u → Retains s (f u a))
    (l : List α) : Retains s (l.foldl f t) := by
  induction l generalizing t with
  | nil => exact h
  | cons a l ih => exact ih (hf t a h)

theorem eachLane {f : LaneNo → State → State} (h : Retains s t) (hf : ∀ l u, Retains s u → Retains s (f l u)) :
    Retains s (t.eachLane f) := h.foldl (fun u l hu => hf l u hu) allLanes

theorem lanesOnly (h : Retains s t) {u : State} (hu : LanesOnly t u) : Retains s u := h.of_evu hu.policy hu.evu

theorem modLog (h : Retains s t) (f : Log → Log) : Retains s (t.modLog f) := h.of_evu rfl rfl

theorem modLink (h : Retains s t) (f : Link → Link) : Retains s (t.modLink f) := h.of_evu rfl rfl

theorem modSlot (h : Retains s t) (l : LaneNo) (f : Slot → Slot) : Retains s (t.modSlot l f) := h.of_evu rfl rfl

theorem modBcm (h : Retains s t) (f : Bcm → Bcm) : Retains s (t.modBcm f) := h.of_evu rfl rfl

theorem setMode (h : Retains s t) (m : BankMode) : Retains s (t.setMode m) := h.of_evu

theorem flagging {f : State → State} (h : Retains s (f t)) : Retains s (t.flagging f) := by
  rw [State.flagging, State.noteFlags_eq]
  exact h.of_evu rfl rfl

/-! ## Events and errors -/

theorem offer (h : Retains s t) (c : Fin 24) : Retains s (t.offer c) := ite (h.of_errors rfl rfl) h

theorem raiseQuiet (h : Retains s t) (c : Cause) (d : Option Nat) : Retains s (t.raiseQuiet c d) :=
  have hr : Retains s (t.modEvu fun e => { e with causes := upd e.causes (causeIndex c) (CauseEntry.raised d) }) :=
    h.of_errors rfl rfl
  ite hr (hr.offer _)

theorem raise (h : Retains s t) (c : Cause) (d : Option Nat) : Retains s (t.raise c d) :=
  have hq := h.raiseQuiet c d
  have hs : Retains s ((t.raiseQuiet c d).setMode .service).startLink := (hq.setMode .service).of_evu
  ite ((hs.raiseQuiet .wake none).raiseQuiet .modeChange none) hq

theorem capture (h : Retains s t) (k : ErrorKind) (l : Option LaneNo) : Retains s (t.capture k l) :=
  h.of_errors (by simp) (by simp only [State.capture, State.modEvu_evu]; split <;> rfl)

theorem logHeader (h : Retains s t) (k : ErrorKind) (bs : List Byte) : Retains s (t.logHeader k bs) :=
  h.of_errors (by simp) (by simp only [State.logHeader, State.modEvu_evu]; split <;> rfl)

/-- What an error does after its entry is counted clears no flag. -/
theorem of_occurred (k : ErrorKind) (l : Option LaneNo) (bs : List Byte)
    (h : Retains s (t.modEvu fun e => { e with errors := upd e.errors (errorIndex k) ErrorEntry.occurred })) :
    Retains s (t.errorOccurs k l bs) :=
  have h2 := ite (c := (t.evu.errors.get (errorIndex k)).masked) h (h.raise k.cause (some (errorIndex k).val))
  have h3 := ite (c := k.serious && !(t.evu.errors.get (errorIndex k)).masked) (h2.capture k l) h2
  ite (h3.logHeader k bs) h3

theorem errorOccurs (h : Retains s t) (k : ErrorKind) (l : Option LaneNo) (bs : List Byte) :
    Retains s (t.errorOccurs k l bs) := by
  refine of_occurred k l bs ⟨h.policy, fun j hj => ?_⟩
  rw [State.modEvu_evu, get_upd]
  split
  · rfl
  · exact h.detected j hj

/-! ## The end of an operation -/

theorem reportLevel (h : Retains s t) (n : Nat) : Retains s (t.reportLevel n) := ite (h.raise _ _) (ite (h.raise _ _) h)

theorem writeLog (h : Retains s t) (a : Admission) : Retains s (t.writeLog a) := by
  unfold State.writeLog
  refine ite (((h.modLog _).flagging.reportLevel _).modLog _) ?_
  split
  · exact (h.modLog _).errorOccurs _ _ _
  · exact ((h.modLog _).errorOccurs _ _ _).modLog _

theorem release (h : Retains s t) (l : LaneNo) : Retains s (t.release l) := h.of_evu

theorem offerPeer (h : Retains s t) (f : TxFrame) : Retains s (t.offerPeer f) := ite (h.of_evu) (h.errorOccurs _ _ _)

theorem revertHeld (h : Retains s t) (l : LaneNo) (k : Key) : Retains s (t.revertHeld l k) := by
  unfold State.revertHeld
  split
  · exact ite (h.of_evu) h
  · exact h

theorem withdrawRemote (h : Retains s t) (l : LaneNo) (k : Key) (res : DecisionResult) :
    Retains s (t.withdrawRemote l k res) := by
  unfold State.withdrawRemote
  refine ite ?_ h
  split
  · exact h.offerPeer _
  · exact h

theorem endWithout (h : Retains s t) (l : LaneNo) (o : Outcome) : Retains s (t.endWithout l o) := by
  unfold State.endWithout
  split
  · exact (((ite (h.revertHeld l _) h).release l).writeLog _).withdrawRemote l _ _
  · exact h.release l

theorem abortQuery (h : Retains s t) (l : LaneNo) : Retains s (t.abortQuery l) := by
  unfold State.abortQuery
  split
  · exact h.of_evu
  · exact h

theorem abortOperation (h : Retains s t) (l : LaneNo) (o : Outcome) : Retains s (t.abortOperation l o) := by
  unfold State.abortOperation
  split
  · exact ite h (h.endWithout l o)
  · exact (h.abortQuery l).release l
  · exact h

theorem abortLane (h : Retains s t) (l : LaneNo) (o : Outcome) : Retains s (t.abortLane l o) :=
  have ha := (h.abortOperation l o).lanesOnly (.modLane _ l fun n => { n with mate := none })
  ite ha (ha.lanesOnly (.enterClosed _ l))

theorem loseLane (h : Retains s t) (l : LaneNo) : Retains s (t.loseLane l) :=
  have ha := (h.lanesOnly (.modLane t l Lane.unconfirmed)).abortLane l .laneLost
  ite (ha.errorOccurs _ _ _) ha

/-! ## The stop of the lane link and the change of mode -/

theorem endTest (h : Retains s t) : Retains s t.endTest := by
  unfold State.endTest
  split
  · exact (h.modLink _).raise _ _
  · exact h

theorem failAnyAccess (h : Retains s t) : Retains s t.failAnyAccess := by
  unfold State.failAnyAccess
  split
  · next x a _ =>
    exact ((h.modSlot a.lane fun k => { k with parameterDue := false }).raise .laneAccessDone (some a.lane.val)).of_evu
      (u := t.endAccess x a.lane none) (by simp [State.endAccess]) (by simp [State.endAccess])
  · exact h

theorem stopLane (h : Retains s t) (l : LaneNo) : Retains s (t.stopLane l) := ite ((h.raise _ _).loseLane l) h

theorem haltLink (h : Retains s t) : Retains s t.haltLink := by
  have hu : Retains s (t.eachLane State.stopLane) := h.eachLane fun l _ hu => hu.stopLane l
  simp only [State.haltLink]
  generalize t.eachLane State.stopLane = u at hu
  exact failAnyAccess (hu.of_evu rfl rfl)

theorem setEntering (h : Retains s t) (b : Bool) : Retains s (t.setEntering b) := h.modBcm _

theorem closeLane (h : Retains s t) (l : LaneNo) : Retains s (t.closeLane l) := h.of_evu

theorem sinkDeep (h : Retains s t) : Retains s t.sinkDeep := h.of_evu rfl rfl

theorem enterDormant (h : Retains s t) (m : RestMode) : Retains s (t.enterDormant m) := by
  have hu := (((h.setEntering true).setMode m.mode).eachLane fun l _ hu => hu.closeLane l).endTest
  simp only [State.enterDormant]
  generalize State.endTest _ = u at hu ⊢
  have hw := (ite (c := u.link.running) (ite (c := u.link.awaiting) (hu.modLink fun k => { k with stopping := true })
    hu.haltLink) hu).raise .modeChange none
  exact (ite hw.sinkDeep hw).setEntering false

theorem settleClosing (h : Retains s t) : Retains s t.settleClosing :=
  ite (ite (((h.modBcm _).setMode _).raise _ _) ((h.modBcm _).enterDormant _)) h

end Retains

/-! ## After a change of lane states (R88, R157) -/

@[simp] theorem settlePair_frame (s : State) (k : Fin 8) :
    (s.settlePair k).policy = s.policy ∧ (s.settlePair k).evu = s.evu ∧ (s.settlePair k).bcm = s.bcm := by
  simp only [State.settlePair, State.readoptIdle]
  (repeat' split) <;> simp

theorem foldl_settlePair_frame (ks : List (Fin 8)) (s : State) :
    (ks.foldl (fun t k => t.settlePair k) s).policy = s.policy ∧ (ks.foldl (fun t k => t.settlePair k) s).evu = s.evu ∧
      (ks.foldl (fun t k => t.settlePair k) s).bcm = s.bcm := by
  induction ks generalizing s with
  | nil => exact ⟨rfl, rfl, rfl⟩
  | cons k ks ih => simpa using ih (s.settlePair k)

theorem settlePairs_frame (s : State) :
    s.settlePairs.policy = s.policy ∧ s.settlePairs.evu = s.evu ∧ s.settlePairs.bcm = s.bcm :=
  foldl_settlePair_frame allPairs s

theorem retains_settle (s : State) : Retains s s.settle := by
  obtain ⟨hpolicy, hevu, -⟩ := s.settlePairs_frame
  exact ((Retains.refl s).of_evu hpolicy hevu).settleClosing

@[simp] theorem policy_settle (s : State) : s.settle.policy = s.policy := s.retains_settle.policy

/-- Events and errors are as they were unless CLOSING can end. -/
theorem evu_settle {s : State} (h : s.bcm.mode ≠ .closing) : s.settle.evu = s.evu := by
  obtain ⟨-, hevu, hbcm⟩ := s.settlePairs_frame
  rw [State.settle, State.settleClosing, if_neg fun g => h (by rw [← hbcm]; exact g.1), hevu]

end State
end Sys2Proof.Machine
end

section
/-! SUPPORT. The requests about the Policy Store and the lanes' choices (R3, R5, R76, R193): their fields read from the bytes, and
what each branch of a request answers and changes. -/

namespace Sys2Proof.Machine

/-! ## Fields (R193) -/

theorem Reader.profile_be (f : ProfileFields) (extra : List Byte) (hindex : f.index < 256) (hdirection : f.direction < 256)
    (hzones : f.zones < 65536) (htemplates : f.templates < 65536) (hcards : f.cards < 256) (hwindow : f.window < 65536)
    (hdisplay : f.display < 256) (hcooldown : f.cooldown < 65536) (hrefer : f.refer < 2 ^ 24) (hoffline : f.offline < 256) :
    Reader.profile (be 1 f.index ++ be 1 f.direction ++ be 2 f.zones ++ be 2 f.templates ++ be 1 f.cards ++ be 2 f.window ++
      be 1 f.display ++ be 2 f.cooldown ++ be 3 f.refer ++ be 1 f.offline ++ extra) = some (f, extra) := by
  simp (disch := omega) only [Reader.profile, Reader.bind_apply, List.append_assoc, Reader.nat_be, Reader.pure_apply]

theorem Reader.text_be (bs rest : List Byte) (h : bs.length < 256) :
    Reader.text (be 1 bs.length ++ (bs ++ rest)) = some (bs, rest) := by
  simp (disch := omega) only [Reader.text, Reader.bind_apply, Reader.nat_be, Reader.bytes_append]

theorem Reader.contents_be (f : TemplateFields) (extra : List Byte) (hlenMin : f.lenMin < 256) (hlenMax : f.lenMax < 256)
    (hmarker : f.marker.length < 256) (hmarkerAt : f.markerAt < 256) (heventAt : f.eventAt < 256) (heventLen : f.eventLen < 256)
    (hserialAt : f.serialAt < 256) (hserialLen : f.serialLen < 256) (hcheckAt : f.checkAt < 256) (hcheckLen : f.checkLen < 256) :
    Reader.contents (be 1 f.lenMin ++ be 1 f.lenMax ++ be 1 f.marker.length ++ f.marker ++ be 1 f.markerAt ++ be 1 f.eventAt ++
      be 1 f.eventLen ++ be 1 f.serialAt ++ be 1 f.serialLen ++ be 1 f.checkAt ++ be 1 f.checkLen ++ extra) = some (f, extra) := by
  simp (disch := omega) only [Reader.contents, Reader.bind_apply, List.append_assoc, Reader.nat_be, Reader.text_be,
    Reader.pure_apply]

theorem Reader.template_unload (i load : Byte) (rest : List Byte) (h : load ≠ 1) :
    Reader.template (i :: load :: rest) = some (⟨i.toNat, load.toNat, none⟩, rest) := by
  have hload : load.toNat ≠ 1 := fun e => h (BitVec.eq_of_toNat_eq e)
  simp [Reader.template, Reader.bind_apply, Reader.nat_cons, Reader.pure_apply, hload]

theorem Reader.template_load (i : Byte) {fields extra : List Byte} {f : TemplateFields}
    (h : Reader.contents fields = some (f, extra)) :
    Reader.template (i :: 1 :: fields) = some (⟨i.toNat, 1, some f⟩, extra) := by
  simp [Reader.template, Reader.bind_apply, Reader.nat_cons, Reader.map_apply, h]

/-- The index of a template is read whatever the load byte is. -/
theorem Reader.template_index (i load : Byte) {fields extra : List Byte}
    (h : load = 1 → ∃ f, Reader.contents fields = some (f, extra)) :
    ∃ x rest, Reader.template (i :: load :: fields) = some (x, rest) ∧ x.index = i.toNat := by
  by_cases hload : load = 1
  · subst hload
    obtain ⟨f, hf⟩ := h rfl
    exact ⟨_, _, Reader.template_load i hf, rfl⟩
  · exact ⟨_, _, Reader.template_unload i load fields hload, rfl⟩

theorem Reader.choice_cons (a b : Byte) (rest : List Byte) :
    Reader.choice (a :: b :: rest) = some (⟨a.toNat, b.toNat⟩, rest) := by
  simp [Reader.choice, Reader.bind_apply, Reader.nat_cons, Reader.map_apply]

theorem toProfile_val (p : Fin 8) : toProfile p.val = some p := dif_pos p.isLt

theorem toProfile_eq_none {n : Nat} (h : 8 ≤ n) : toProfile n = none := dif_neg (Nat.not_lt.2 h)

theorem toLane_val (l : LaneNo) : toLane l.val = some l := dif_pos l.isLt

theorem toLane_eq_none {n : Nat} (h : 16 ≤ n) : toLane n = none := dif_neg (Nat.not_lt.2 h)

theorem laneDirectionOf_code (d : LaneDirection) : laneDirectionOf (laneDirectionCode d) = some d := by cases d <;> rfl

theorem laneDirectionOf_eq_none {n : Nat} (h : n = 0 ∨ 4 < n) : laneDirectionOf n = none := by
  unfold laneDirectionOf
  split <;> first | omega | rfl

theorem indicationOf_bit (b : Bool) : indicationOf (bit b) = some b := by cases b <;> rfl

theorem indicationOf_eq_none {n : Nat} (h : 1 < n) : indicationOf n = none := by
  unfold indicationOf
  split <;> first | omega | rfl

/-! ## Replies (R174) -/

/-- A reply carries the values applied where one of them was clamped. -/
theorem Reply.applied_eq {c : Bool} {whole : Prop} [Decidable whole] (h : c = true ↔ ¬whole) (values : List Byte) :
    Reply.applied c values = if whole then Reply.ok [] else { status := .clamped, cause := .none, contents := values } := by
  unfold Reply.applied
  by_cases hw : whole
  · rw [if_neg (by rw [h]; exact not_not_intro hw), if_pos hw]
  · rw [if_pos (h.2 hw), if_neg hw]

end Sys2Proof.Machine
end

section
/-! SUPPORT. Set Profile Count: the store recounted, and the lanes that meet the new count (R5, R77). -/

namespace Sys2Proof.Machine

theorem Policy.anyLoaded_iff (p : Policy) : p.anyLoaded = true ↔ ∃ i, (p.templates.get i).isSome = true := by
  simp only [Policy.anyLoaded, List.any_eq_true, Vector.mem_toList_iff, Vector.mem_iff_getElem]
  constructor
  · rintro ⟨_, ⟨i, hi, rfl⟩, h⟩
    exact ⟨⟨i, hi⟩, h⟩
  · rintro ⟨i, h⟩
    exact ⟨_, ⟨i.val, i.isLt, rfl⟩, h⟩

theorem Policy.anyLoaded_eq_false {p : Policy} (h : ∀ i, p.templates.get i = none) : p.anyLoaded = false :=
  Bool.eq_false_iff.2 fun g => by
    obtain ⟨i, hi⟩ := (Policy.anyLoaded_iff p).1 g
    rw [h i] at hi
    cases hi

namespace State

/-- A cause releases no mode but STANDBY, so it neither opens the bank nor leaves OPEN (R159). -/
theorem raise_opened (c : Cause) (d : Option Nat) (s : State) :
    (s.raise c d).bcm.mode = .opened ↔ s.bcm.mode = .opened := by
  unfold State.raise
  split
  · next h =>
    have hstandby : s.bcm.mode = .standby := by
      simp only [State.releasedBy, Bool.and_eq_true, decide_eq_true_eq] at h
      exact h.1.1.1
    simp [hstandby]
  · simp

theorem errorOccurs_opened (k : ErrorKind) (l : Option LaneNo) (bs : List Byte) (s : State) :
    (s.errorOccurs k l bs).bcm.mode = .opened ↔ s.bcm.mode = .opened := by
  simp only [State.errorOccurs]
  (repeat' split) <;> simp [raise_opened]

/-- An error's flag is set once it has occurred (R185). -/
theorem errorOccurs_detected (k : ErrorKind) (l : Option LaneNo) (bs : List Byte) (s : State) :
    ((s.errorOccurs k l bs).evu.errors.get (errorIndex k)).detected = true :=
  (Retains.of_occurred k l bs (.refl _)).detected _ (by simp [ErrorEntry.occurred])

/-! ## The store under a new count -/

/-- The bank with its store recounted, before a lane meets the new count: TEMPLATE_VOID has occurred where a template was Loaded
(R5). -/
def recounted (np : Nat) (s : State) : State :=
  if s.policy.anyLoaded then (s.modPolicy (Policy.recount np)).errorOccurs .templateVoid none []
  else s.modPolicy (Policy.recount np)

theorem policy_recounted (np : Nat) (s : State) : (s.recounted np).policy = s.policy.recount np := by
  unfold recounted
  split <;> simp

/-- A lane finds the recounted bank as it would find the bank with its store replaced alone. -/
theorem alikeAt_recounted (np : Nat) (s : State) (l : LaneNo) :
    AlikeAt l (s.modPolicy (Policy.recount np)) (s.recounted np) := by
  unfold recounted
  split
  · exact ⟨by simp [State.lane], by simp, by simp, by simp [State.slot], errorOccurs_opened ..⟩
  · exact ⟨rfl, rfl, rfl, rfl, Iff.rfl⟩

theorem detected_recounted {np : Nat} {s : State} (h : s.policy.anyLoaded = true) :
    ((s.recounted np).evu.errors.get 13).detected = true := by
  rw [recounted, if_pos h]
  exact errorOccurs_detected .templateVoid none [] _

theorem evu_recounted {np : Nat} {s : State} (h : s.policy.anyLoaded = false) : (s.recounted np).evu = s.evu := by
  simp [recounted, h]

theorem bcm_recounted {np : Nat} {s : State} (h : s.policy.anyLoaded = false) : (s.recounted np).bcm = s.bcm := by
  simp [recounted, h]

/-! ## The lanes -/

/-- The bank once every lane has met the new count. -/
def countMet (np : Nat) (s : State) : State := (s.recounted np).eachLane State.recountLane

theorem changeCount_eq (np : Nat) (s : State) : s.changeCount np = (s.countMet np).settle := rfl

theorem lanesOnly_countMet (np : Nat) (s : State) : LanesOnly (s.recounted np) (s.countMet np) :=
  laneLocal_recountLane.lanesOnly_eachLane _

theorem policy_countMet (np : Nat) (s : State) : (s.countMet np).policy = s.policy.recount np :=
  (lanesOnly_countMet np s).policy.trans (policy_recounted np s)

/-- A CLOSED lane adopts, an IDLE lane whose choice has no profile is closed, and no other lane changes (R77). -/
theorem lane_countMet (np : Nat) (s : State) (l : LaneNo) :
    (s.countMet np).lane l = ((s.modPolicy (Policy.recount np)).recountLane l).lane l :=
  (laneLocal_recountLane.lane_eachLane _ l).trans (laneLocal_recountLane.alike l _ _ (alikeAt_recounted np s l))

theorem lane_recountLane (l : LaneNo) (s : State) :
    (s.recountLane l).lane l = match (s.lane l).state with
      | .closed => (s.tryIdle l).lane l
      | .idle => if s.policy.np ≤ (s.lane l).choice.val then (s.rest l).lane l else s.lane l
      | _ => s.lane l := by
  unfold State.recountLane
  cases (s.lane l).state with
  | closed => rfl
  | idle => exact apply_ite (fun t : State => t.lane l) ..
  | querying | opened | refusing => rfl

theorem detected_changeCount {np : Nat} {s : State} (h : s.policy.anyLoaded = true) :
    ((s.changeCount np).evu.errors.get 13).detected = true := by
  rw [changeCount_eq]
  refine (retains_settle _).detected 13 ?_
  rw [(lanesOnly_countMet np s).evu]
  exact detected_recounted h

theorem evu_changeCount {np : Nat} {s : State} (h : s.policy.anyLoaded = false) (hm : s.bcm.mode ≠ .closing) :
    (s.changeCount np).evu = s.evu := by
  have hmet := lanesOnly_countMet np s
  calc (s.changeCount np).evu = (s.countMet np).settle.evu := by rw [changeCount_eq]
    _ = (s.countMet np).evu := evu_settle (by rwa [hmet.bcm, bcm_recounted h])
    _ = (s.recounted np).evu := hmet.evu
    _ = s.evu := evu_recounted h

theorem policy_changeCount (np : Nat) (s : State) : (s.changeCount np).policy = s.policy.recount np :=
  (policy_settle (s.countMet np)).trans (policy_countMet np s)

end State

theorem Policy.recount_templates (np : Nat) (p : Policy) (i : Fin 16) : (p.recount np).templates.get i = none := by
  simp [Policy.recount, Vector.get]

theorem Policy.recount_profiles (np : Nat) (p : Policy) (i : Fin 8) :
    (p.recount np).profiles.get i = if i.val < p.np ∧ i.val < np then p.profiles.get i else Profile.default := by
  simp only [← lt_min_iff]
  exact Vector.getElem_ofFn i.isLt

end Sys2Proof.Machine
end

section
/-! SUPPORT. Set Profile Count, Write Profile, Write Template and Set Lane Profile Choice: what each answers and changes
(R3, R5, R76, R77). -/

namespace Sys2Proof.Machine

variable {s : State} {r : Request} {extra fields : List Byte}

/-! ## Serving each request (R173 to R175) -/

theorem exec_setProfileCount {n : Byte} (h : s.asked r 15 (n :: extra)) (hm : s.bcm.mode ≠ .deep) :
    exec .setProfileCount s = .next (r.answered 15 (doSetProfileCount n.toNat s.beginRequest).2
      (doSetProfileCount n.toNat s.beginRequest).1) :=
  congrArg Host.Outcome.next (State.serve_asked h (Reader.nat_cons n extra) (Taken.active_holds hm))

theorem exec_writeProfile {f : ProfileFields} (h : s.asked r 16 fields) (hf : Reader.profile fields = some (f, extra))
    (hm : s.bcm.mode ≠ .deep) :
    exec .writeProfile s = .next (r.answered 16 (doWriteProfile f s.beginRequest).2 (doWriteProfile f s.beginRequest).1) :=
  congrArg Host.Outcome.next (State.serve_asked h hf (Taken.active_holds hm))

theorem exec_writeTemplate {x : TemplateRequest} (h : s.asked r 17 fields) (hf : Reader.template fields = some (x, extra))
    (hm : s.bcm.mode ≠ .deep) :
    exec .writeTemplate s = .next (r.answered 17 (doWriteTemplate x s.beginRequest).2 (doWriteTemplate x s.beginRequest).1) :=
  congrArg Host.Outcome.next (State.serve_asked h hf (Taken.active_holds hm))

theorem exec_setLaneProfileChoice {a b : Byte} (h : s.asked r 18 (a :: b :: extra)) (hm : s.bcm.mode ≠ .deep) :
    exec .setLaneProfileChoice s = .next (r.answered 18 (doSetLaneProfileChoice ⟨a.toNat, b.toNat⟩ s.beginRequest).2
      (doSetLaneProfileChoice ⟨a.toNat, b.toNat⟩ s.beginRequest).1) :=
  congrArg Host.Outcome.next (State.serve_asked h (Reader.choice_cons a b extra) (Taken.active_holds hm))

/-! ## Set Profile Count (R5) -/

theorem clamped_changed_iff {lo hi v : Nat} : (clamped lo hi v).changed = true ↔ clamp lo hi v ≠ v := decide_eq_true_iff

theorem doSetProfileCount_eq (n : Nat) (s : State) :
    doSetProfileCount n s = (if clamp 1 8 n = s.policy.np then s else s.changeCount (clamp 1 8 n),
      if clamp 1 8 n = n then Reply.ok [] else { status := .clamped, cause := .none, contents := [byte (clamp 1 8 n)] }) := by
  rw [doSetProfileCount, Reply.applied_eq clamped_changed_iff, be_one]
  rfl

/-! ## Write Profile (R75, R76) -/

theorem clamp_zero (hi v : Nat) : clamp 0 hi v = min hi v := by rw [clamp_eq 0 hi v (Nat.zero_le hi), Nat.zero_max]

/-- The contents written, each value at its limit (R76). -/
theorem ProfileFields.applied_eq (f : ProfileFields) (d : LaneDirection) (c : Bool) : f.applied d c = {
    direction := d, zones := BitVec.ofNat 16 f.zones, templates := BitVec.ofNat 16 f.templates, cards := c,
    passWindow := max 20 (min 300 f.window), display := max 5 (min 50 f.display), cooldown := min 600 f.cooldown,
    refer := BitVec.ofNat 17 f.refer, offline := BitVec.ofNat 4 f.offline } := by
  simp only [ProfileFields.applied, clamp_eq 20 300 f.window (by decide), clamp_eq 5 50 f.display (by decide), clamp_zero]

theorem ProfileFields.changed_iff (f : ProfileFields) (d : LaneDirection) (c : Bool) : f.changed = true ↔
    ¬((f.applied d c).passWindow = f.window ∧ (f.applied d c).display = f.display ∧ (f.applied d c).cooldown = f.cooldown) := by
  simp only [ProfileFields.changed, ProfileFields.applied, Bool.or_eq_true, clamped_changed_iff]
  tauto

theorem doWriteProfile_unknown {f : ProfileFields} (h : 8 ≤ f.index) (s : State) :
    doWriteProfile f s = (s, Reply.refuse .badValue) := by
  simp [doWriteProfile, toProfile_eq_none h]

theorem doWriteProfile_noRoom {f : ProfileFields} {p : Fin 8} (hp : f.index = p.val) (h : s.policy.np ≤ p.val) :
    doWriteProfile f s = (s, Reply.refuse .noRoom) := by
  simp [doWriteProfile, hp, toProfile_val, h]

theorem doWriteProfile_badCode {f : ProfileFields} {p : Fin 8} (hp : f.index = p.val) (hnp : p.val < s.policy.np)
    (h : 4 < f.direction ∨ f.direction = 0 ∨ 1 < f.cards) : doWriteProfile f s = (s, Reply.refuse .badValue) := by
  have hcodes : laneDirectionOf f.direction = none ∨ indicationOf f.cards = none := by
    rcases h with h | h | h
    · exact .inl (laneDirectionOf_eq_none (.inr h))
    · exact .inl (laneDirectionOf_eq_none (.inl h))
    · exact .inr (indicationOf_eq_none h)
  simp only [doWriteProfile, hp, toProfile_val, if_neg (Nat.not_le.2 hnp)]
  rcases hcodes with h | h <;> simp [h]

theorem doWriteProfile_stores {f : ProfileFields} {p : Fin 8} {d : LaneDirection} {c : Bool} (hp : f.index = p.val)
    (hnp : p.val < s.policy.np) (hd : f.direction = laneDirectionCode d) (hc : f.cards = bit c) :
    doWriteProfile f s = (s.storeProfile p (f.applied d c), Reply.applied f.changed (f.applied d c).bytes) := by
  simp [doWriteProfile, hp, toProfile_val, Nat.not_le.2 hnp, hd, hc, laneDirectionOf_code, indicationOf_bit]

namespace State

/-- The bank once the lanes that chose profile `p` have met its new contents. -/
def profileMet (p : Fin 8) (x : Profile) (s : State) : State :=
  (s.modPolicy fun q => { q with profiles := upd q.profiles p fun _ => x }).eachLane (State.writtenProfile p)

theorem storeProfile_eq (p : Fin 8) (x : Profile) (s : State) : s.storeProfile p x = (s.profileMet p x).settle := rfl

theorem lanesOnly_profileMet (p : Fin 8) (x : Profile) (s : State) :
    LanesOnly (s.modPolicy fun q => { q with profiles := upd q.profiles p fun _ => x }) (s.profileMet p x) :=
  (laneLocal_writtenProfile p).lanesOnly_eachLane _

theorem policy_storeProfile (p : Fin 8) (x : Profile) (s : State) :
    (s.storeProfile p x).policy = { s.policy with profiles := s.policy.profiles.set p.val x p.isLt } :=
  (policy_settle (s.profileMet p x)).trans (lanesOnly_profileMet p x s).policy

theorem lane_writtenProfile (p : Fin 8) (l : LaneNo) (s : State) :
    (s.writtenProfile p l).lane l = if (s.lane l).choice = p then (match (s.lane l).state with
      | .closed => (s.tryIdle l).lane l
      | .idle => (s.rest l).lane l
      | _ => s.lane l) else s.lane l := by
  unfold State.writtenProfile State.readopt
  rw [apply_ite (fun t : State => t.lane l)]
  cases (s.lane l).state <;> rfl

theorem lane_profileMet (p : Fin 8) (x : Profile) (s : State) (l : LaneNo) :
    (s.profileMet p x).lane l =
      ((s.modPolicy fun q => { q with profiles := upd q.profiles p fun _ => x }).writtenProfile p l).lane l :=
  (laneLocal_writtenProfile p).lane_eachLane _ l

end State

/-! ## Write Template (R2, R3) -/

/-- The contents loaded, each value on a range at its limit (R3). -/
theorem TemplateFields.applied_eq (f : TemplateFields) : f.applied = {
    lenMin := max 4 (min 48 f.lenMin), lenMax := max 4 (min 48 f.lenMax), marker := f.marker, markerAt := min 47 f.markerAt,
    eventAt := min 47 f.eventAt, eventLen := f.eventLen, serialAt := min 47 f.serialAt,
    serialLen := max 4 (min 14 f.serialLen), checkAt := min 47 f.checkAt, checkLen := f.checkLen } := by
  simp only [TemplateFields.applied, clamp_eq 4 48 _ (by decide), clamp_eq 4 14 _ (by decide), clamp_zero]

theorem TemplateFields.changed_iff (f : TemplateFields) : f.changed = true ↔
    ¬(f.applied.lenMin = f.lenMin ∧ f.applied.lenMax = f.lenMax ∧ f.applied.markerAt = f.markerAt ∧
      f.applied.eventAt = f.eventAt ∧ f.applied.serialAt = f.serialAt ∧ f.applied.serialLen = f.serialLen ∧
      f.applied.checkAt = f.checkAt) := by
  simp only [TemplateFields.changed, TemplateFields.applied, Bool.or_eq_true, clamped_changed_iff]
  tauto

theorem TemplateFields.bad_iff (f : TemplateFields) : f.bad = true ↔
    (f.eventLen ≠ 0 ∧ f.eventLen ≠ 4) ∨ (f.checkLen ≠ 0 ∧ f.checkLen ≠ 2) ∨ 4 < f.marker.length ∨
      ∃ b ∈ f.marker, ¬IsLegal b := by
  simp only [TemplateFields.bad, Bool.or_eq_true, Bool.and_eq_true, decide_eq_true_iff, Bool.not_eq_true', List.all_eq_false,
    legalChar_iff, or_assoc]

theorem doWriteTemplate_badIndex {x : TemplateRequest} (h : 16 ≤ x.index) (s : State) :
    doWriteTemplate x s = (s, Reply.refuse .badValue) := dif_neg (Nat.not_lt.2 h)

theorem doWriteTemplate_noRoom {x : TemplateRequest} (h : x.index < 16) (hroom : usableTemplates s.policy.np ≤ x.index) :
    doWriteTemplate x s = (s, Reply.refuse .noRoom) := by
  simp [doWriteTemplate, h, hroom]

theorem doWriteTemplate_loads {i : Fin 16} {load : Nat} (h : i.val < usableTemplates s.policy.np) (f : TemplateFields) :
    doWriteTemplate ⟨i.val, load, some f⟩ s = s.loadTemplate i f := by
  simp [doWriteTemplate, Nat.not_le.2 h]

theorem doWriteTemplate_unloads {i : Fin 16} {load : Nat} (h : i.val < usableTemplates s.policy.np) (hload : load = 0) :
    doWriteTemplate ⟨i.val, load, none⟩ s = (s.setTemplate i none, Reply.ok []) := by
  simp [doWriteTemplate, Nat.not_le.2 h, hload]

theorem doWriteTemplate_badLoad {n load : Nat} (h : n < usableTemplates s.policy.np) (hload : load ≠ 0) :
    doWriteTemplate ⟨n, load, none⟩ s = (s, Reply.refuse .badValue) := by
  have hn : n < 16 := lt_of_lt_of_le h (Nat.min_le_left _ _)
  simp [doWriteTemplate, hn, Nat.not_le.2 h, hload]

theorem State.loadTemplate_bad {i : Fin 16} {f : TemplateFields} (h : f.bad = true ∨ f.applied.lenMax < f.applied.lenMin) :
    s.loadTemplate i f = (s, Reply.refuse .badValue) := by
  unfold State.loadTemplate
  split
  · rfl
  · next hgood => rw [if_pos (h.resolve_left hgood)]

theorem State.loadTemplate_good {i : Fin 16} {f : TemplateFields}
    (h : ¬(f.bad = true ∨ f.applied.lenMax < f.applied.lenMin)) :
    s.loadTemplate i f = (s.setTemplate i (some f.applied), Reply.applied f.changed f.applied.bytes) := by
  obtain ⟨hgood, hlen⟩ := not_or.1 h
  rw [State.loadTemplate, if_neg hgood, if_neg hlen]

/-! ## Set Lane Profile Choice (R76, R77) -/

theorem doSetLaneProfileChoice_unknown {lane index : Nat} (h : 15 < lane ∨ 7 < index) (s : State) :
    doSetLaneProfileChoice ⟨lane, index⟩ s = (s, Reply.refuse .badValue) := by
  rcases h with h | h
  · simp [doSetLaneProfileChoice, toLane_eq_none h]
  · simp [doSetLaneProfileChoice, toProfile_eq_none h]

theorem doSetLaneProfileChoice_eq (l : LaneNo) (p : Fin 8) (s : State) :
    doSetLaneProfileChoice ⟨l.val, p.val⟩ s = (s.choose l p, Reply.ok []) := by
  simp [doSetLaneProfileChoice, toLane_val, toProfile_val]

end Sys2Proof.Machine
end

section
namespace Sys2Proof.Machine

/-- Settles O57: each request is served by its own rule, whose branches the lemmas above give. -/
theorem policyRequestsTakeEffect : Obligations.PolicyRequestsTakeEffect := by
  unfold Obligations.PolicyRequestsTakeEffect
  refine ⟨Reader.profile_be, Reader.contents_be, fun s r extra hm => ?_⟩
  intro t
  have hpolicy : t.policy = s.policy := by simp [t]
  refine ⟨fun n hr => ?setProfileCount,
    fun fields f hr hf => ⟨fun p hp hnp => ⟨fun d c hd hc => ?profileStored, fun hcode => ?profileBadCode⟩,
      fun hroom hp => ?profileNoRoom, fun hp => ?profileUnknown⟩,
    fun i hi => ⟨fun hr => ?templateUnloaded, fun fields f hr hf => ?templateLoaded⟩,
    fun i load fields hr hload => ⟨fun hi => ?templateUnknown, fun hi hroom => ?templateNoRoom, fun hi h0 h1 => ?templateBadLoad⟩,
    fun a b hr hbad => ?choiceUnknown, fun l p hr => ?choice⟩
  case setProfileCount =>
    intro np y
    have hnp : clamp 1 8 n.toNat = np := clamp_eq 1 8 _ (by decide)
    rw [exec_setProfileCount hr hm, doSetProfileCount_eq, hnp, hpolicy]
    refine ⟨fun hsame => by rw [if_pos hsame], fun hother => ⟨t.changeCount np, by rw [if_neg hother], ?_⟩⟩
    have hu : (t.changeCount np).policy = s.policy.recount np := by rw [State.policy_changeCount, hpolicy]
    refine ⟨⟨t.countMet np, State.changeCount_eq np t, ?_, fun l => ?_⟩, ?_, ?_, ?_, ?_, ?_⟩
    · rw [State.policy_countMet, State.policy_changeCount]
    · intro w
      have hw : w = t.modPolicy (Policy.recount np) := by
        simp only [w, State.policy_countMet]
        rfl
      rw [State.lane_countMet, State.lane_recountLane, hw]
      rfl
    · rw [hu]
      rfl
    · rw [hu]
      exact Policy.recount_templates np _
    · rw [hu]
      exact Policy.recount_profiles np _
    · intro hloaded
      exact State.detected_changeCount (by rw [hpolicy]; exact (Policy.anyLoaded_iff _).2 hloaded)
    · intro hnone hmode
      have hbcm : t.bcm = s.bcm := by simp [t]
      have hevu : t.evu = s.evu := by simp [t]
      rw [State.evu_changeCount (by rw [hpolicy]; exact Policy.anyLoaded_eq_false hnone) (by rwa [hbcm]), hevu]
  case profileStored =>
    intro x whole
    have hx : f.applied d c = x := f.applied_eq d c
    have hwhole : f.changed = true ↔ ¬whole := by rw [f.changed_iff d c, hx]
    have hset : (t.modPolicy fun q => { q with profiles := upd q.profiles p fun _ => x }) =
        { t with policy := { s.policy with profiles := s.policy.profiles.set p.val x p.isLt } } := by
      rw [← hpolicy]
      rfl
    refine ⟨?_, ?_, t.profileMet p x, State.storeProfile_eq p x t, ?_, fun l => ?_⟩
    · rw [exec_writeProfile hr hf hm, doWriteProfile_stores hp (by rwa [hpolicy]) hd hc, hx, Reply.applied_eq hwhole]
    · rw [State.policy_storeProfile, hpolicy]
    · have hframe := (State.lanesOnly_profileMet p x t).frame
      rw [hset] at hframe
      exact hframe
    · rw [State.lane_profileMet, State.lane_writtenProfile, hset]
      rfl
  case profileBadCode =>
    rw [exec_writeProfile hr hf hm, doWriteProfile_badCode hp (by rwa [hpolicy]) hcode]
  case profileNoRoom =>
    rw [exec_writeProfile hr hf hm, doWriteProfile_noRoom (p := ⟨f.index, hp⟩) rfl (by rwa [hpolicy])]
  case profileUnknown => rw [exec_writeProfile hr hf hm, doWriteProfile_unknown hp]
  case templateUnloaded =>
    have hindex : (byte i.val).toNat = i.val := toNat_byte _ (by omega)
    have hplace : i.val < usableTemplates t.policy.np := by rwa [hpolicy]
    rw [exec_writeTemplate hr (Reader.template_unload _ 0 _ (by decide)) hm, hindex,
      doWriteTemplate_unloads (load := (0 : Byte).toNat) hplace rfl, ← hpolicy]
    rfl
  case templateLoaded =>
    intro x bad whole
    have hindex : (byte i.val).toNat = i.val := toNat_byte _ (by omega)
    have hplace : i.val < usableTemplates t.policy.np := by rwa [hpolicy]
    have hx : f.applied = x := f.applied_eq
    have hwhole : f.changed = true ↔ ¬whole := by rw [f.changed_iff, hx]
    have hbad : f.bad = true ∨ f.applied.lenMax < f.applied.lenMin ↔ bad := by
      rw [f.bad_iff, hx, or_assoc, or_assoc, or_assoc]
      rfl
    rw [exec_writeTemplate hr (Reader.template_load _ hf) hm, hindex, doWriteTemplate_loads hplace]
    refine ⟨fun hb => ?_, fun hb => ?_⟩
    · rw [State.loadTemplate_bad (hbad.2 hb)]
    · rw [State.loadTemplate_good (mt hbad.1 hb), hx, Reply.applied_eq hwhole, ← hpolicy]
      rfl
  case templateUnknown =>
    obtain ⟨x, rest, hx, hindex⟩ := Reader.template_index i load hload
    rw [exec_writeTemplate hr hx hm, doWriteTemplate_badIndex (by omega)]
  case templateNoRoom =>
    obtain ⟨x, rest, hx, hindex⟩ := Reader.template_index i load hload
    rw [exec_writeTemplate hr hx hm, doWriteTemplate_noRoom (by omega) (by rwa [hpolicy, hindex])]
  case templateBadLoad =>
    have hzero : load.toNat ≠ 0 := fun e => h0 (BitVec.eq_of_toNat_eq e)
    rw [exec_writeTemplate hr (Reader.template_unload i load fields h1) hm, doWriteTemplate_badLoad (by rwa [hpolicy]) hzero]
  case choiceUnknown => rw [exec_setLaneProfileChoice hr hm, doSetLaneProfileChoice_unknown hbad]
  case choice =>
    have hlane : (laneByte l).toNat = l.val := toNat_byte _ (by omega)
    have hindex : (byte p.val).toNat = p.val := toNat_byte _ (by omega)
    have hchoice : t.lane l = s.lane l := by simp [t, State.lane]
    rw [exec_setLaneProfileChoice hr hm, hlane, hindex, doSetLaneProfileChoice_eq]
    refine ⟨fun hsame => ?_, fun hother => ?_⟩
    · rw [State.choose, if_pos (by rwa [hchoice])]
    · intro u
      have hstate : (u.lane l).state = (s.lane l).state := by simp [u, hchoice]
      rw [State.choose, if_neg (by rwa [hchoice])]
      refine ⟨fun hc => ?_, fun hi => ?_, fun hc hi => ?_⟩
      · rw [State.readopt_of_closed (hstate.trans hc)]
      · rw [State.readopt_of_idle (hstate.trans hi)]
      · rw [State.readopt_of_busy (by rwa [hstate]) (by rwa [hstate])]

end Sys2Proof.Machine
end

section
/-! SUPPORT. The Entitlement Table's rules (R16) under the change of one slot, and the records that a lane of this bank holds
(R19). -/

namespace Sys2Proof.Machine

theorem probeBuckets_lt {B P b : Nat} {k : Key} (hB : 0 < B) (hb : b ∈ probeBuckets B P k) : b < B := by
  obtain ⟨i, -, rfl⟩ := List.mem_map.1 hb
  exact Nat.mod_lt _ hB

/-- A record is HELD by a lane of this bank exactly where its holder is that lane. -/
theorem Record.heldByLane_iff {r : Record} {l : LaneNo} :
    r.heldByLane l = true ↔ ∃ h z, r.state = .held h ∧ h.holder = .lane l z := by
  unfold Record.heldByLane
  split
  · next h hs =>
    split
    · next m z hm => simp [hs, hm]
    · next hm => simp [hs, hm]
  · next hs => exact iff_of_false Bool.false_ne_true fun ⟨x, _, hx, _⟩ => hs x hx

/-- A record that is not HELD is held by no lane. -/
theorem Record.heldByLane_of_state {r : Record} (h : ∀ x, r.state ≠ .held x) (l : LaneNo) : r.heldByLane l = false :=
  Bool.eq_false_iff.2 fun hl => by
    obtain ⟨x, -, hs, -⟩ := heldByLane_iff.1 hl
    exact h x hs

namespace Table

variable {t : Table} {k : Key} {n : Nat} {r : Record}

/-- No record of the table is held by this lane of the bank. -/
def Unheld (t : Table) (l : LaneNo) : Prop := ∀ x ∈ t.slots, x.2.heldByLane l = false

theorem buckets_pos (h : t.ok) : 0 < t.buckets := by
  obtain ⟨hB, -⟩ := h
  exact Nat.pos_of_ne_zero fun h0 => by simp [h0, Config.bucketCounts] at hB

/-- What the table holds after slot `n` is written. -/
theorem mem_put (hs : t.sorted) {x : Nat × Record} :
    x ∈ (t.put n r).slots ↔ x = (n, r) ∨ (x ∈ t.slots ∧ x.1 ≠ n) := by
  obtain ⟨m, q⟩ := x
  rw [← slotAt_eq_some_iff (put_sorted n r hs), ← slotAt_eq_some_iff hs, slotAt_put]
  by_cases e : m = n
  · simp [e, eq_comm]
  · simp [e]

/-- A record found stands in the table, which is well formed. -/
theorem lookup_mem (h : t.ok) (hk : t.lookup k = some (n, r)) :
    t.wf ∧ (n, r) ∈ t.slots ∧ r.key = k ∧ t.sweeping = false := by
  obtain ⟨-, -, -, hwf⟩ := h
  obtain ⟨hslot, hkey, -, hsweep⟩ := lookup_some hk
  exact ⟨hwf hsweep, (slotAt_eq_some_iff (hwf hsweep).1 n r).1 hslot, hkey, hsweep⟩

/-- A slot of the probe sequence may take a record whose key stands in no other slot (R16). -/
theorem ok_put (h : t.ok) (hp : n ∈ t.probeSlots r.key) (hk : ∀ m q, t.lookup r.key = some (m, q) → m = n) :
    (t.put n r).ok := by
  have hpos := buckets_pos h
  obtain ⟨hB, h1, h8, hwf⟩ := h
  refine ⟨hB, h1, h8, fun (hsweep : t.sweeping = false) => ?_⟩
  have hsame := hwf hsweep
  obtain ⟨hsorted, hplace, hkeys⟩ := hwf hsweep
  have hother {x : Nat × Record} (hx : x ∈ t.slots) (hkey : x.2.key = r.key) : x.1 = n :=
    hk x.1 x.2 (lookup_of_mem hsweep hsame hx hkey)
  have hn : n < 4 * t.buckets := by
    have := probeBuckets_lt hpos ((mem_probeSlots n).1 hp)
    omega
  refine ⟨put_sorted n r hsorted, fun x hx => ?_, fun x hx y hy hxy => ?_⟩
  · rcases (mem_put hsorted).1 hx with rfl | ⟨hx, -⟩
    · exact ⟨hn, hp⟩
    · exact hplace x hx
  · rcases (mem_put hsorted).1 hx with rfl | ⟨hx, hxn⟩ <;> rcases (mem_put hsorted).1 hy with rfl | ⟨hy, hyn⟩
    · rfl
    · exact absurd (hother hy hxy.symm) hyn
    · exact absurd (hother hx hxy) hxn
    · exact hkeys x hx y hy hxy

/-- A slot may always be made FREE. -/
theorem ok_free (h : t.ok) (n : Nat) : (t.free n).ok := by
  obtain ⟨hB, h1, h8, hwf⟩ := h
  refine ⟨hB, h1, h8, fun hsweep => ?_⟩
  obtain ⟨hsorted, hplace, hkeys⟩ := hwf hsweep
  have hmem {x : Nat × Record} (hx : x ∈ (t.free n).slots) : x ∈ t.slots := List.mem_of_mem_filter hx
  exact ⟨free_sorted n hsorted, fun x hx => hplace x (hmem hx), fun x hx y hy => hkeys x (hmem hx) y (hmem hy)⟩

end Table

/-! ## Lanes and the records they hold (R19) -/

/-- The lane is OPEN on an entry lane under a grant of this key with a hold (R19). -/
def Lane.HoldsFor (n : Lane) (k : Key) : Prop :=
  n.state = .opened ∧ n.key = some k ∧ n.direction = .entry ∧ ∃ res, n.result = some res ∧ res.held = true

/-- Whatever the first lane holds for, the second holds for too. -/
def Lane.Keeps (n m : Lane) : Prop := ∀ k, n.HoldsFor k → m.HoldsFor k

/-- The lane may take a hold: it is an entry lane and not OPEN. -/
def Lane.Ready (n : Lane) : Prop := n.state ≠ .opened ∧ n.direction = .entry

theorem State.holdsMatch_iff (s : State) :
    s.holdsMatch ↔ ∀ x ∈ s.table.slots, ∀ l, x.2.heldByLane l = true →
      (s.lane l).HoldsFor x.2.key ∧ s.table.sweeping = false := by
  constructor
  · intro h x hx l hl
    obtain ⟨y, z, hy, hz⟩ := Record.heldByLane_iff.1 hl
    obtain ⟨hopen, hkey, hdir, hres, hsweep⟩ := h x hx y l z hy hz
    exact ⟨⟨hopen, hkey, hdir, hres⟩, hsweep⟩
  · intro h x hx y l z hy hz
    obtain ⟨⟨hopen, hkey, hdir, hres⟩, hsweep⟩ := h x hx l (Record.heldByLane_iff.2 ⟨y, z, hy, hz⟩)
    exact ⟨hopen, hkey, hdir, hres, hsweep⟩

/-- The rules of R16 on the table; where `ranged`, those of R18 on its records; where `held`, that of R19 on its holds. The two
claims of TableStaysWellFormed are that every step keeps this with `ranged` alone, and with `held` alone. -/
structure State.TableSound (ranged held : Prop) (s : State) : Prop where
  ok : s.table.ok
  records : ranged → s.recordsInRange
  holds : held → s.holdsMatch

namespace State.TableSound

variable {A B : Prop} {s t : State} {l : LaneNo} {k : Key} {n : Nat} {r : Record}

/-! ## Which records a lane holds -/

/-- A record that a lane holds is the one found under the lane's key. -/
theorem holder (h : s.TableSound A B) (hB : B) {x : Nat × Record} (hx : x ∈ s.table.slots) (hl : x.2.heldByLane l = true) :
    (s.lane l).HoldsFor x.2.key ∧ s.lookup x.2.key = some x := by
  obtain ⟨hfor, hsweep⟩ := s.holdsMatch_iff.1 (h.holds hB) x hx l hl
  obtain ⟨-, -, -, hwf⟩ := h.ok
  exact ⟨hfor, Table.lookup_of_mem hsweep (hwf hsweep) hx rfl⟩

/-- A lane that is not OPEN on an entry lane under a grant with a hold holds nothing. -/
theorem unheld_of_not (h : s.TableSound A B) (hn : ∀ k, ¬(s.lane l).HoldsFor k) (hB : B) : s.table.Unheld l :=
  fun _ hx => Bool.eq_false_iff.2 fun hl => hn _ (h.holder hB hx hl).1

theorem unheld_of_state (h : s.TableSound A B) (hs : (s.lane l).state ≠ .opened) (hB : B) : s.table.Unheld l :=
  h.unheld_of_not (fun _ ⟨ho, _⟩ => hs ho) hB

/-- A lane holds nothing where no record that it holds is found under its key. -/
theorem unheld_of_lookup (h : s.TableSound A B) (hk : (s.lane l).key = some k)
    (hf : ∀ n r, s.lookup k = some (n, r) → r.heldByLane l = false) (hB : B) : s.table.Unheld l := by
  intro x hx
  refine Bool.eq_false_iff.2 fun hl => ?_
  obtain ⟨⟨-, hkey, -⟩, hfound⟩ := h.holder hB hx hl
  cases hkey.symm.trans hk
  simp [hf _ _ hfound] at hl

/-! ## Changes of lanes -/

/-- A lane may come to anything where it holds no record. -/
theorem lanes (h : s.TableSound A B) (ht : t.table = s.table)
    (hl : ∀ l, (s.lane l).Keeps (t.lane l) ∨ (B → s.table.Unheld l)) : t.TableSound A B where
  ok := ht ▸ h.ok
  records hA := by
    unfold State.recordsInRange
    rw [ht]
    exact h.records hA
  holds hB := by
    rw [State.holdsMatch_iff, ht]
    intro x hx m hm
    obtain ⟨hfor, hsweep⟩ := s.holdsMatch_iff.1 (h.holds hB) x hx m hm
    rcases hl m with hkeep | hfree
    · exact ⟨hkeep _ hfor, hsweep⟩
    · simp [hfree hB x hx] at hm

/-- What touches neither the table nor the lanes. -/
theorem same (h : s.TableSound A B) (ht : t.table = s.table := by simp) (hl : t.lanes = s.lanes := by simp) :
    t.TableSound A B :=
  h.lanes ht fun l => .inl fun k hk => by simpa only [State.lane, hl] using hk

theorem modLane (h : s.TableSound A B) {f : Lane → Lane} (hf : (s.lane l).Keeps (f (s.lane l))) :
    (s.modLane l f).TableSound A B :=
  h.lanes rfl fun m => .inl <| by
    rw [State.lane_modLane]
    split
    · next e => exact e ▸ hf
    · exact fun _ hk => hk

theorem modLane_unheld (h : s.TableSound A B) (hu : B → s.table.Unheld l) (f : Lane → Lane) :
    (s.modLane l f).TableSound A B :=
  h.lanes rfl fun m => by
    rw [State.lane_modLane]
    split
    · next e => exact .inr (e ▸ hu)
    · exact .inl fun _ hk => hk

/-! ## Changes of records -/

/-- A slot of the probe sequence takes a record in its ranges whose key stands in no other slot. A lane holds the record only
where it held a record with that key in the slot. -/
theorem put (h : s.TableSound A B) (hp : n ∈ s.table.probeSlots r.key)
    (hk : ∀ m q, s.lookup r.key = some (m, q) → m = n) (hr : A → r.inRange)
    (hl : ∀ l, r.heldByLane l = true → ∃ q, (n, q) ∈ s.table.slots ∧ q.key = r.key ∧ q.heldByLane l = true) :
    (s.putRecord n r).TableSound A B where
  ok := Table.ok_put h.ok hp hk
  records hA x hx := by
    rcases mem_putIn hx with rfl | hx
    · exact hr hA
    · exact h.records hA x hx
  holds hB := by
    rw [State.holdsMatch_iff]
    have hold := s.holdsMatch_iff.1 (h.holds hB)
    intro x hx m hm
    rcases mem_putIn hx with rfl | hx
    · obtain ⟨q, hq, hkey, hheld⟩ := hl m hm
      exact hkey ▸ hold _ hq m hheld
    · exact hold x hx m hm

/-- The record found is replaced by one with its key that no other lane holds. -/
theorem replace (h : s.TableSound A B) (hk : s.lookup k = some (n, r)) {q : Record} (hq : q.key = r.key)
    (hr : r.inRange → q.inRange) (hl : ∀ l, q.heldByLane l = true → r.heldByLane l = true) :
    (s.putRecord n q).TableSound A B := by
  obtain ⟨-, hmem, hkey, -⟩ := Table.lookup_mem h.ok hk
  obtain ⟨-, -, hprobe, -⟩ := Table.lookup_some hk
  have hqk : q.key = k := hq.trans hkey
  refine h.put (hqk ▸ hprobe) (fun m p hm => ?_) (fun hA => hr (h.records hA _ hmem)) fun m hm => ⟨r, hmem, hq.symm, hl m hm⟩
  rw [hqk, hk] at hm
  cases hm
  rfl

/-- The record found under a lane's key is replaced by one that the lane does not hold, and then the lane holds none. -/
theorem unheld_replace (h : s.TableSound A B) (hlane : (s.lane l).key = some k) (hk : s.lookup k = some (n, r)) {q : Record}
    (hq : q.heldByLane l = false) (hB : B) : (s.putRecord n q).table.Unheld l := by
  obtain ⟨⟨hsorted, -⟩, -⟩ := Table.lookup_mem h.ok hk
  intro x hx
  rcases (Table.mem_put hsorted).1 hx with rfl | ⟨hx, hne⟩
  · exact hq
  · refine Bool.eq_false_iff.2 fun hl => ?_
    obtain ⟨⟨-, hkey, -⟩, hfound⟩ := h.holder hB hx hl
    cases hkey.symm.trans hlane
    cases hfound.symm.trans hk
    exact hne rfl

/-- A slot is made FREE. -/
theorem free (h : s.TableSound A B) (n : Nat) : (s.modTable (Table.free n)).TableSound A B where
  ok := Table.ok_free h.ok n
  records hA x hx := h.records hA x (List.mem_of_mem_filter hx)
  holds hB := (State.holdsMatch_iff _).2 fun x hx => s.holdsMatch_iff.1 (h.holds hB) x (List.mem_of_mem_filter hx)

theorem ite {c : Prop} [Decidable c] {a b : State} (ha : a.TableSound A B) (hb : b.TableSound A B) :
    (if c then a else b).TableSound A B :=
  iteInduction (fun _ => ha) fun _ => hb

theorem foldl {α : Type} (h : s.TableSound A B) {f : State → α → State}
    (hf : ∀ t a, t.TableSound A B → (f t a).TableSound A B) (xs : List α) : (xs.foldl f s).TableSound A B :=
  List.foldlRecOn xs f h fun t ht a _ => hf t a ht

theorem eachLane (h : s.TableSound A B) {f : LaneNo → State → State}
    (hf : ∀ l t, t.TableSound A B → (f l t).TableSound A B) : (s.eachLane f).TableSound A B :=
  h.foldl (fun t l ht => hf l t ht) allLanes

end State.TableSound
end Sys2Proof.Machine
end

section
/-! SUPPORT. What keeps the Entitlement Table sound: the operations on a record, those that touch no record, and those of the lane
sequencers, the aborts and the changes of bank mode. -/

namespace Sys2Proof.Machine

/-- Used stays in its range as it rises (R18, R33, R35). -/
theorem Record.usedUp_le {r : Record} (h : r.inRange) : r.usedUp ≤ 255 ∧ (r.cls ≠ .staff → r.usedUp ≤ r.allowance) := by
  obtain ⟨-, h15, -⟩ := h
  unfold Record.usedUp
  split
  · next hc => exact ⟨by rw [sat8_eq]; omega, fun hn => absurd hc hn⟩
  · exact ⟨by omega, fun _ => min_le_left _ _⟩

/-- A record stays in its ranges under a used count in its range, whatever becomes of its state, last and provisional flag. -/
theorem Record.inRange.of_used {r q : Record} (h : r.inRange)
    (hq : q = { r with used := q.used, state := q.state, last := q.last, provisional := q.provisional })
    (hu : q.used ≤ 255 ∧ (r.cls ≠ .staff → q.used ≤ r.allowance)) : q.inRange := by
  obtain ⟨h1, h15, hsingle, -, -, hzones, hwindow⟩ := h
  rw [hq]
  exact ⟨h1, h15, hsingle, hu.1, hu.2, hzones, hwindow⟩

/-- A record stays in its ranges under a new state, last and provisional flag. -/
theorem Record.inRange.of_state {r q : Record} (h : r.inRange)
    (hq : q = { r with state := q.state, last := q.last, provisional := q.provisional }) : q.inRange := by
  obtain ⟨-, -, -, h255, hused, -⟩ := id h
  have hu : q.used = r.used := by rw [hq]
  exact h.of_used (by rw [hq]) (hu ▸ ⟨h255, hused⟩)

/-! ## The operations on a record (R32 to R35) -/

theorem Record.hold_inRange {r : Record} (h : r.inRange) (x : Holder) : (r.hold x).inRange := by
  unfold Record.hold
  split
  · exact h.of_state rfl
  · exact h

@[simp] theorem Record.hold_key (r : Record) (x : Holder) : (r.hold x).key = r.key := by
  unfold Record.hold
  split <;> rfl

/-- A hold is taken by its holder alone, and a record HELD already stays so. -/
theorem Record.heldByLane_hold {r : Record} {x : Holder} {l : LaneNo} (h : (r.hold x).heldByLane l = true) :
    r.heldByLane l = true ∨ ∃ z, x = .lane l z := by
  unfold Record.hold at h
  split at h
  · obtain ⟨y, z, hy, hz⟩ := Record.heldByLane_iff.1 h
    cases hy
    exact .inr ⟨z, hz⟩
  · exact .inl h

/-- The state in which a hold ends is not HELD. -/
theorem Hold.ended_ne_held (h : Hold) (p : Resting) (x : Hold) : h.ended p ≠ .held x := by
  unfold Hold.ended
  split <;> exact nofun

theorem Record.commit_inRange {r : Record} (h : r.inRange) (x : Last) (p : Bool) : (r.commit x p).inRange := by
  unfold Record.commit
  split
  · exact h.of_used rfl (Record.usedUp_le h)
  · exact h

@[simp] theorem Record.commit_key (r : Record) (x : Last) (p : Bool) : (r.commit x p).key = r.key := by
  unfold Record.commit
  split <;> rfl

theorem Record.commit_ne_held (r : Record) (x : Last) (p : Bool) (y : Hold) : (r.commit x p).state ≠ .held y := by
  unfold Record.commit
  split
  · exact Hold.ended_ne_held _ _ y
  · next hs => exact hs y

theorem Record.revert_inRange {r : Record} (h : r.inRange) : r.revert.inRange := by
  unfold Record.revert
  split
  · exact h.of_state rfl
  · exact h

@[simp] theorem Record.revert_key (r : Record) : r.revert.key = r.key := by
  unfold Record.revert
  split <;> rfl

theorem Record.revert_ne_held (r : Record) (y : Hold) : r.revert.state ≠ .held y := by
  unfold Record.revert
  split
  · exact Hold.ended_ne_held _ _ y
  · next hs => exact hs y

theorem Record.unheldEntry_inRange {r : Record} (h : r.inRange) (t : Option Nat) (b : BankNo) (l : LaneNo) :
    (r.unheldEntry t b l).inRange :=
  h.of_used rfl (Record.usedUp_le h)

theorem Record.heldByLane_unheldEntry {r : Record} {t : Option Nat} {b : BankNo} {m l : LaneNo} :
    (r.unheldEntry t b m).heldByLane l = r.heldByLane l := by
  unfold Record.heldByLane Record.unheldEntry
  cases r.state <;> rfl

theorem Record.passed_inRange {r : Record} (h : r.inRange) (t : Option Nat) (b : BankNo) (l : LaneNo) (res : DecisionResult) :
    (r.passed t b l res).inRange := by
  unfold Record.passed
  split
  · split
    · exact Record.commit_inRange h _ _
    · exact h
  · exact Record.unheldEntry_inRange h t b l

theorem Record.passed_key (r : Record) (t : Option Nat) (b : BankNo) (l : LaneNo) (res : DecisionResult) :
    (r.passed t b l res).key = r.key := by
  unfold Record.passed
  split
  · split
    · exact r.commit_key _ _
    · rfl
  · rfl

/-- A passage takes no hold, and ends one of the lane's own (R33, R35). -/
theorem Record.heldByLane_passed {r : Record} {t : Option Nat} {b : BankNo} {l m : LaneNo} {res : DecisionResult}
    (h : (r.passed t b l res).heldByLane m = true) : r.heldByLane m = true ∧ (res.held = true → m ≠ l) := by
  unfold Record.passed at h
  split at h
  · next hres =>
    split at h
    · simp [Record.heldByLane_of_state (Record.commit_ne_held r _ _)] at h
    · next hl => exact ⟨h, fun _ e => hl (e ▸ h)⟩
  · next hres =>
    rw [Record.heldByLane_unheldEntry] at h
    exact ⟨h, fun hr => absurd hr hres⟩

@[simp] theorem State.table_withdrawRemote (s : State) (l : LaneNo) (k : Key) (res : DecisionResult) :
    (s.withdrawRemote l k res).table = s.table := by
  unfold State.withdrawRemote
  (repeat' split) <;> simp

namespace State.TableSound

variable {A B : Prop} {s : State} {l : LaneNo}

/-- The record found is replaced by one with its key that is not HELD. -/
theorem rested {k : Key} {n : Nat} {r q : Record} (h : s.TableSound A B) (hk : s.lookup k = some (n, r)) (hq : q.key = r.key)
    (hr : r.inRange → q.inRange) (hn : ∀ x, q.state ≠ .held x) : (s.putRecord n q).TableSound A B :=
  h.replace hk hq hr fun m hm => by simp [Record.heldByLane_of_state hn m] at hm

/-! ## Flags, events, the log, the zones and the peers: neither a record nor what a hold rests on -/

theorem modSlot (h : s.TableSound A B) (m : LaneNo) (f : Slot → Slot) : (s.modSlot m f).TableSound A B := h.same rfl rfl

theorem modLink (h : s.TableSound A B) (f : Link → Link) : (s.modLink f).TableSound A B := h.same rfl rfl

theorem modPeers (h : s.TableSound A B) (f : Peers → Peers) : (s.modPeers f).TableSound A B := h.same rfl rfl

theorem modLog (h : s.TableSound A B) (f : Log → Log) : (s.modLog f).TableSound A B := h.same rfl rfl

theorem modEvu (h : s.TableSound A B) (f : Evu → Evu) : (s.modEvu f).TableSound A B := h.same rfl rfl

theorem modBcm (h : s.TableSound A B) (f : Bcm → Bcm) : (s.modBcm f).TableSound A B := h.same rfl rfl

theorem modTrunk (h : s.TableSound A B) (f : Trunk → Trunk) : (s.modTrunk f).TableSound A B := h.same rfl rfl

theorem modMge (h : s.TableSound A B) (f : Mge → Mge) : (s.modMge f).TableSound A B := h.same rfl rfl

theorem modPolicy (h : s.TableSound A B) (f : Policy → Policy) : (s.modPolicy f).TableSound A B := h.same rfl rfl

theorem withPairs (h : s.TableSound A B) (v : Vector Pair 8) : { s with pairs := v }.TableSound A B := h.same rfl rfl

theorem reach (h : s.TableSound A B) (n : Nat) : (s.reach n).TableSound A B := h.same rfl rfl

theorem drawn (h : s.TableSound A B) : s.drawn.TableSound A B := h.same rfl rfl

theorem setMode (h : s.TableSound A B) (m : BankMode) : (s.setMode m).TableSound A B := h.same

theorem startLink (h : s.TableSound A B) : s.startLink.TableSound A B := h.same

theorem raise (h : s.TableSound A B) (c : Cause) (d : Option Nat) : (s.raise c d).TableSound A B := h.same

theorem raiseAll (h : s.TableSound A B) (cs : List Cause) :
    (cs.foldl (fun (x : State) c => x.raise c none) s).TableSound A B :=
  h.foldl (fun _ c ht => ht.raise c none) cs

theorem errorOccurs (h : s.TableSound A B) (k : ErrorKind) (m : Option LaneNo) (bs : List Byte) :
    (s.errorOccurs k m bs).TableSound A B := h.same

theorem writeLog (h : s.TableSound A B) (a : Admission) : (s.writeLog a).TableSound A B := h.same

theorem offerPeer (h : s.TableSound A B) (f : TxFrame) : (s.offerPeer f).TableSound A B := h.same

theorem sendReply (h : s.TableSound A B) (x : ReplyHead) (r : Reply) : (s.sendReply x r).TableSound A B := h.same

theorem release (h : s.TableSound A B) (l : LaneNo) : (s.release l).TableSound A B :=
  h.lanes (by simp) fun m => .inl <| by
    rw [State.lane_release]
    split
    · next e => exact e ▸ fun _ hk => hk
    · exact fun _ hk => hk

theorem reserve (h : s.TableSound A B) (l : LaneNo) (z : ZoneNo) : (s.reserve l z).TableSound A B :=
  h.lanes (by simp) fun m => .inl <| by
    rw [State.lane_reserve]
    split
    · next e => exact e ▸ fun _ hk => hk
    · exact fun _ hk => hk

theorem commitZone (h : s.TableSound A B) (l : LaneNo) : (s.commitZone l).TableSound A B := by
  unfold State.commitZone
  split
  · next z _ =>
    have hz : ((s.modZone z Zone.committed).reportFull z).TableSound A B := h.same
    exact hz.modLane fun _ hk => hk
  · exact h

theorem peerTimeout (h : s.TableSound A B) (b : BankNo) : (s.peerTimeout b).TableSound A B :=
  ite h.same h.same

/-! ## The lane sequencers (R77 to R93) -/

theorem queueVerdict (h : s.TableSound A B) (m : LaneNo) (v : VerdictCommand) : (s.queueVerdict m v).TableSound A B := h.same

theorem endVerdict (h : s.TableSound A B) (m : LaneNo) : (s.endVerdict m).TableSound A B := h.same

theorem queueLamp (h : s.TableSound A B) (m : LaneNo) (d : Display) : (s.queueLamp m d).TableSound A B := h.same

theorem adopt (h : s.TableSound A B) (hu : B → s.table.Unheld l) : (s.adopt l).TableSound A B := h.modLane_unheld hu _

theorem enterIdle (h : s.TableSound A B) (hu : B → s.table.Unheld l) : (s.enterIdle l).TableSound A B :=
  ((h.modLane_unheld hu _).endVerdict l).queueLamp l _

theorem enterClosed (h : s.TableSound A B) (hu : B → s.table.Unheld l) : (s.enterClosed l).TableSound A B :=
  ((h.modLane_unheld hu _).endVerdict l).queueLamp l _

theorem rest (h : s.TableSound A B) (hu : B → s.table.Unheld l) : (s.rest l).TableSound A B :=
  ite ((h.adopt hu).enterIdle hu) ((h.adopt hu).enterClosed hu)

theorem tryIdle (h : s.TableSound A B) (l : LaneNo) : (s.tryIdle l).TableSound A B := by
  unfold State.tryIdle
  split
  · next hs =>
    have hu := h.unheld_of_state (l := l) (by simp [hs])
    exact ite ((h.adopt hu).enterIdle hu) (h.adopt hu)
  · exact h

theorem offerIdle (h : s.TableSound A B) (l : LaneNo) : (s.offerIdle l).TableSound A B := ite (h.tryIdle l) h

theorem restIdle (h : s.TableSound A B) (hs : (s.lane l).state = .idle) : (s.rest l).TableSound A B :=
  h.rest (h.unheld_of_state (by simp [hs]))

theorem readopt (h : s.TableSound A B) (l : LaneNo) : (s.readopt l).TableSound A B := by
  unfold State.readopt
  split
  · exact h.tryIdle l
  · next hs => exact h.restIdle hs
  · exact h

theorem closeLane (h : s.TableSound A B) (l : LaneNo) : (s.closeLane l).TableSound A B := by
  have close (hs : (s.lane l).state ≠ .opened) : ((s.adopt l).enterClosed l).TableSound A B :=
    (h.adopt (h.unheld_of_state hs)).enterClosed (h.unheld_of_state hs)
  unfold State.closeLane
  split
  · next hs => exact close (by simp [hs])
  · next hs => exact close (by simp [hs])
  · exact h

theorem readoptIdle (h : s.TableSound A B) (l : LaneNo) : (s.readoptIdle l).TableSound A B := by
  unfold State.readoptIdle
  split
  · next hs => exact h.restIdle hs
  · exact h

theorem settlePair (h : s.TableSound A B) (k : Fin 8) : (s.settlePair k).TableSound A B :=
  have hp := h.withPairs (upd s.pairs k fun q => { q with inForce := q.requested })
  ite (ite (hp.closeLane _) (((hp.modLane fun _ hk => hk).tryIdle _).readoptIdle _)) h

theorem settlePairs (h : s.TableSound A B) : s.settlePairs.TableSound A B := h.foldl (fun _ k ht => ht.settlePair k) _

theorem revertHeld (h : s.TableSound A B) (l : LaneNo) (k : Key) : (s.revertHeld l k).TableSound A B := by
  unfold State.revertHeld
  split
  · next n r hk => exact ite (h.rested hk r.revert_key Record.revert_inRange r.revert_ne_held) h
  · exact h

/-- Once the record under the lane's key is reverted, the lane holds none. -/
theorem unheld_revertHeld {k : Key} (h : s.TableSound A B) (hlane : (s.lane l).key = some k) (hB : B) :
    (s.revertHeld l k).table.Unheld l := by
  unfold State.revertHeld
  split
  · next n r hk =>
    split
    · exact h.unheld_replace hlane hk (Record.heldByLane_of_state r.revert_ne_held l) hB
    · next hl =>
      refine h.unheld_of_lookup hlane (fun m q hm => ?_) hB
      cases hk.symm.trans hm
      exact Bool.eq_false_iff.2 hl
  · next hk =>
    refine h.unheld_of_lookup hlane (fun m q hm => ?_) hB
    cases hk.symm.trans hm

theorem withdrawRemote (h : s.TableSound A B) (l : LaneNo) (k : Key) (res : DecisionResult) :
    (s.withdrawRemote l k res).TableSound A B := by
  unfold State.withdrawRemote
  refine ite ?_ h
  split
  · exact h.offerPeer _
  · exact h

/-- The end of an operation without an entry leaves the lane without a hold (R82). -/
theorem endWithout (h : s.TableSound A B) (l : LaneNo) (o : Outcome) :
    (s.endWithout l o).TableSound A B ∧ (B → (s.endWithout l o).table.Unheld l) := by
  unfold State.endWithout
  split
  · next res k hres hkey =>
    refine ⟨(((ite (h.revertHeld l k) h).release l).writeLog _).withdrawRemote l k res, fun hB => ?_⟩
    simp only [table_withdrawRemote, State.writeLog_frame, State.release_frame]
    split
    · exact h.unheld_revertHeld hkey hB
    · next hn =>
      refine h.unheld_of_not (fun k' ⟨_, _, _, res', hres', hheld⟩ => ?_) hB
      cases hres'.symm.trans hres
      exact hn hheld
  · next hn =>
    refine ⟨h.release l, fun hB => ?_⟩
    simp only [State.release_frame]
    exact h.unheld_of_not (fun k ⟨_, hkey, _, res, hres, _⟩ => hn res k hres hkey) hB

/-- An abort leaves the lane without a hold (R92). -/
theorem abortOperation (h : s.TableSound A B) (l : LaneNo) (o : Outcome) :
    (s.abortOperation l o).TableSound A B ∧ (B → (s.abortOperation l o).table.Unheld l) := by
  unfold State.abortOperation
  split
  · split
    · next hg =>
      refine ⟨h, h.unheld_of_not fun k ⟨_, _, hdir, _⟩ => ?_⟩
      simp [Lane.granted, hdir] at hg
    · exact h.endWithout l o
  · next hs =>
    have hq : (s.abortQuery l).TableSound A B ∧ (s.abortQuery l).table = s.table := by
      unfold State.abortQuery
      split
      · exact ⟨h.same, by simp⟩
      · exact ⟨h, rfl⟩
    refine ⟨hq.1.release l, fun hB => ?_⟩
    rw [(State.release_frame _ l).2.2.2.2.2.2.2.1, hq.2]
    exact h.unheld_of_state (by simp [hs]) hB
  · next hs _ => exact ⟨h, h.unheld_of_state hs⟩

theorem abortLane (h : s.TableSound A B) (l : LaneNo) (o : Outcome) : (s.abortLane l o).TableSound A B := by
  obtain ⟨ha, hu⟩ := h.abortOperation l o
  have ht := ha.modLane (l := l) (f := fun n => { n with mate := none }) fun _ hk => hk
  exact ite ht (ht.enterClosed hu)

theorem loseLane (h : s.TableSound A B) (l : LaneNo) : (s.loseLane l).TableSound A B :=
  have ha := (h.modLane (l := l) (f := Lane.unconfirmed) fun _ hk => hk).abortLane l .laneLost
  ite (ha.errorOccurs _ _ _) ha

theorem resetLane (h : s.TableSound A B) (l : LaneNo) : (s.resetLane l).TableSound A B :=
  have ht := h.modSlot l fun k => { k.left .absent with resetDue := true }
  ((ite (ht.raise .presence (some l.val)) ht).modLane fun _ hk => hk).abortLane l .withdrawn

/-! ## The access in flight and the changes of bank mode (R94, R136, R154 to R160) -/

theorem endAccess (h : s.TableSound A B) (x : ReplyHead) (m : LaneNo) (v : Option (BitVec 16)) :
    (s.endAccess x m v).TableSound A B := h.same

theorem failAnyAccess (h : s.TableSound A B) : s.failAnyAccess.TableSound A B := by
  unfold State.failAnyAccess
  split
  · exact h.endAccess _ _ none
  · exact h

theorem endTest (h : s.TableSound A B) : s.endTest.TableSound A B := by
  unfold State.endTest
  split
  · exact (h.modLink _).raise _ _
  · exact h

theorem stopLane (h : s.TableSound A B) (l : LaneNo) : (s.stopLane l).TableSound A B := ite ((h.raise _ _).loseLane l) h

theorem haltLink (h : s.TableSound A B) : s.haltLink.TableSound A B := by
  have ht : (s.eachLane State.stopLane).TableSound A B := h.eachLane fun l _ ht => ht.stopLane l
  simp only [State.haltLink]
  generalize s.eachLane State.stopLane = t at ht
  refine failAnyAccess (ht.lanes rfl fun l => .inl ?_)
  simp only [State.lane, get_updAll]
  exact fun _ hk => hk

theorem setEntering (h : s.TableSound A B) (b : Bool) : (s.setEntering b).TableSound A B := h.modBcm _

theorem stopLink (h : s.TableSound A B) : s.stopLink.TableSound A B := (h.setEntering true).haltLink.setEntering false

theorem enterOpen (h : s.TableSound A B) (cs : List Cause) : (s.enterOpen cs).TableSound A B :=
  (((h.setMode .opened).modBcm _).startLink.endTest.raiseAll _).eachLane fun l _ ht => ht.offerIdle l

theorem enterDormant (h : s.TableSound A B) (m : RestMode) : (s.enterDormant m).TableSound A B := by
  have hu := (((h.setEntering true).setMode m.mode).eachLane fun l _ ht => ht.closeLane l).endTest
  simp only [State.enterDormant]
  generalize State.endTest _ = u at hu ⊢
  have hw := (ite (c := u.link.running) (ite (c := u.link.awaiting)
    (hu.modLink fun k => { k with stopping := true }) hu.haltLink) hu).raise .modeChange none
  exact (ite ((hw.modBcm _).modMge _) hw).setEntering false

theorem settleClosing (h : s.TableSound A B) : s.settleClosing.TableSound A B :=
  ite (ite (((h.modBcm _).setMode _).raise _ _) ((h.modBcm _).enterDormant _)) h

theorem settle (h : s.TableSound A B) : s.settle.TableSound A B := h.settlePairs.settleClosing

theorem enterClosing (h : s.TableSound A B) (cs : List Cause) : (s.enterClosing cs).TableSound A B :=
  ((((h.setMode .closing).modBcm _).raiseAll _).eachLane fun l _ ht => ht.closeLane l).settle

theorem leaveStandby (h : s.TableSound A B) : s.leaveStandby.TableSound A B :=
  ((h.setMode _).startLink.raise _ _).raise _ _

theorem leaveDeep (h : s.TableSound A B) : s.leaveDeep.TableSound A B :=
  (((h.setMode _).modBcm _).startLink.raise _ _).raise _ _

theorem scheduleAt (h : s.TableSound A B) (n : Nat) : (s.scheduleAt n).TableSound A B := by
  unfold State.scheduleAt
  refine ite h (ite ?_ (ite (ite (h.enterClosing _) h) h))
  split
  · exact (h.enterOpen _).settle
  · exact (h.enterOpen _).settle
  · exact h

theorem resetMode (h : s.TableSound A B) : s.resetMode.TableSound A B := by
  have ht := h.modBcm fun b => { b with requested := none }
  unfold State.resetMode
  dsimp only
  split
  · exact ht
  · exact ht.leaveStandby
  · exact (ht.setMode _).raise _ _

end State.TableSound
end Sys2Proof.Machine
end

section
/-! SUPPORT. What keeps the Entitlement Table sound: an entry decision, the presentation it answers and the passage that
ends it. -/

namespace Sys2Proof.Machine
namespace State

/-! ## The lanes under an abort (R92, R96) -/

@[simp] theorem lane_withdrawRemote (s : State) (l m : LaneNo) (k : Key) (res : DecisionResult) :
    (s.withdrawRemote l k res).lane m = s.lane m := by
  unfold State.withdrawRemote State.lane
  (repeat' split) <;> simp

@[simp] theorem lane_revertHeld (s : State) (l m : LaneNo) (k : Key) : (s.revertHeld l k).lane m = s.lane m := by
  unfold State.revertHeld State.lane
  (repeat' split) <;> simp

@[simp] theorem lane_writeLog (s : State) (a : Admission) (m : LaneNo) : (s.writeLog a).lane m = s.lane m := by
  simp [State.lane]

theorem lane_endWithout_of_ne {s : State} {l m : LaneNo} (h : m ≠ l) (o : Outcome) : (s.endWithout l o).lane m = s.lane m := by
  unfold State.endWithout
  split
  · simp only [lane_withdrawRemote, lane_writeLog, State.lane_release, if_neg h]
    split <;> simp
  · rw [State.lane_release, if_neg h]

theorem lane_abortOperation_of_ne {s : State} {l m : LaneNo} (h : m ≠ l) (o : Outcome) :
    (s.abortOperation l o).lane m = s.lane m := by
  unfold State.abortOperation
  split
  · split
    · rfl
    · exact lane_endWithout_of_ne h o
  · rw [State.lane_release, if_neg h]
    unfold State.abortQuery State.lane
    split <;> simp
  · rfl

/-- An abort leaves every other lane as it was (R92). -/
theorem lane_abortLane_of_ne {s : State} {l m : LaneNo} (h : m ≠ l) (o : Outcome) : (s.abortLane l o).lane m = s.lane m := by
  unfold State.abortLane
  split <;> simp [h, lane_abortOperation_of_ne h]

theorem state_abortLane (s : State) (l : LaneNo) (o : Outcome) : ((s.abortLane l o).lane l).state = .closed := by
  unfold State.abortLane
  split
  · next hs => simp [State.abortOperation, hs]
  · simp [Lane.cleared]

/-- A Bank Reset aborts the lanes in turn: those visited are CLOSED, and one that was CLOSED stays so (R96). -/
theorem state_foldl_abort {l : LaneNo} (ls : List LaneNo) (s : State) (h : l ∈ ls ∨ (s.lane l).state = .closed) :
    ((ls.foldl (fun t m => (t.modSlot m Slot.verdictDropped).abortLane m .withdrawn) s).lane l).state = .closed := by
  induction ls generalizing s with
  | nil => exact h.resolve_left List.not_mem_nil
  | cons m ls ih =>
    refine ih _ ?_
    by_cases e : l = m
    · exact .inr (e ▸ state_abortLane _ l _)
    · refine h.imp (fun hl => (List.mem_cons.1 hl).resolve_left e) fun hs => ?_
      rwa [lane_abortLane_of_ne e]

theorem table_adoptAll (s : State) : (s.eachLane State.adopt).table = s.table := by
  unfold State.eachLane
  induction allLanes generalizing s with
  | nil => rfl
  | cons m ls ih => exact ih (s.adopt m)

@[simp] theorem lane_recordPassage (s : State) (l m : LaneNo) (k : Key) (res : DecisionResult) :
    (s.recordPassage l k res).lane m = s.lane m := by
  unfold State.recordPassage State.lane
  split <;> simp

namespace TableSound

variable {A B : Prop} {s : State} {l : LaneNo} {k : Key}

theorem adoptAll (h : s.TableSound A B) (hs : ∀ l, (s.lane l).state ≠ .opened) : (s.eachLane State.adopt).TableSound A B :=
  h.lanes (table_adoptAll s) fun l => .inr (h.unheld_of_state (hs l))

/-- Once every lane has been aborted none is OPEN, so each may adopt (R96). -/
theorem abortAll (h : s.TableSound A B) : s.abortAll.TableSound A B := by
  refine adoptAll (h.eachLane fun l _ ht => (ht.modSlot l _).abortLane l _) fun l => ?_
  rw [State.eachLane, state_foldl_abort allLanes s (.inl (List.mem_finRange l))]
  exact nofun

theorem doBankReset (h : s.TableSound A B) : s.doBankReset.TableSound A B := h.abortAll.resetMode.settlePairs

/-! ## The admission decision (R39 to R58, R80, R103) -/

theorem unheld (h : s.TableSound A B) (hr : B → (s.lane l).Ready) (hB : B) : s.table.Unheld l :=
  h.unheld_of_state (hr hB).1 hB

theorem sendRefusal (h : s.TableSound A B) (hu : B → s.table.Unheld l) (v : Verdict) (c : Option TicketClass) :
    (s.sendRefusal l v c).TableSound A B := by
  have ht := (h.modLane (l := l) (f := fun n => { n with counts := n.counts.refused v }) fun _ hk => hk).queueVerdict l
    (refusalCommand v (s.lane l).profile.display)
  have hv : B → ((s.modLane l fun n => { n with counts := n.counts.refused v }).queueVerdict l
      (refusalCommand v (s.lane l).profile.display)).table.Unheld l := by simpa using hu
  exact ite (ht.modLane_unheld hv _) ((ht.adopt hv).enterClosed hv)

theorem refuse (h : s.TableSound A B) (hu : B → s.table.Unheld l) (e : Option Reason) (k : Option Key)
    (c : Option TicketClass) (u : Option Nat) : (s.refuse l e k c u).TableSound A B :=
  ((h.release l).writeLog _).sendRefusal (by simpa using hu) _ c

theorem refuseFound (h : s.TableSound A B) (hu : B → s.table.Unheld l) (e : Reason) (k : Key) (r : Record) :
    (s.refuseFound l e k r).TableSound A B :=
  h.refuse hu _ _ _ _

theorem openLane (h : s.TableSound A B) (hu : B → s.table.Unheld l) (k : Option Key) (res : DecisionResult) :
    (s.openLane l k res).TableSound A B :=
  (h.modLane_unheld hu _).queueVerdict l _

/-- A hold on the record found and the Grant under which its lane opens (R32, R54). -/
theorem grant {i : Nat} {r : Record} (h : s.TableSound A B) (hk : s.lookup k = some (i, r)) (hr : B → (s.lane l).Ready)
    (z : Option ZoneNo) {res : DecisionResult} (hres : res.held = true) :
    ((s.putRecord i (r.hold (.lane l z))).openLane l (some k) res).TableSound A B where
  ok := by
    obtain ⟨-, hkey, hprobe, -⟩ := Table.lookup_some hk
    simp only [State.openLane_frame]
    refine Table.ok_put h.ok (by simpa [hkey] using hprobe) fun m q hm => ?_
    rw [r.hold_key, hkey] at hm
    cases hk.symm.trans hm
    rfl
  records hA x hx := by
    obtain ⟨-, hmem, -⟩ := Table.lookup_mem h.ok hk
    simp only [State.openLane_frame] at hx
    rcases mem_putIn hx with rfl | hx
    · exact Record.hold_inRange (h.records hA _ hmem) _
    · exact h.records hA x hx
  holds hB := by
    obtain ⟨-, hmem, hkey, hsweep⟩ := Table.lookup_mem h.ok hk
    obtain ⟨hclosed, hdir⟩ := hr hB
    have hold := s.holdsMatch_iff.1 (h.holds hB)
    have hother {x : Nat × Record} (hx : x ∈ s.table.slots) {m : LaneNo} (hm : x.2.heldByLane m = true) :
        (((s.putRecord i (r.hold (.lane l z))).openLane l (some k) res).lane m).HoldsFor x.2.key := by
      obtain ⟨hfor, -⟩ := hold x hx m hm
      have hne : m ≠ l := fun e => hclosed (e ▸ hfor.1)
      rw [State.lane_openLane, if_neg hne]
      exact hfor
    rw [State.holdsMatch_iff]
    simp only [State.openLane_frame]
    intro x hx m hm
    refine ⟨?_, hsweep⟩
    rcases mem_putIn hx with rfl | hx
    · rcases Record.heldByLane_hold hm with hm | ⟨z', hz'⟩
      · rw [r.hold_key]
        exact hother hmem hm
      · cases hz'
        rw [State.lane_openLane, if_pos rfl, r.hold_key, hkey]
        exact ⟨rfl, rfl, hdir, res, rfl, hres⟩
    · exact hother hx hm

theorem grantHold {i : Nat} {r : Record} (h : s.TableSound A B) (hk : s.lookup k = some (i, r))
    (hr : B → (s.lane l).Ready) (z : Option ZoneNo) (a : Authority) : (s.grantHold l k i r z a).TableSound A B :=
  h.grant hk hr z rfl

theorem confirmHold (h : s.TableSound A B) (hr : B → (s.lane l).Ready) (k : Key) (code : Option Nat) :
    (s.confirmHold l k code).1.TableSound A B := by
  have hu := h.unheld hr
  unfold State.confirmHold
  dsimp only
  split
  · exact h.refuse hu _ _ _ _
  · next hk =>
    split
    · exact h.refuseFound hu _ _ _
    · split
      · exact (h.release l).openLane (by simpa using hu) _ _
      · split
        · exact h.grantHold hk hr _ _
        · exact h.refuseFound hu _ _ _

theorem sendQuery (h : s.TableSound A B) (hr : B → (s.lane l).Ready) (k : Key) (code : Option Nat) (r : Record) :
    (s.sendQuery l k code r).TableSound A B := by
  have ht := h.modPeers fun p => { p with nextTag := s.peers.freshTag + 1 }
  unfold State.sendQuery
  exact ite ((((ht.modTrunk _).modPeers _).modLane_unheld (h.unheld hr) _).endVerdict l) (ht.confirmHold hr k code)

theorem authorize {i : Nat} {r : Record} (h : s.TableSound A B) (hk : s.lookup k = some (i, r))
    (hr : B → (s.lane l).Ready) (code : Option Nat) : (s.authorize l k code i r).TableSound A B := by
  have hu := h.unheld hr
  unfold State.authorize
  dsimp only
  split
  · exact ite (h.openLane hu _ _) (h.grantHold hk hr _ _)
  · exact h.sendQuery hr k code r
  · exact ite (h.grantHold hk hr _ _) (h.refuseFound hu _ k r)

theorem chargeAndAdmit {i : Nat} {r : Record} (h : s.TableSound A B) (hk : s.lookup k = some (i, r))
    (hr : B → (s.lane l).Ready) (code : Option Nat) : (s.chargeAndAdmit l k code i r).TableSound A B := by
  unfold State.chargeAndAdmit
  refine ite ?_ (h.authorize hk hr code)
  split
  · next z _ =>
    refine (h.reserve l z).authorize (by simpa [State.lookup] using hk) (fun hB => ?_) code
    rw [State.lane_reserve, if_pos rfl]
    exact hr hB
  · exact h.refuseFound (h.unheld hr) _ k r

theorem decideKey (h : s.TableSound A B) (hr : B → (s.lane l).Ready) (k : Key) (code : Option Nat) :
    (s.decideKey l k code).TableSound A B := by
  unfold State.decideKey
  split
  · exact h.refuse (h.unheld hr) _ _ _ _
  · next hk =>
    split
    · exact h.refuseFound (h.unheld hr) _ _ _
    · exact h.chargeAndAdmit hk hr code

theorem entryDecision (h : s.TableSound A B) (hr : B → (s.lane l).Ready) (p : Presentation) :
    (s.entryDecision l p).TableSound A B := by
  unfold State.entryDecision
  refine ite ((h.modLog _).sendRefusal (h.unheld hr) _ none) ?_
  split
  · exact h.refuse (h.unheld hr) _ _ _ _
  · exact h.decideKey hr _ _

theorem countPresentation (h : s.TableSound A B) (l : LaneNo) : (s.countPresentation l).TableSound A B :=
  (h.modLane fun _ hk => hk).modBcm _

theorem present (h : s.TableSound A B) (l : LaneNo) (p : Presentation) : (s.present l p).TableSound A B := by
  have hc := h.countPresentation l
  have hlane : (s.countPresentation l).lane l = { s.lane l with
      displayTimer := none,
      counts := { (s.lane l).counts with presentations := sat16 (s.lane l).counts.presentations } } := by
    simp [State.countPresentation]
  have hready (hs : (s.lane l).state ≠ .opened) (hd : (s.lane l).direction = .entry) :
      B → ((s.countPresentation l).lane l).Ready := fun _ => hlane ▸ ⟨hs, hd⟩
  have hunheld (hs : (s.lane l).state ≠ .opened) : B → (s.countPresentation l).table.Unheld l := h.unheld_of_state hs
  unfold State.present
  split
  · next hs hd => exact hc.entryDecision (hready (by simp [hs]) hd) p
  · next hs hd => exact hc.entryDecision (hready (by simp [hs]) hd) p
  · next hs _ => exact hc.openLane (hunheld (by simp [hs])) _ _
  · next hs _ => exact hc.openLane (hunheld (by simp [hs])) _ _
  · exact h.modLane fun _ hk => hk
  · exact h.modLane fun _ hk => hk
  · exact h

/-! ## Passages, rotations and timers (R59, R81 to R89) -/

theorem recordPassage (h : s.TableSound A B) (l : LaneNo) (k : Key) (res : DecisionResult) :
    (s.recordPassage l k res).TableSound A B := by
  unfold State.recordPassage
  split
  · next hk => exact h.replace hk (Record.passed_key _ _ _ _ _) (fun hr => Record.passed_inRange hr _ _ _ _) fun m hm =>
      (Record.heldByLane_passed hm).1
  · exact h

/-- A passage under the lane's own grant leaves the lane without a hold (R81). -/
theorem unheld_recordPassage {res : DecisionResult} (h : s.TableSound A B) (hkey : (s.lane l).key = some k)
    (hres : (s.lane l).result = some res) (hB : B) : (s.recordPassage l k res).table.Unheld l := by
  by_cases hheld : res.held = true
  · unfold State.recordPassage
    split
    · next hk =>
      exact h.unheld_replace hkey hk (Bool.eq_false_iff.2 fun hl => (Record.heldByLane_passed hl).2 hheld rfl) hB
    · next hk =>
      refine h.unheld_of_lookup hkey (fun m q hm => ?_) hB
      cases hk.symm.trans hm
  · refine (h.recordPassage l k res).unheld_of_not (fun k' ⟨_, _, _, res', hres', hheld'⟩ => ?_) hB
    rw [lane_recordPassage, hres] at hres'
    cases hres'
    exact hheld hheld'

end TableSound
end State
end Sys2Proof.Machine
end

section
/-! SUPPORT. What keeps the Entitlement Table sound: passages, exits, rotations and the timers of a lane; and the
queries, whose lanes may take a hold. -/

namespace Sys2Proof.Machine

/-! ## More operations on a record (R59, R105 to R117) -/

/-- An exit records no use (R59). -/
theorem Record.exited_inRange {r : Record} (h : r.inRange) (st : Resting) (t : Option Nat) (b : BankNo) (l : LaneNo) :
    (r.exited st t b l).inRange :=
  h.of_state rfl

/-- The used count that a notice gives is capped (R115). -/
theorem Record.usedFrom_le {r : Record} (h : r.inRange) (home : Bool) (n : EntryFields) :
    r.usedFrom home n ≤ 255 ∧ (r.cls ≠ .staff → r.usedFrom home n ≤ r.allowance) := by
  obtain ⟨-, h15, -⟩ := h
  unfold Record.usedFrom Record.cap
  cases hc : r.cls <;> simp [TicketClass.isStaff] <;> omega

theorem Record.enteredElsewhere_inRange {r : Record} (h : r.inRange) (home : Bool) (n : EntryFields) :
    (r.enteredElsewhere home n).inRange := by
  unfold Record.enteredElsewhere
  split
  · refine h.of_used rfl ?_
    dsimp only
    split
    · exact Record.usedUp_le h
    · exact Record.usedFrom_le h home n
  · exact h.of_used rfl (Record.usedUp_le h)

theorem Record.enteredElsewhere_key (r : Record) (home : Bool) (n : EntryFields) :
    (r.enteredElsewhere home n).key = r.key := by
  unfold Record.enteredElsewhere
  split <;> rfl

/-- An entry made elsewhere takes no hold (R115). -/
theorem Record.heldByLane_enteredElsewhere {r : Record} {home : Bool} {n : EntryFields} {l : LaneNo}
    (h : (r.enteredElsewhere home n).heldByLane l = true) : r.heldByLane l = true := by
  unfold Record.enteredElsewhere at h
  split at h
  · exact absurd h Bool.false_ne_true
  · exact h

/-- An Exit Notice leaves a hold with its holder (R117). -/
theorem Record.heldByLane_exitedElsewhere {r : Record} {n : ExitFields} {l : LaneNo}
    (h : (r.exitedElsewhere n).heldByLane l = true) : r.heldByLane l = true := by
  unfold Record.heldByLane Record.exitedElsewhere at *
  cases hs : r.state <;> simp_all

namespace State

/-- A query's lane is an entry lane that waits for it, so it is not OPEN (R62, R104). -/
def QueriesReady (s : State) : Prop := ∀ q ∈ s.peers.queries, (s.lane q.lane).Ready

theorem queriesReady_of_fit {s : State} (hq : s.queriesMatch) (hf : s.operationsFit) : s.QueriesReady := by
  intro q hmem
  have hs : (s.lane q.lane).state = .querying := (hq.1 q.lane).2 ⟨q, hmem, rfl⟩
  exact ⟨by simp [hs], (hf q.lane).1 hs⟩

theorem hearPeer_frame (s : State) (b : BankNo) :
    (s.hearPeer b).table = s.table ∧ (s.hearPeer b).lanes = s.lanes ∧ (s.hearPeer b).peers.queries = s.peers.queries := by
  unfold State.hearPeer
  split <;> simp [State.reconcileSend]

@[simp] theorem table_notifyEntry (s : State) (l : LaneNo) (k : Key) (res : DecisionResult) (g : Recorded) :
    (s.notifyEntry l k res g).table = s.table := by simp [State.notifyEntry]

@[simp] theorem noteReconcile_frame (s : State) (l : LaneNo) (k : Key) (res : DecisionResult) (g : Recorded) :
    (s.noteReconcile l k res g).table = s.table ∧ (s.noteReconcile l k res g).lanes = s.lanes := by
  unfold State.noteReconcile
  (repeat' split) <;> simp

@[simp] theorem lane_exitUpdate (s : State) (l m : LaneNo) : (s.exitUpdate l).lane m = s.lane m := by
  unfold State.exitUpdate State.exitMatched State.scanOut State.logUnmatched State.lane
  (repeat' split) <;> simp

namespace TableSound

variable {A B : Prop} {s : State} {l : LaneNo} {k : Key}

theorem notifyEntry (h : s.TableSound A B) (l : LaneNo) (k : Key) (res : DecisionResult) (g : Recorded) :
    (s.notifyEntry l k res g).TableSound A B := (h.offerPeer _).drawn

theorem noteReconcile (h : s.TableSound A B) (l : LaneNo) (k : Key) (res : DecisionResult) (g : Recorded) :
    (s.noteReconcile l k res g).TableSound A B :=
  h.same

/-- The end of an OPEN operation by a passage (R81). -/
theorem endByPassage (h : s.TableSound A B) (l : LaneNo) : (s.endByPassage l).TableSound A B := by
  unfold State.endByPassage
  split
  · next k res hkey hres =>
    refine (((((h.recordPassage l k res).commitZone l).writeLog _).notifyEntry l k res _).noteReconcile l k res _).rest
      fun hB => ?_
    simpa using h.unheld_recordPassage hkey hres hB
  · next hn =>
    exact h.rest (h.unheld_of_not fun k ⟨_, hkey, _, res, hres, _⟩ => hn k res hkey hres)

theorem exitMatched {i : Nat} {r : Record} (h : s.TableSound A B) (hk : s.lookup k = some (i, r)) (l : LaneNo) (st : Resting) :
    (s.exitMatched l k i r st).TableSound A B := by
  have hp := h.rested (q := r.exited st s.eventTime s.ownBank l) hk rfl
    (fun hr => Record.exited_inRange hr _ _ _ _) fun x => by exact nofun
  have hs : ((s.putRecord i (r.exited st s.eventTime s.ownBank l)).scanOut r.lastZone).TableSound A B := by
    unfold State.scanOut
    split
    · exact hp.same
    · exact hp
  exact (hs.writeLog _).offerPeer _

theorem exitUpdate (h : s.TableSound A B) (l : LaneNo) : (s.exitUpdate l).TableSound A B := by
  unfold State.exitUpdate
  split
  · exact h.writeLog _
  · split
    · exact h.writeLog _
    · next hk =>
      split
      · exact h.exitMatched hk l _
      · exact h.writeLog _

/-- A lane under a grant to leave holds nothing. -/
theorem unheld_exit (h : s.TableSound A B) (hg : (s.lane l).granted = .exit) : B → s.table.Unheld l :=
  h.unheld_of_not fun k ⟨_, _, hdir, _⟩ => by simp [Lane.granted, hdir] at hg

theorem endPassed (h : s.TableSound A B) (l : LaneNo) : (s.endPassed l).TableSound A B :=
  iteInduction (fun hg => (h.exitUpdate l).rest ((h.exitUpdate l).unheld_exit (by simpa using hg)))
    fun _ => h.endByPassage l

theorem endUnpassed (h : s.TableSound A B) (l : LaneNo) (o : Outcome) : (s.endUnpassed l o).TableSound A B :=
  iteInduction (fun hg => h.rest (h.unheld_exit hg)) fun _ =>
    have ⟨ht, hu⟩ := h.endWithout l o
    ht.rest hu

theorem tailgate (h : s.TableSound A B) (l : LaneNo) : (s.tailgate l).TableSound A B :=
  ((h.raise _ _).writeLog _).modLane fun _ hk => hk

theorem ungranted (h : s.TableSound A B) (l : LaneNo) (d : Direction) : (s.ungranted l d).TableSound A B := by
  unfold State.ungranted
  split
  · exact ite (h.tailgate l) h
  · exact h
  · exact h.tailgate l
  · exact h.modLane fun _ hk => hk
  · exact h.tailgate l
  · exact h.tailgate l
  · exact h.writeLog _
  · exact h.writeLog _
  · exact h

theorem setMate (h : s.TableSound A B) (l head : LaneNo) : (s.setMate l head).TableSound A B :=
  ite (h.modLane fun _ hk => hk) h

theorem rotation (h : s.TableSound A B) (l head : LaneNo) (d : Direction) : (s.rotation l head d).TableSound A B :=
  ite (h.modLane fun _ hk => hk) (ite ((ite (h.endPassed l) (h.endUnpassed l _)).setMate l head) (h.ungranted l d))

theorem reverse (h : s.TableSound A B) (l : LaneNo) : (s.reverse l).TableSound A B := ite (h.endUnpassed l _) h

theorem passExpiry (h : s.TableSound A B) (l : LaneNo) : (s.passExpiry l).TableSound A B := by
  unfold State.passExpiry
  split
  · exact ite ((h.reach _).endUnpassed l _) h
  · exact h

/-- A lane that shows a refusal holds nothing. -/
theorem displayExpiry (h : s.TableSound A B) (l : LaneNo) : (s.displayExpiry l).TableSound A B := by
  unfold State.displayExpiry
  split
  · exact iteInduction (fun hs => (h.reach _).rest ((h.reach _).unheld_of_state (l := l) (by simp [hs]))) fun _ => h
  · exact h

end TableSound
end State
end Sys2Proof.Machine
end

section
/-! SUPPORT. What keeps the Entitlement Table sound: peer frames and the deadlines of the Peer Coordinator. -/

namespace Sys2Proof.Machine
namespace State

theorem QueriesReady.hearPeer {s : State} (h : s.QueriesReady) (b : BankNo) : (s.hearPeer b).QueriesReady := by
  obtain ⟨-, hlanes, hqueries⟩ := hearPeer_frame s b
  unfold State.QueriesReady State.lane
  rw [hlanes, hqueries]
  exact h

@[simp] theorem lane_peerTimeout (s : State) (b : BankNo) (m : LaneNo) : (s.peerTimeout b).lane m = s.lane m := by
  unfold State.peerTimeout State.lane
  dsimp only
  split <;> simp

namespace TableSound

variable {A B : Prop} {s : State} {l : LaneNo} {k : Key}

/-! ## Peer frames and deadlines (R97 to R117) -/

/-- A hold for a remote bank is no lane's (R106). -/
theorem putRemote {i : Nat} {r : Record} (h : s.TableSound A B) (hk : s.lookup k = some (i, r)) (b : BankNo) (m : LaneNo)
    (d : Nat) : (s.putRecord i (r.hold (.remote b m d))).TableSound A B :=
  h.replace hk (Record.hold_key _ _) (fun hr => Record.hold_inRange hr _) fun x hx => by
    rcases Record.heldByLane_hold hx with hx | ⟨z, hz⟩
    · exact hx
    · cases hz

theorem answerQuery (h : s.TableSound A B) (b : BankNo) (tag : Byte) (q : QueryFields) :
    (s.answerQuery b tag q).TableSound A B := by
  unfold State.answerQuery
  refine ite (h.offerPeer _).drawn ?_
  split
  · exact (h.offerPeer _).drawn
  · next hk =>
    split
    · exact h.offerPeer _
    · exact (h.putRemote hk _ _ _).offerPeer _

theorem refuseHeld {q : Query} (h : s.TableSound A B) (hu : B → s.table.Unheld q.lane) (e : Reason) (r : Option Record) :
    (s.refuseHeld q e r).TableSound A B :=
  (h.refuse hu _ _ _ _).offerPeer _

/-- A lane that may take a hold opens under one (R108). -/
theorem grantAnswer {q : Query} (h : s.TableSound A B) (hr : B → (s.lane q.lane).Ready) : (s.grantAnswer q).TableSound A B := by
  have hu := h.unheld hr
  unfold State.grantAnswer
  dsimp only
  split
  · exact h.refuseHeld hu _ _
  · next hk =>
    split
    · exact h.refuseHeld hu _ _
    · exact h.refuseHeld hu _ _
    · exact h.grant hk hr _ rfl

theorem dropQuery (h : s.TableSound A B) (l : LaneNo) : (s.dropQuery l).TableSound A B := h.modPeers _

theorem addLapsed (h : s.TableSound A B) (q : Query) (v : LapsedVerdict) : (s.addLapsed q v).TableSound A B := h.same

theorem matchedAnswer {q : Query} (h : s.TableSound A B) (hr : B → (s.lane q.lane).Ready) (a : AnswerFields) :
    (s.matchedAnswer q a).TableSound A B := by
  have ht := h.dropQuery q.lane
  unfold State.matchedAnswer
  dsimp only
  split
  · exact ht.grantAnswer hr
  · exact ht.refuse (ht.unheld hr) _ _ _ _
  · exact ht.confirmHold hr _ _

theorem lateAnswer (h : s.TableSound A B) (e : Lapsed) (a : AnswerFields) : (s.lateAnswer e a).TableSound A B := by
  have ht := (h.modPeers fun p => { p with lapsed := p.lapsed.filter fun x => decide (x.tag ≠ e.tag) }).errorOccurs
    .lateAnswer none []
  unfold State.lateAnswer
  dsimp only
  split
  · exact ht.offerPeer _
  · exact ht.offerPeer _
  · exact (ht.writeLog _).raise _ _
  · exact ht

theorem takeAnswer (h : s.TableSound A B) (hq : B → s.QueriesReady) (b : BankNo) (tag : Byte) (a : AnswerFields) :
    (s.takeAnswer b tag a).TableSound A B := by
  unfold State.takeAnswer
  split
  · next q hf => exact h.matchedAnswer (fun hB => hq hB q (List.mem_of_find?_eq_some hf)) a
  · split
    · exact h.lateAnswer _ a
    · exact h.errorOccurs _ _ _

theorem applyEntry {i : Nat} {r : Record} (h : s.TableSound A B) (n : EntryFields) (hk : s.lookup k = some (i, r))
    (late : Bool) : (s.applyEntry n late i r).TableSound A B :=
  have ht := h.replace hk (Record.enteredElsewhere_key r (s.isHome r) n) (fun hr => Record.enteredElsewhere_inRange hr _ _)
    fun _ hx => Record.heldByLane_enteredElsewhere hx
  ite (ht.writeLog _) (ite ht ((ht.writeLog _).raise _ _))

theorem takeEntry (h : s.TableSound A B) (n : EntryFields) : (s.takeEntry n).TableSound A B := by
  unfold State.takeEntry
  split
  · exact h
  · next hk =>
    exact ite h (ite (h.rested hk (Record.commit_key _ _ _) (fun hr => Record.commit_inRange hr _ _)
      (Record.commit_ne_held _ _ _)) (h.applyEntry n hk _))

theorem takeReconcile (h : s.TableSound A B) (n : EntryFields) : (s.takeReconcile n).TableSound A B := by
  unfold State.takeReconcile
  split
  · exact h
  · next hk => exact ite h (h.applyEntry n hk _)

theorem takeExit (h : s.TableSound A B) (n : ExitFields) : (s.takeExit n).TableSound A B := by
  unfold State.takeExit
  split
  · exact h
  · next hk =>
    exact ite h (h.replace hk rfl (fun hr => hr.of_state rfl) fun _ hx => Record.heldByLane_exitedElsewhere hx)

theorem putReverted {i : Nat} {r : Record} (h : s.TableSound A B) (hk : s.lookup k = some (i, r)) :
    (s.putRecord i r.revert).TableSound A B :=
  h.rested hk (Record.revert_key r) Record.revert_inRange (Record.revert_ne_held r)

theorem takeWithdraw (h : s.TableSound A B) (n : WithdrawFields) : (s.takeWithdraw n).TableSound A B := by
  unfold State.takeWithdraw
  split
  · exact h
  · next hk => exact ite (h.putReverted hk) h

theorem actPeer (h : s.TableSound A B) (hq : B → s.QueriesReady) (b : BankNo) (tag : Byte) (p : PeerPayload) :
    (s.actPeer b tag p).TableSound A B := by
  cases p with
  | query q => exact h.answerQuery b tag q
  | answer a => exact (h.takeAnswer hq b tag a).settle
  | entry n => exact h.takeEntry n
  | exit n => exact h.takeExit n
  | withdraw n => exact h.takeWithdraw n
  | reconcile n => exact h.takeReconcile n

theorem hearPeer (h : s.TableSound A B) (b : BankNo) : (s.hearPeer b).TableSound A B :=
  h.same (hearPeer_frame s b).1 (hearPeer_frame s b).2.1

theorem takePeer (h : s.TableSound A B) (hq : B → s.QueriesReady) (k : FrameKind) (src tag : Byte)
    (payload lead : List Byte) : (s.takePeer k src tag payload lead).TableSound A B := by
  unfold State.takePeer
  refine ite h ?_
  split
  · exact h
  · next b _ =>
    split
    · exact h.errorOccurs _ _ _
    · exact ite ((h.hearPeer b).actPeer (fun hB => (hq hB).hearPeer b) _ _ _) h

theorem queryExpiry (h : s.TableSound A B) (hq : B → s.QueriesReady) (l : LaneNo) : (s.queryExpiry l).TableSound A B := by
  unfold State.queryExpiry
  split
  · exact h
  · next q hf =>
    have hl : q.lane = l := by simpa using List.find?_some hf
    refine (((((h.reach _).peerTimeout _).dropQuery l).confirmHold (fun hB => ?_) _ _)).addLapsed _ _
    have hready := hq hB q (List.mem_of_find?_eq_some hf)
    rw [hl] at hready
    show (((s.reach _).peerTimeout _).lane l).Ready
    rwa [lane_peerTimeout]

theorem lapsedExpiry (h : s.TableSound A B) (tag : Byte) : (s.lapsedExpiry tag).TableSound A B := by
  unfold State.lapsedExpiry
  split
  · exact (h.reach _).modPeers _
  · exact h

theorem remoteExpiry (h : s.TableSound A B) (k : Key) : (s.remoteExpiry k).TableSound A B := by
  unfold State.remoteExpiry
  split
  · exact h
  · next hk =>
    split
    · exact (((h.reach _).putReverted hk).writeLog _).raise _ _
    · exact h

end TableSound
end State
end Sys2Proof.Machine
end

section
/-! SUPPORT. What keeps the Entitlement Table sound: the Lane Link, the reports of the lanes, and the reporting to the host. -/

namespace Sys2Proof.Machine

/-- Starting a lane's timer leaves its grant (R81, R85). -/
theorem Lane.keeps_timed (now : Nat) (c : SlotCommand) (n : Lane) : n.Keeps (n.timed now c) := by
  unfold Lane.timed
  split <;> exact fun _ hk => hk

namespace State.TableSound

variable {A B : Prop} {s : State} {l : LaneNo}

/-! ## The Lane Link (R123 to R136) -/

theorem failAccess (h : s.TableSound A B) (l : LaneNo) : (s.failAccess l).TableSound A B := by
  unfold State.failAccess
  split
  · exact ite (h.endAccess _ _ none) h
  · exact h

theorem flagging {f : State → State} (hf : (f s).TableSound A B) : (s.flagging f).TableSound A B := by
  rw [State.flagging, State.noteFlags_eq]
  exact hf.same rfl rfl

theorem startCycle (h : s.TableSound A B) : s.startCycle.TableSound A B :=
  ite (flagging (((h.reach _).modLink _).modLink _)) h

theorem sendHeader (h : s.TableSound A B) : s.sendHeader.TableSound A B := h.modLink _

theorem sendAutomatic (h : s.TableSound A B) : s.sendAutomatic.TableSound A B :=
  ite ((h.modLink _).sendHeader.modLink _) h

theorem sendTriggered (h : s.TableSound A B) : s.sendTriggered.TableSound A B := ite h.sendHeader h

theorem sendSlot (h : s.TableSound A B) (l : LaneNo) (c : SlotCommand) : (s.sendSlot l c).TableSound A B := by
  have ht := ((h.modSlot l (Slot.sending c)).modLane (l := l) (Lane.keeps_timed s.now c _)).modLink
    fun k => { k with awaiting := true, line := commandBytes s.draws l c }
  unfold State.sendSlot
  dsimp only
  split
  · exact (ht.modMge _).drawn
  · exact ht.drawn

theorem sendIf (h : s.TableSound A B) (l : LaneNo) (kind : SlotCommand → Bool) : (s.sendIf l kind).TableSound A B := by
  unfold State.sendIf
  refine ite ?_ h
  split
  · exact ite (h.sendSlot l _) h
  · exact h

theorem endSlot (h : s.TableSound A B) (l : LaneNo) : (s.endSlot l).TableSound A B :=
  have ht := (h.modLink (Link.slotEnded l)).modMge fun m => { m with phase := m.phase.slotEnded l }
  ite (ite ht.stopLink.startLink ht.stopLink) ht

theorem loseSlot (h : s.TableSound A B) (l : LaneNo) : (s.loseSlot l).TableSound A B :=
  (((h.modSlot l _).raise _ _).loseLane l).failAccess l

theorem queueMode (h : s.TableSound A B) (l : LaneNo) : (s.queueMode l).TableSound A B := h.modSlot l _

theorem joined (h : s.TableSound A B) (l : LaneNo) : (s.joined l).TableSound A B :=
  (((h.modSlot l _).raise _ _).queueMode l).offerIdle l

theorem requeue (h : s.TableSound A B) (l : LaneNo) (c : SlotCommand) : (s.requeue l c).TableSound A B := by
  unfold State.requeue
  split
  · exact ite (h.modSlot l _) h
  · exact ite (h.modSlot l _) h
  · exact h.queueMode l
  · exact ite (h.modSlot l _) h
  · exact h

theorem duplicate (h : s.TableSound A B) (l : LaneNo) : (s.duplicate l).TableSound A B := by
  unfold State.duplicate
  split
  · exact (h.modSlot l _).requeue l _
  · exact h

theorem judge (h : s.TableSound A B) (l : LaneNo) (r : Option Report) : (s.judge l r).TableSound A B := by
  unfold State.judge
  split
  · exact ite h (h.modSlot l _)
  · exact h

theorem confirm (h : s.TableSound A B) (l : LaneNo) (image : ControlImage) : (s.confirm l image).TableSound A B := by
  have ht := h.modLane (l := l) (f := fun x => { x with
    confirmed := some image, commanding := if image = (s.lane l).control then false else x.commanding }) fun _ hk => hk
  exact ite (ite (ht.raise _ _) ht) (ht.queueMode l)

theorem answerAccess (h : s.TableSound A B) (l : LaneNo) (v : BitVec 16) : (s.answerAccess l v).TableSound A B := by
  unfold State.answerAccess
  split
  · exact ite (h.endAccess _ l _) h
  · exact h

theorem handOn (h : s.TableSound A B) (l : LaneNo) (r : Report) : (s.handOn l r).TableSound A B := by
  cases r with
  | nothing | hello _ | testEcho _ => exact h
  | presentation p => exact h.present _ p
  | passage d | forced d => exact h.rotation _ l d
  | reverse => exact h.reverse _
  | button | fault => exact h.raise _ _
  | confirm image => exact h.confirm l image
  | parameterAnswer v => exact h.answerAccess l v

theorem countMate (h : s.TableSound A B) (l : LaneNo) : (s.countMate l).TableSound A B :=
  ite (h.modLane fun _ hk => hk) h

theorem activeReport (h : s.TableSound A B) (l : LaneNo) (fresh : Bool) (r : Report) :
    (s.activeReport l fresh r).TableSound A B :=
  ite (((h.judge l _).modSlot l _).handOn l r) ((h.judge l _).duplicate l)

theorem joiningReport (h : s.TableSound A B) (l : LaneNo) : (s.joiningReport l).TableSound A B :=
  ite (h.joined l) (h.modSlot l _)

theorem byLink (h : s.TableSound A B) (l : LaneNo) (fresh : Bool) (r : Report) : (s.byLink l fresh r).TableSound A B := by
  unfold State.byLink
  split
  · exact h.modSlot l _
  · exact h.modSlot l _
  · exact (h.judge l _).loseSlot l
  · exact h
  · exact h
  · exact h.joiningReport l
  · exact h.activeReport l fresh _

theorem heard (h : s.TableSound A B) (l : LaneNo) (fresh : Bool) (r : Report) : (s.heard l fresh r).TableSound A B :=
  ite ((h.byLink l fresh r).countMate l) (h.byLink l fresh r)

theorem goodReply (h : s.TableSound A B) (l : LaneNo) (n : Fin 16) (r : Report) : (s.goodReply l n r).TableSound A B :=
  ite ((ite h ((h.modSlot l _).heard l _ r).settle).endSlot l) h

theorem failure (h : s.TableSound A B) (l : LaneNo) : (s.failure l).TableSound A B := by
  unfold State.failure
  split
  · exact (h.judge l none).modSlot l _
  · exact h.modSlot l _
  · exact h
  · exact h

theorem noReply (h : s.TableSound A B) (l : LaneNo) : (s.noReply l).TableSound A B := ite ((ite h (h.failure l)).endSlot l) h

theorem garbled (h : s.TableSound A B) (l : LaneNo) : (s.garbled l).TableSound A B :=
  have ht := h.errorOccurs .laneReply none []
  ite ((ite ht (ht.failure l)).endSlot l) h

theorem replyReceived (h : s.TableSound A B) (l : LaneNo) (bs : List Byte) : (s.replyReceived l bs).TableSound A B := by
  unfold State.replyReceived
  split
  · exact h.goodReply l _ _
  · exact h.garbled l

theorem slotLost (h : s.TableSound A B) (l : LaneNo) : (s.slotLost l).TableSound A B := ite (h.loseSlot l).settle h

theorem clearMate (h : s.TableSound A B) (l : LaneNo) : (s.clearMate l).TableSound A B :=
  ite (h.modLane fun _ hk => hk) h

theorem testEnded (h : s.TableSound A B) : s.testEnded.TableSound A B := ite h.endTest h

/-! ## Reports and the arbiter (R145 to R148, R172, R182 to R184) -/

theorem pushReport (h : s.TableSound A B) (k : FrameKind) (b : Body) : (s.pushReport k b).TableSound A B := h.same

theorem drainTest (h : s.TableSound A B) : s.drainTest.TableSound A B := h.same

theorem buildTally (h : s.TableSound A B) : s.buildTally.TableSound A B :=
  (flagging ((h.pushReport _ _).drawn.modLog _)).drainTest

theorem holdExpiry (h : s.TableSound A B) : s.holdExpiry.TableSound A B := by
  unfold State.holdExpiry
  split
  · exact (h.reach _).drainTest
  · exact h

theorem endAudit (h : s.TableSound A B) (sent missing : Nat) : (s.endAudit sent missing).TableSound A B :=
  (h.modLog _).raise _ _

theorem pushAudit (h : s.TableSound A B) (es : List Entry) : (s.pushAudit es).TableSound A B := by
  cases es with
  | nil => exact h
  | cons => exact (h.pushReport _ _).drawn

theorem buildAudit (h : s.TableSound A B) (a : Audit) : (s.buildAudit a).TableSound A B :=
  ite ((h.pushAudit _).endAudit _ _) ((h.pushAudit _).modLog _)

theorem tryEvent (h : s.TableSound A B) : s.tryEvent.TableSound A B := ite ((h.pushReport _ _).modEvu _) h

theorem holdoffExpiry (h : s.TableSound A B) : s.holdoffExpiry.TableSound A B := by
  unfold State.holdoffExpiry
  split
  · exact ((h.reach _).modEvu _).tryEvent
  · exact h

theorem statusExpiry (h : s.TableSound A B) : s.statusExpiry.TableSound A B := by
  unfold State.statusExpiry
  split
  · exact (h.reach _).modEvu _
  · exact h

theorem placeStatus (h : s.TableSound A B) (part : Nat) (rest : List Byte) : (s.placeStatus part rest).TableSound A B :=
  ite ((h.pushReport _ _).modEvu _) ((h.pushReport _ _).modEvu _)

theorem tryStatus (h : s.TableSound A B) : s.tryStatus.TableSound A B := by
  unfold State.tryStatus
  refine ite ?_ h
  split
  · exact h.placeStatus _ _
  · exact ite (h.placeStatus _ _).drawn h

theorem sendFrame (h : s.TableSound A B) : s.sendFrame.TableSound A B := by
  unfold State.sendFrame
  split
  · exact h.modTrunk _
  · exact (h.modTrunk _).drainTest
  · exact h.modTrunk _
  · exact h

end State.TableSound
end Sys2Proof.Machine
end

section
/-! SUPPORT. What a reader of fields gives, the image that it reads, and the record that an accepted image makes (R24 to R27,
R192). -/

namespace Sys2Proof.Machine

/-! ## What a reader gives -/

/-- A number of n bytes is below 256 to the n. -/
theorem ofBytes_lt (bs : List Byte) : ofBytes bs < 256 ^ bs.length := by
  induction bs with
  | nil => exact Nat.one_pos
  | cons b bs ih =>
    have hb : b.toNat < 256 := b.isLt
    rw [ofBytes_cons, List.length_cons, Nat.pow_succ]
    nlinarith

/-- Every value that the reader gives satisfies this. -/
def Reader.Gives {α : Type} (rd : Reader α) (P : α → Prop) : Prop := ∀ bs a rest, rd bs = some (a, rest) → P a

namespace Reader.Gives

variable {α β : Type} {rd : Reader α} {P : α → Prop} {Q : β → Prop}

theorem pure {a : α} (h : P a) : Gives (Pure.pure a) P := by
  rintro bs b rest hb
  cases hb
  exact h

theorem bind {f : α → Reader β} (h : Gives rd P) (hf : ∀ a, P a → Gives (f a) Q) : Gives (rd >>= f) Q := by
  intro bs b rest hb
  rw [Reader.bind_apply] at hb
  split at hb
  · cases hb
  · next x hx => exact hf x.1 (h bs x.1 x.2 hx) x.2 b rest hb

theorem any : Gives rd fun _ => True := fun _ _ _ _ => trivial

theorem nat (n : Nat) : Gives (Reader.nat n) (· < 256 ^ n) := by
  refine bind (P := fun bs => bs.length = n) (fun bs a rest ha => ?_) fun bs hbs => pure ?_
  · unfold Reader.bytes at ha
    split at ha
    · next hn =>
      cases ha
      exact List.length_take_of_le hn
    · cases ha
  · exact hbs ▸ ofBytes_lt bs

theorem many (h : Gives rd P) (n : Nat) : Gives (Reader.many rd n) fun xs => ∀ x ∈ xs, P x := by
  induction n with
  | zero => exact pure fun _ hx => absurd hx List.not_mem_nil
  | succ n ih => exact bind h fun a ha => bind ih fun xs hxs => pure (List.forall_mem_cons.2 ⟨ha, hxs⟩)

theorem list (h : Gives rd P) : Gives (Reader.list rd) fun xs => ∀ x ∈ xs, P x :=
  bind any fun n _ => h.many n

end Reader.Gives

/-- An image that is read fits its 32 bytes (R192). -/
theorem Reader.image_fits : Reader.image.Gives RawImage.fits := by
  have key : Reader.key.Gives fun k => k.kind < 256 ∧ k.value < 2 ^ 80 :=
    .bind (.nat 1) fun _ hkind => .bind (.nat 10) fun _ hvalue => .pure ⟨hkind, hvalue⟩
  exact .bind key fun _ ⟨hkind, hvalue⟩ => .bind (.nat 1) fun _ hcls => .bind (.nat 1) fun _ hallowance =>
    .bind (.nat 1) fun _ hhome => .bind (.nat 2) fun _ hzones => .bind (.nat 1) fun _ hflags =>
    .bind (.nat 3) fun _ hopens => .bind (.nat 3) fun _ hcloses => .bind (.nat 1) fun _ hstate =>
    .bind (.nat 1) fun _ hused => .bind (.nat 1) fun _ hreason => .bind (.nat 3) fun _ htime =>
    .bind (.nat 1) fun _ hbank => .bind (.nat 1) fun _ hlane => .bind (.nat 1) fun _ hzone =>
    .pure ⟨hkind, hvalue, hcls, hallowance, hhome, hzones, hflags, hopens, hcloses, hstate, hused, hreason, htime, hbank,
      hlane, hzone⟩

theorem Reader.fill_fits : Reader.fill.Gives fun f => ∀ x ∈ f.images, x.fits :=
  .bind .any fun _ _ => .bind Reader.image_fits.list fun _ hxs => .pure hxs

/-! ## Images and the records they make (R24 to R27) -/

/-- An image that passes the checks of R24 is the accepted one, of codes in their lists. -/
theorem RawImage.check_ok {x : RawImage} {i : Image} (h : x.check = .ok i) :
    ∃ k c home g, x.keyOf = some k ∧ classOf x.cls = some c ∧ toBank x.home = some home ∧ x.givenOf = some g ∧
      x.zones ≠ 0 ∧ x.badWindow = false ∧ i = x.accepted k c home g := by
  unfold RawImage.check at h
  split at h
  · next k c home g hk hc hhome hg =>
    split at h
    · cases h
    · next hzones =>
      split at h
      · cases h
      · next hwindow =>
        cases h
        exact ⟨k, c, home, g, hk, hc, hhome, hg, hzones, by simpa using hwindow, rfl⟩
  · cases h

/-- The state that an image gives is never HELD (R24). -/
theorem RawImage.givenOf_ne_held {x : RawImage} {g : GivenState} (h : x.givenOf = some (some g)) (y : Hold) :
    g.state ≠ .held y := by
  unfold RawImage.givenOf at h
  split at h
  · split at h
    · next st last hst _ =>
      cases h
      rintro rfl
      unfold RawImage.stateOf at hst
      split at hst
      · split at hst <;> cases hst
      · simp at hst
    · cases h
  · cases h

theorem RawImage.givenOf_used {x : RawImage} {g : GivenState} (h : x.givenOf = some (some g)) : g.used = x.used := by
  unfold RawImage.givenOf at h
  split at h
  · split at h
    · cases h
      rfl
    · cases h
  · cases h

/-- The allowance that an image applies (R18, R24). -/
theorem allowanceOf_mem (c : TicketClass) (a : Nat) :
    1 ≤ allowanceOf c a ∧ allowanceOf c a ≤ 15 ∧ (c = .single → allowanceOf c a = 1) := by
  unfold allowanceOf
  split
  · exact ⟨le_rfl, by decide, fun _ => rfl⟩
  · next hc => exact ⟨le_clamp 1 15 a (by decide), clamp_le 1 15 a (by decide), fun h => absurd h hc⟩

theorem TicketClass.isStaff_iff (c : TicketClass) : c.isStaff = true ↔ c = .staff := by
  cases c <;> simp [TicketClass.isStaff]

/-- The used count that an image applies (R18, R24, R26). -/
theorem usedOf_mem {c : TicketClass} {a u : Nat} (hu : u ≤ 255) :
    usedOf c a u ≤ 255 ∧ (c ≠ .staff → usedOf c a u ≤ a) := by
  unfold usedOf
  split
  · next hc => exact ⟨hu, fun hn => absurd ((TicketClass.isStaff_iff c).1 hc) hn⟩
  · omega

/-- A record found comes out of an upsert with its dynamic fields kept, or as the image makes it new (R26). -/
theorem Image.replace_eq (i : Image) (r : Record) :
    i.replace r = i.reload r ∨ i.replace r = { i.newRecord with key := r.key } := by
  unfold Image.replace
  split
  · exact .inl rfl
  · exact .inl rfl
  · next hg _ => exact .inr (by simp [Image.newRecord, Image.reload, hg])

@[simp] theorem Image.replace_key (i : Image) (r : Record) : (i.replace r).key = r.key := by
  rcases i.replace_eq r with h | h <;> rw [h]
  rfl

/-- The record found after an upsert keeps its ranges (R26). -/
theorem Image.replace_inRange {i : Image} {r : Record} (hi : i.newRecord.inRange) (hr : r.inRange) :
    (i.replace r).inRange := by
  rcases i.replace_eq r with h | h <;> rw [h]
  · obtain ⟨h1, h15, hsingle, -, -, hzones, hwindow⟩ := hi
    obtain ⟨-, -, -, h255, -⟩ := hr
    obtain ⟨hu255, hused⟩ := usedOf_mem (c := i.cls) (a := i.allowance) h255
    exact ⟨h1, h15, hsingle, hu255, hused, hzones, hwindow⟩
  · exact hi

/-- What R24 and R192 make of an image that the Entitlement Table takes: the record it makes is in its ranges, where the
bytes bound its numbers, and the state that it gives is not HELD. -/
theorem RawImage.newRecord_inRange {x : RawImage} {i : Image} (h : x.check = .ok i) (hx : x.fits) : i.newRecord.inRange := by
  obtain ⟨k, c, home, g, -, -, -, hg, hzones, hwindow, rfl⟩ := x.check_ok h
  obtain ⟨-, -, -, -, -, hzones16, -, -, -, -, hused8, -⟩ := hx
  obtain ⟨h1, h15, hsingle⟩ := allowanceOf_mem c x.allowance
  have hu : ((x.accepted k c home g).newRecord.used ≤ 255 ∧
      (c ≠ .staff → (x.accepted k c home g).newRecord.used ≤ allowanceOf c x.allowance)) := by
    cases g with
    | none => exact ⟨Nat.zero_le _, fun _ => Nat.zero_le _⟩
    | some g =>
      have := x.givenOf_used hg
      exact usedOf_mem (u := g.used) (by omega)
  refine ⟨h1, h15, hsingle, hu.1, hu.2, fun h0 => ?_, fun w hw => ?_⟩
  · have := congrArg BitVec.toNat h0
    simp [RawImage.accepted, Image.newRecord] at this
    omega
  · simp only [RawImage.accepted, Image.newRecord, Option.ite_none_right_eq_some] at hw
    obtain ⟨hflag, hw⟩ := hw
    cases hw
    simp only [RawImage.badWindow, hflag, Bool.true_and, Bool.or_eq_false_iff, decide_eq_false_iff_not, not_le] at hwindow
    obtain ⟨⟨⟨hdiffer, hopens⟩, hcloses⟩, -⟩ := hwindow
    exact ⟨hopens, hcloses, hdiffer⟩

theorem RawImage.newRecord_ne_held {x : RawImage} {i : Image} (h : x.check = .ok i) (y : Hold) :
    i.newRecord.state ≠ .held y := by
  obtain ⟨k, c, home, g, -, -, -, hg, -, -, rfl⟩ := x.check_ok h
  cases g with
  | none => exact nofun
  | some g => exact x.givenOf_ne_held hg y

/-- A record that a lane holds after an upsert was so before (R26). -/
theorem Image.heldByLane_replace {i : Image} {r : Record} {l : LaneNo} (hi : ∀ y, i.newRecord.state ≠ .held y)
    (h : (i.replace r).heldByLane l = true) : r.heldByLane l = true := by
  rcases i.replace_eq r with he | he <;> rw [he] at h
  · exact h
  · exact absurd h (Bool.eq_false_iff.1 (Record.heldByLane_of_state hi l))

end Sys2Proof.Machine
end

section
/-! SUPPORT. What keeps the Entitlement Table sound: the requests about the bank, its policy, its lanes and its settings. -/

namespace Sys2Proof.Machine
namespace State.TableSound

variable {A B : Prop} {s : State} {l : LaneNo} {k : Key}

/-! ## Management requests: the frame of work (R173 to R175) -/

theorem beginRequest (h : s.TableSound A B) : s.beginRequest.TableSound A B := h.modMge _

theorem setPhase (h : s.TableSound A B) (p : MgePhase) : (s.setPhase p).TableSound A B := h.modMge _

theorem serveWith {α : Type} {rd : Reader α} {P : α → Prop} (h : s.TableSound A B) (hrd : rd.Gives P) (code : Nat) (m : Taken)
    {act : ReplyHead → α → State → State} (ha : ∀ x a t, P a → t.TableSound A B → (act x a t).TableSound A B) :
    (s.serveWith code m rd act).TableSound A B := by
  unfold State.serveWith
  split
  · exact h
  · refine ite ?_ h
    dsimp only
    split
    · exact h.beginRequest.sendReply _ _
    · next hx => exact ite (ha _ _ _ (hrd _ _ _ hx) h.beginRequest) (h.beginRequest.sendReply _ _)

/-- A request whose fields are as they come. -/
theorem serve {α : Type} (h : s.TableSound A B) (code : Nat) (m : Taken) (rd : Reader α) {f : α → State → State × Reply}
    (hf : ∀ a t, t.TableSound A B → (f a t).1.TableSound A B) : (s.serve code m rd f).TableSound A B :=
  h.serveWith Reader.Gives.any code m fun _ a t _ ht => (hf a t ht).sendReply _ _

/-- A request whose fields are read within their sizes. -/
theorem serveGiven {α : Type} {rd : Reader α} {P : α → Prop} (h : s.TableSound A B) (hrd : rd.Gives P) (code : Nat)
    (m : Taken) {f : α → State → State × Reply} (hf : ∀ a t, P a → t.TableSound A B → (f a t).1.TableSound A B) :
    (s.serve code m rd f).TableSound A B :=
  h.serveWith hrd code m fun _ a t hp ht => (hf a t hp ht).sendReply _ _

theorem serveUnknown (h : s.TableSound A B) : s.serveUnknown.TableSound A B := by
  unfold State.serveUnknown
  split
  · exact h
  · split
    · exact h.beginRequest.sendReply _ _
    · exact ite h ((h.beginRequest.errorOccurs _ _ _).sendReply _ _)

theorem placeReply (h : s.TableSound A B) : s.placeReply.TableSound A B := by
  unfold State.placeReply
  split
  · exact h.same
  · exact h

/-- The state of a request's result. -/
theorem pair {β : Type} {a : State} (h : a.TableSound A B) (b : β) : (a, b).1.TableSound A B := h

/-! ## The bank, its clock, its schedule and its mode (R151 to R160, R169) -/

theorem doAssignBank (h : s.TableSound A B) (n : Nat) : (doAssignBank n s).1.TableSound A B := by
  unfold Machine.doAssignBank
  split
  · exact pair (flagging { h with }) _
  · exact h

theorem doSetEvent (h : s.TableSound A B) (n : Nat) : (doSetEvent n s).1.TableSound A B := by
  unfold Machine.doSetEvent
  split
  · exact pair (h.modBcm _) _
  · split
    · exact h
    · exact pair (h.modBcm _) _

theorem doSetClock (h : s.TableSound A B) (v : Nat) : (doSetClock v s).1.TableSound A B := by
  unfold Machine.doSetClock
  split
  · exact h
  · exact pair ((h.modBcm _).scheduleAt v) _

theorem doSetSchedule (h : s.TableSound A B) (f : ScheduleFields) : (doSetSchedule f s).1.TableSound A B := by
  unfold Machine.doSetSchedule
  dsimp only
  split
  · split
    · exact h
    · exact pair (h.modBcm _) _
  · exact h

theorem requestOpen (h : s.TableSound A B) (cs : List Cause) : (s.requestOpen cs).1.TableSound A B := by
  unfold State.requestOpen
  split
  · exact h
  · split
    · exact h
    · exact pair (h.enterOpen cs).settle _

theorem requestDormant (h : s.TableSound A B) (m : RestMode) : (s.requestDormant m).1.TableSound A B := by
  unfold State.requestDormant
  split
  · exact h
  · exact pair (h.enterDormant m) _

theorem recordDormant (h : s.TableSound A B) (m : RestMode) : (s.recordDormant m).1.TableSound A B :=
  pair (h.modBcm _) _

theorem requestMode (h : s.TableSound A B) (m : BankMode) : (s.requestMode m).1.TableSound A B := by
  unfold State.requestMode
  split
  · exact h
  · exact h
  · exact h
  · exact h
  · exact h.requestOpen _
  · exact h.requestDormant _
  · exact h.requestDormant _
  · exact pair (h.enterClosing _) _
  · exact pair (h.enterOpen _).settle _
  · exact h.recordDormant _
  · exact h.recordDormant _
  · exact pair h.leaveStandby _
  · exact h.requestOpen _
  · exact h.requestDormant _
  · exact h

theorem doSetBankMode (h : s.TableSound A B) (n : Nat) : (doSetBankMode n s).1.TableSound A B := by
  unfold Machine.doSetBankMode
  split
  · exact h.requestMode _
  · exact h

theorem doSetWakePattern (h : s.TableSound A B) (f : WakeFields) : (doSetWakePattern f s).1.TableSound A B := by
  unfold Machine.doSetWakePattern
  split
  · exact h
  · exact pair (h.modBcm _) _

/-! ## The Policy Store and the lanes (R3, R5, R76, R90 to R95, R130, R134) -/

theorem recountLane (h : s.TableSound A B) (l : LaneNo) : (s.recountLane l).TableSound A B := by
  unfold State.recountLane
  split
  · exact h.tryIdle l
  · next hs => exact ite (h.restIdle hs) h
  · exact h

theorem changeCount (h : s.TableSound A B) (np : Nat) : (s.changeCount np).TableSound A B :=
  have ht := h.modPolicy (Policy.recount np)
  ((ite (ht.errorOccurs _ _ _) ht).eachLane fun l _ ht => ht.recountLane l).settle

theorem doSetProfileCount (h : s.TableSound A B) (n : Nat) : (doSetProfileCount n s).1.TableSound A B :=
  pair (ite h (h.changeCount _)) _

theorem storeProfile (h : s.TableSound A B) (p : Fin 8) (x : Profile) : (s.storeProfile p x).TableSound A B :=
  ((h.modPolicy _).eachLane fun l _ ht => ite (ht.readopt l) ht).settle

theorem doWriteProfile (h : s.TableSound A B) (f : ProfileFields) : (doWriteProfile f s).1.TableSound A B := by
  unfold Machine.doWriteProfile
  split
  · exact h
  · split
    · exact h
    · split
      · exact pair (h.storeProfile _ _) _
      · exact h

theorem setTemplate (h : s.TableSound A B) (i : Fin 16) (t : Option Template) : (s.setTemplate i t).TableSound A B :=
  h.modPolicy _

theorem loadTemplate (h : s.TableSound A B) (i : Fin 16) (f : TemplateFields) : (s.loadTemplate i f).1.TableSound A B := by
  unfold State.loadTemplate
  split
  · exact h
  · split
    · exact h
    · exact pair (h.setTemplate i _) _

theorem doWriteTemplate (h : s.TableSound A B) (r : TemplateRequest) : (doWriteTemplate r s).1.TableSound A B := by
  unfold Machine.doWriteTemplate
  split
  · split
    · exact h
    · split
      · exact h.loadTemplate _ _
      · split
        · exact pair (h.setTemplate _ _) _
        · exact h
  · exact h

theorem choose (h : s.TableSound A B) (l : LaneNo) (p : Fin 8) : (s.choose l p).TableSound A B :=
  ite h ((h.modLane fun _ hk => hk).readopt l).settle

theorem doSetLaneProfileChoice (h : s.TableSound A B) (f : ChoiceFields) : (doSetLaneProfileChoice f s).1.TableSound A B := by
  unfold Machine.doSetLaneProfileChoice
  split
  · exact pair (h.choose _ _) _
  · exact h

theorem requestCombine (h : s.TableSound A B) (l : LaneNo) (f : Option Nat) (c : Bool) :
    (s.requestCombine l f c).TableSound A B := by
  unfold State.requestCombine
  split
  · exact h.withPairs _
  · exact h

theorem commandLane (h : s.TableSound A B) (l : LaneNo) : (s.commandLane l).TableSound A B :=
  ite ((h.modLane fun _ hk => hk).queueMode l) h

theorem controlLane (h : s.TableSound A B) (l : LaneNo) (f : ControlFields) (c : ControlImage) (reset : Bool) :
    (s.controlLane l f c reset).TableSound A B := by
  have ht := ((h.modLane (l := l) (f := fun n => { n with control := c }) fun _ hk => hk).requestCombine l f.combine
    c.combine).commandLane l
  have hu := (ite (c := (s.lane l).control.override ≠ c.override ∨ (s.lane l).control.power ≠ c.power) (ht.readopt l)
    ht).settle
  exact ite (hu.resetLane l).settle hu

theorem doSetLaneControl (h : s.TableSound A B) (f : ControlFields) : (doSetLaneControl f s).1.TableSound A B := by
  unfold Machine.doSetLaneControl
  split
  · exact h
  · split
    · exact pair (h.controlLane _ f _ _) _
    · exact h

theorem beginAccess (h : s.TableSound A B) (x : ReplyHead) (a : Access) : (s.beginAccess x a).TableSound A B :=
  ite (h.endAccess x _ none) ((h.modSlot _ _).setPhase _)

theorem actLaneParameterAccess (h : s.TableSound A B) (x : ReplyHead) (f : AccessFields) :
    (actLaneParameterAccess x f s).TableSound A B := by
  unfold Machine.actLaneParameterAccess
  split
  · exact ite (h.sendReply _ _) (h.beginAccess _ _)
  · exact h.sendReply _ _

theorem accessTimeout (h : s.TableSound A B) : s.accessTimeout.TableSound A B := by
  unfold State.accessTimeout
  split
  · exact ite (h.endAccess _ _ none) h
  · exact h

theorem doLaneLinkTest (h : s.TableSound A B) (f : TestFields) : (doLaneLinkTest f s).1.TableSound A B := by
  unfold Machine.doLaneLinkTest
  split
  · exact h
  · exact pair (h.modLink _) _

theorem doSetLinkHeader (h : s.TableSound A B) (f : HeaderFields) : (doSetLinkHeader f s).1.TableSound A B := by
  unfold Machine.doSetLinkHeader
  dsimp only
  split
  · exact pair (h.modLink _) _
  · exact h

theorem doClearCounts (h : s.TableSound A B) (n : Nat) : (doClearCounts n s).1.TableSound A B := by
  unfold Machine.doClearCounts
  split
  · exact h
  · exact pair (h.eachLane fun l _ ht => ite (ht.modLane fun _ hk => hk) ht) _

/-! ## Zones, peers, reporting, events, errors and the log (R67 to R69, R99, R147, R162, R166, R177, R181, R187) -/

theorem modZone (h : s.TableSound A B) (z : ZoneNo) (f : Zone → Zone) : (s.modZone z f).TableSound A B := h.same

theorem doSetZoneQuota (h : s.TableSound A B) (f : QuotaFields) : (doSetZoneQuota f s).1.TableSound A B := by
  unfold Machine.doSetZoneQuota
  split
  · exact h
  · exact pair (ite (h.modZone _ _) h.same) _

theorem doResetZoneCounts (h : s.TableSound A B) (n : Nat) : (doResetZoneCounts n s).1.TableSound A B := by
  unfold Machine.doResetZoneCounts
  split
  · exact h
  · exact pair (h.foldl (fun _ z ht => ite (ht.modZone z _) ht) _) _

theorem doSetPeer (h : s.TableSound A B) (f : PeerFields) : (doSetPeer f s).1.TableSound A B := by
  unfold Machine.doSetPeer
  split
  · exact h
  · split
    · exact h
    · exact pair h.same _

theorem doReadLog (h : s.TableSound A B) (f : LogFields) : (doReadLog f s).1.TableSound A B := by
  unfold Machine.doReadLog
  split
  · split
    · exact pair (h.endAudit _ _) _
    · exact h
  · split
    · exact h
    · exact pair (h.modLog _) _

theorem setLevels (h : s.TableSound A B) (f : LevelFields) : (s.setLevels f).TableSound A B := by
  have ht : ((s.modEvu f.applied).offerNew s.evu).TableSound A B :=
    (h.modEvu f.applied).foldl (fun _ c ht => ite ht.same ht) _
  exact ite ht.same ht

theorem doSetEventLevels (h : s.TableSound A B) (f : LevelFields) : (doSetEventLevels f s).1.TableSound A B := by
  unfold Machine.doSetEventLevels
  split
  · split
    · exact h
    · exact pair (h.setLevels f) _
  · exact pair (h.setLevels f) _

theorem doClearErrors (h : s.TableSound A B) (n : Nat) : (doClearErrors n s).1.TableSound A B := by
  unfold Machine.doClearErrors
  split
  · exact h
  · exact pair (h.modEvu _) _

theorem doClearEvents (h : s.TableSound A B) (n : Nat) : (doClearEvents n s).1.TableSound A B := by
  unfold Machine.doClearEvents
  split
  · exact h
  · exact pair (h.modEvu _) _

theorem doSetReporting (h : s.TableSound A B) (f : ReportingFields) : (doSetReporting f s).1.TableSound A B := by
  unfold Machine.doSetReporting
  split
  · exact pair ((((h.modLog _).modBcm _).modTrunk _).modEvu _).drainTest _
  · exact h

end State.TableSound
end Sys2Proof.Machine
end

section
/-! SUPPORT. What keeps the Entitlement Table sound: the requests about the table, the clock, the frames received; then
every command and every step. -/

namespace Sys2Proof.Machine

/-- Some record of the table is HELD (R17, R31). -/
theorem Table.anyHeld_iff (t : Table) : t.anyHeld = true ↔ ∃ x ∈ t.slots, ∃ h, x.2.state = .held h := by
  simp only [Table.anyHeld, List.any_eq_true]
  refine exists_congr fun x => and_congr_right fun _ => ?_
  split
  · next h hs => exact iff_of_true rfl ⟨h, hs⟩
  · next hs => exact iff_of_false Bool.false_ne_true fun ⟨h, hx⟩ => hs h hx

/-- A table without records obeys R16. -/
theorem Table.ok_empty {t : Table} (hB : t.buckets ∈ Config.bucketCounts) (h1 : 1 ≤ t.probe) (h8 : t.probe ≤ 8)
    (hs : t.slots = []) : t.ok :=
  ⟨hB, h1, h8, fun _ => by unfold Table.wf Table.sorted; simp [hs]⟩

theorem Table.mem_probeSlots_of_freeSlot {t : Table} {k : Key} {n : Nat} (h : t.freeSlot k = some n) : n ∈ t.probeSlots k :=
  List.mem_of_find?_eq_some h

/-- A revoke leaves a HELD record with its holder (R28). -/
theorem Record.heldByLane_revoke {e : Fin 16} {r : Record} {l : LaneNo}
    (h : (r.revoke e).heldByLane l = true) : r.heldByLane l = true := by
  unfold Record.heldByLane Record.revoke at *
  cases hs : r.state <;> simp_all

namespace State.TableSound

variable {A B : Prop} {s : State} {l : LaneNo} {k : Key}

/-! ## The Entitlement Table (R17, R23 to R31) -/

theorem empty (ok : s.table.ok) (hs : s.table.slots = []) : s.TableSound A B where
  ok := ok
  records _ x hx := by simp [hs] at hx
  holds _ x hx := by simp [hs] at hx

/-- A sweep begins in a table without a HELD record, whatever its geometry (R17, R31). -/
theorem sweeping {t : Table} (h : s.TableSound A B) (hn : s.table.anyHeld = false) (hB : t.buckets ∈ Config.bucketCounts)
    (h1 : 1 ≤ t.probe) (h8 : t.probe ≤ 8) (hslots : t.slots = s.table.slots) (hsweep : t.sweeping = true) :
    ({ s with table := t } : State).TableSound A B where
  ok := ⟨hB, h1, h8, fun hf => by simp [hsweep] at hf⟩
  records hA x hx := h.records hA x (hslots ▸ hx)
  holds _ x hx y _ _ hy _ := by
    have := (s.table.anyHeld_iff).2 ⟨x, hslots ▸ hx, y, hy⟩
    simp [hn] at this

theorem beginSweep (h : s.TableSound A B) (hn : s.table.anyHeld = false) (x : ReplyHead) (p : Option Nat) :
    (s.beginSweep x p).TableSound A B := by
  obtain ⟨hB, h1, h8, -⟩ := h.ok
  exact (h.sweeping (t := { s.table with sweeping := true }) hn hB h1 h8 rfl rfl).setPhase _

theorem endSweep (h : s.TableSound A B) : s.endSweep.TableSound A B := by
  unfold State.endSweep
  split
  · obtain ⟨hB, h1, h8, -⟩ := h.ok
    exact (empty (s := s.modTable Table.swept) (Table.ok_empty hB h1 h8 rfl) rfl).sendReply _ _
  · exact h

theorem actSetTableGeometry (h : s.TableSound A B) (x : ReplyHead) (f : GeometryFields) :
    (actSetTableGeometry x f s).TableSound A B := by
  unfold Machine.actSetTableGeometry
  split
  · exact h.sendReply _ _
  · next hB =>
    split
    · exact h.sendReply _ _
    · next hn =>
      have hlow := le_clamp 1 8 f.probe (by decide)
      have hhigh := clamp_le 1 8 f.probe (by decide)
      exact (h.sweeping (t := { s.table with buckets := f.buckets, probe := (clamped 1 8 f.probe).value, sweeping := true })
        (by simpa using hn) (by simpa using hB) hlow hhigh rfl rfl).setPhase _

theorem actClearTable (h : s.TableSound A B) (x : ReplyHead) (u : Unit) : (actClearTable x u s).TableSound A B :=
  iteInduction (fun _ => h.sendReply _ _) fun hn => h.beginSweep (by simpa using hn) _ _

theorem eachEntry {α : Type} (h : s.TableSound A B) {f : α → State → State × EntryResult} (xs : List α)
    (hf : ∀ a ∈ xs, ∀ t, t.TableSound A B → (f a t).1.TableSound A B) : (s.eachEntry f xs).1.TableSound A B := by
  induction xs generalizing s with
  | nil => exact h
  | cons a xs ih =>
    obtain ⟨ha, hxs⟩ := List.forall_mem_cons.1 hf
    exact ih (ha s h) hxs

theorem runList {α : Type} (h : s.TableSound A B) (xs : List α) {f : α → State → State × EntryResult}
    (hf : ∀ a ∈ xs, ∀ t, t.TableSound A B → (f a t).1.TableSound A B) : (s.runList xs f).1.TableSound A B := by
  unfold State.runList
  split
  · exact h
  · exact pair (h.eachEntry xs hf) _

/-- A slot of the probe sequence takes a record that an image makes new, where its key stands in no other slot (R25, R27). -/
theorem putNew {x : RawImage} {i : Image} {n : Nat} (h : s.TableSound A B) (hx : x.fits) (hi : x.check = .ok i)
    (hp : n ∈ s.table.probeSlots i.key) (hk : ∀ m q, s.lookup i.key = some (m, q) → m = n) :
    (s.putRecord n i.newRecord).TableSound A B :=
  h.put hp hk (fun _ => x.newRecord_inRange hi hx) fun l hl => by
    simp [Record.heldByLane_of_state (x.newRecord_ne_held hi) l] at hl

theorem upsertOne {x : RawImage} (h : s.TableSound A B) (hx : x.fits) : (s.upsertOne x).1.TableSound A B := by
  unfold State.upsertOne
  split
  · exact h
  · next i hi =>
    unfold State.upsertImage
    split
    · next hk =>
      exact pair (h.replace hk (i.replace_key _) (Image.replace_inRange (x.newRecord_inRange hi hx))
        fun _ hl => Image.heldByLane_replace (x.newRecord_ne_held hi) hl) _
    · next hk =>
      split
      · next hn =>
        exact pair (h.putNew hx hi (Table.mem_probeSlots_of_freeSlot hn) fun m q hm => by simp [hk] at hm) _
      · exact pair (h.errorOccurs _ _ _) _

theorem fillOne {e : Nat × RawImage} (h : s.TableSound A B) (hx : e.2.fits) : (s.fillOne e).1.TableSound A B := by
  unfold State.fillOne
  split
  · exact h
  · next i hi =>
    unfold State.fillImage
    dsimp only
    split
    · exact h
    · next hrange =>
      simp only [not_or, not_not] at hrange
      have hp := (Table.mem_probeSlots e.1).2 hrange.2
      split
      · exact h
      · split
        · next m _ hk =>
          split
          · next hm =>
            refine pair (h.putNew hx hi hp fun m' q hm' => ?_) _
            cases hk.symm.trans hm'
            exact hm
          · exact h
        · next hk => exact pair (h.putNew hx hi hp fun m q hm => by simp [hk] at hm) _

theorem doFillSlots {f : FillFields} (h : s.TableSound A B) (hf : ∀ x ∈ f.images, x.fits) :
    (doFillSlots f s).1.TableSound A B := by
  refine h.runList _ fun e he t ht => ht.fillOne ?_
  obtain ⟨y, hy, rfl⟩ := List.mem_map.1 he
  exact hf _ (List.fst_mem_of_mem_zipIdx hy)

theorem revokeOne (h : s.TableSound A B) (e : Fin 16) (k : Key) : (s.revokeOne e k).1.TableSound A B := by
  unfold State.revokeOne
  split
  · exact h
  · next r hk => exact pair (h.replace (q := r.revoke e) hk rfl (fun hr => hr.of_state rfl) fun _ => Record.heldByLane_revoke) _

theorem doRevokeRecords (h : s.TableSound A B) (f : RevokeFields) : (doRevokeRecords f s).1.TableSound A B := by
  unfold Machine.doRevokeRecords
  split
  · exact h
  · split
    · exact h.runList _ fun k _ _ ht => ht.revokeOne _ k
    · exact h

theorem purgeOne (h : s.TableSound A B) (k : Key) : (s.purgeOne k).1.TableSound A B := by
  unfold State.purgeOne
  split
  · exact h
  · split
    · exact h
    · exact pair (h.free _) _

theorem doPurgeRecords (h : s.TableSound A B) (ks : List RawKey) : (doPurgeRecords ks s).1.TableSound A B := by
  unfold Machine.doPurgeRecords
  split
  · exact h
  · exact h.runList _ fun k _ _ ht => ht.purgeOne k

theorem doReadRecord (h : s.TableSound A B) (k : RawKey) : (doReadRecord k s).1.TableSound A B := by
  unfold Machine.doReadRecord
  split
  · exact h
  · exact pair h.drawn _

/-! ## The clock, the surge estimator and power-on (R151, R161, R163) -/

theorem advanceClock (h : s.TableSound A B) : s.advanceClock.TableSound A B := by
  unfold State.advanceClock
  split
  · exact h
  · next t _ =>
    have hu := (h.reach s.bcm.tick).modBcm fun b => { b with clock := some (nextTenth t), tick := b.tick + 100 }
    exact (ite (hu.raise _ _) hu).scheduleAt _

theorem updateSurge (h : s.TableSound A B) : s.updateSurge.TableSound A B := by
  have ht := flagging ((h.reach s.bcm.surge.due).modBcm fun b => { b with surge := b.surge.updated })
  unfold State.updateSurge State.surgeEvents
  split
  · exact (ht.raise _ _).drainTest
  · exact (ht.raise _ _).drainTest
  · exact ht

theorem powerUp (s : State) : s.powerUp.TableSound A B :=
  empty (Table.ok_empty (t := Table.initial) (by decide) (by decide) (by decide) rfl) rfl

/-! ## Frames received (R165 to R168) -/

theorem takeWake (h : s.TableSound A B) (payload : List Byte) : (s.takeWake payload).TableSound A B :=
  ite (leaveDeep (h.modTrunk _)) (h.modTrunk _)

theorem takeRequest (h : s.TableSound A B) (f : FrameFields) (lead : List Byte) : (s.takeRequest f lead).TableSound A B :=
  ite (h.modMge _) (h.errorOccurs _ _ _)

theorem byKind (h : s.TableSound A B) (hq : B → s.QueriesReady) (k : FrameKind) (f : FrameFields) (lead : List Byte) :
    (s.byKind k f lead).TableSound A B := by
  have hu : s.countUnwanted.TableSound A B := h.modTrunk _
  have ht : s.countTaken.TableSound A B := h.modTrunk _
  cases k with
  | request => exact ite (ht.takeRequest f lead) hu
  | query | answer | withdrawNotice | reconcileNotice | entryNotice | exitNotice =>
    exact ite (ht.takePeer hq _ _ _ _ _) hu
  | wake | reply | tally | event | status | audit => exact hu

theorem receive (h : s.TableSound A B) (hq : B → s.QueriesReady) (bs : List Byte) : (s.receive bs).TableSound A B := by
  unfold State.receive
  split
  · exact h.errorOccurs _ _ _
  · exact ite (h.modTrunk _) (ite (ite (h.takeWake _) (h.modTrunk _)) (h.byKind hq _ _ _))

end State.TableSound

/-! ## Every command and every step -/

/-- Every command answers a next state, its table sound. -/
theorem State.TableSound.exec {A B : Prop} {s : State} (h : s.TableSound A B) (hq : B → s.QueriesReady) (c : Instr) :
    ∃ t, exec c s = .next t ∧ t.TableSound A B := by
  cases c with
  | powerOn => exact ⟨_, rfl, powerUp s⟩
  | requestFrame | admissionQuery | answer | entryNotice | exitNotice | withdrawNotice | reconcileNotice | wakeFrame
  | unwantedFrame | damagedFrame => exact ⟨_, rfl, h.receive hq _⟩
  | identify => exact ⟨_, rfl, h.serve _ _ _ fun _ _ ht => ht⟩
  | assignBank => exact ⟨_, rfl, h.serve _ _ _ fun n _ ht => ht.doAssignBank n⟩
  | setEvent => exact ⟨_, rfl, h.serve _ _ _ fun n _ ht => ht.doSetEvent n⟩
  | setClock => exact ⟨_, rfl, h.serve _ _ _ fun v _ ht => ht.doSetClock v⟩
  | setSchedule => exact ⟨_, rfl, h.serve _ _ _ fun f _ ht => ht.doSetSchedule f⟩
  | setBankMode => exact ⟨_, rfl, h.serve _ _ _ fun n _ ht => ht.doSetBankMode n⟩
  | bankReset => exact ⟨_, rfl, h.serve _ _ _ fun _ _ ht => pair ht.doBankReset _⟩
  | setTableGeometry => exact ⟨_, rfl, h.serveWith .any _ _ fun x f _ _ ht => ht.actSetTableGeometry x f⟩
  | upsertRecords =>
    exact ⟨_, rfl, h.serveGiven Reader.image_fits.list _ _ fun rs _ hrs ht =>
      ht.runList rs fun r hr _ hu => hu.upsertOne (hrs r hr)⟩
  | fillSlots => exact ⟨_, rfl, h.serveGiven Reader.fill_fits _ _ fun _ _ hf ht => ht.doFillSlots hf⟩
  | revokeRecords => exact ⟨_, rfl, h.serve _ _ _ fun f _ ht => ht.doRevokeRecords f⟩
  | purgeRecords => exact ⟨_, rfl, h.serve _ _ _ fun ks _ ht => ht.doPurgeRecords ks⟩
  | readRecord => exact ⟨_, rfl, h.serve _ _ _ fun k _ ht => ht.doReadRecord k⟩
  | clearTable => exact ⟨_, rfl, h.serveWith .any _ _ fun x u _ _ ht => ht.actClearTable x u⟩
  | sweepEnd => exact ⟨_, rfl, h.endSweep⟩
  | setProfileCount => exact ⟨_, rfl, h.serve _ _ _ fun n _ ht => ht.doSetProfileCount n⟩
  | writeProfile => exact ⟨_, rfl, h.serve _ _ _ fun f _ ht => ht.doWriteProfile f⟩
  | writeTemplate => exact ⟨_, rfl, h.serve _ _ _ fun r _ ht => ht.doWriteTemplate r⟩
  | setLaneProfileChoice => exact ⟨_, rfl, h.serve _ _ _ fun f _ ht => ht.doSetLaneProfileChoice f⟩
  | setLaneControl => exact ⟨_, rfl, h.serve _ _ _ fun f _ ht => ht.doSetLaneControl f⟩
  | laneParameterAccess => exact ⟨_, rfl, h.serveWith .any _ _ fun x f _ _ ht => ht.actLaneParameterAccess x f⟩
  | laneAccessTimeout => exact ⟨_, rfl, h.accessTimeout⟩
  | laneLinkTest => exact ⟨_, rfl, h.serve _ _ _ fun f _ ht => ht.doLaneLinkTest f⟩
  | setLinkHeader => exact ⟨_, rfl, h.serve _ _ _ fun f _ ht => ht.doSetLinkHeader f⟩
  | setZoneQuota => exact ⟨_, rfl, h.serve _ _ _ fun f _ ht => ht.doSetZoneQuota f⟩
  | resetZoneCounts => exact ⟨_, rfl, h.serve _ _ _ fun n _ ht => ht.doResetZoneCounts n⟩
  | readZones => exact ⟨_, rfl, h.serve _ _ _ fun _ _ ht => ht⟩
  | setPeer => exact ⟨_, rfl, h.serve _ _ _ fun f _ ht => ht.doSetPeer f⟩
  | setReporting => exact ⟨_, rfl, h.serve _ _ _ fun f _ ht => ht.doSetReporting f⟩
  | setEventLevels => exact ⟨_, rfl, h.serve _ _ _ fun f _ ht => ht.doSetEventLevels f⟩
  | setWakePattern => exact ⟨_, rfl, h.serve _ _ _ fun f _ ht => ht.doSetWakePattern f⟩
  | readLog => exact ⟨_, rfl, h.serve _ _ _ fun f _ ht => ht.doReadLog f⟩
  | readStatus | readErrors => exact ⟨_, rfl, h.serve _ _ _ fun _ _ ht => ht.drawn⟩
  | clearErrors => exact ⟨_, rfl, h.serve _ _ _ fun n _ ht => ht.doClearErrors n⟩
  | clearEvents => exact ⟨_, rfl, h.serve _ _ _ fun n _ ht => ht.doClearEvents n⟩
  | clearCounts => exact ⟨_, rfl, h.serve _ _ _ fun n _ ht => ht.doClearCounts n⟩
  | unknownRequest => exact ⟨_, rfl, h.serveUnknown⟩
  | replyPlace => exact ⟨_, rfl, h.placeReply⟩
  | queryDeadlineExpiry l => exact ⟨_, rfl, (h.queryExpiry hq l).settle⟩
  | remoteHoldDeadline k => exact ⟨_, rfl, h.remoteExpiry k⟩
  | lapsedEntryExpiry tag => exact ⟨_, rfl, h.lapsedExpiry tag⟩
  | laneCycleStart => exact ⟨_, rfl, h.startCycle⟩
  | automaticHeader => exact ⟨_, rfl, h.sendAutomatic⟩
  | triggeredHeader => exact ⟨_, rfl, h.sendTriggered⟩
  | poll l | grantCommand l | refuseCommand l | referCommand l | lampCommand l | modeCommand l | parameterCommand l
  | repeatCommand l | testCommand l => exact ⟨_, rfl, h.sendIf l _⟩
  | nothingReport l n | presentationReport l n | passageReport l n | reverseReport l n | forcedReport l n
  | buttonReport l n | faultReport l n | helloReport l n | confirmReport l n | parameterAnswer l n | testEcho l n =>
    exact ⟨_, rfl, h.goodReply l n _⟩
  | missingReply l => exact ⟨_, rfl, h.noReply l⟩
  | garbledReply l bs => exact ⟨_, rfl, h.replyReceived l bs⟩
  | slotLoss l => exact ⟨_, rfl, h.slotLost l⟩
  | mateMarkClear l => exact ⟨_, rfl, h.clearMate l⟩
  | linkTestEnd => exact ⟨_, rfl, h.testEnded⟩
  | passWindowExpiry l => exact ⟨_, rfl, (h.passExpiry l).settle⟩
  | refusalDisplayExpiry l => exact ⟨_, rfl, (h.displayExpiry l).settle⟩
  | clockAdvance => exact ⟨_, rfl, h.advanceClock.settle⟩
  | surgeUpdate => exact ⟨_, rfl, h.updateSurge⟩
  | tallyHoldExpiry => exact ⟨_, rfl, h.holdExpiry⟩
  | tallyFrameBuild => exact ⟨_, rfl, ite h.buildTally h⟩
  | auditFrameBuild => exact ⟨_, rfl, by split; exacts [ite (h.buildAudit _) h, h]⟩
  | eventHoldoffExpiry => exact ⟨_, rfl, h.holdoffExpiry⟩
  | eventFramePlace => exact ⟨_, rfl, h.tryEvent⟩
  | statusIntervalExpiry => exact ⟨_, rfl, h.statusExpiry⟩
  | statusReportPlace => exact ⟨_, rfl, h.tryStatus⟩
  | trunkFrameSend => exact ⟨_, rfl, h.sendFrame⟩

/-- A step keeps the table sound. -/
theorem State.TableSound.step {A B : Prop} {s t : State} (h : s.TableSound A B) (hq : B → s.QueriesReady)
    (ht : step s = .next t) : t.TableSound A B := by
  unfold Machine.step at ht
  split at ht
  · cases ht
    exact h.same rfl rfl
  · next c rest _ =>
    have hs : { s with pending := rest }.TableSound A B := h.same rfl rfl
    obtain ⟨u, hu, hr⟩ := hs.exec hq c
    cases hu.symm.trans ht
    exact hr

/-- Settles O8: a traversal of the model's operations keeps the table's rules together with the ranges of its records, and,
where every query's lane may take a hold, together with the lanes' holds. -/
theorem tableStaysWellFormed : Obligations.TableStaysWellFormed := by
  refine ⟨fun s t ⟨hok, hrange⟩ ht => ?_, fun s t hok hq hfit hholds ht => ?_⟩
  · have h : s.TableSound True False := ⟨hok, fun _ => hrange, False.elim⟩
    have h' := h.step False.elim ht
    exact ⟨h'.ok, h'.records trivial⟩
  · have h : s.TableSound False True := ⟨hok, False.elim, fun _ => hholds⟩
    exact (h.step (fun _ => State.queriesReady_of_fit hq hfit) ht).holds trivial

end Sys2Proof.Machine
end

section
/-! SUPPORT. The check of a record image (R24), field by field. -/

namespace Sys2Proof.Machine

/-! ## The names that codes read -/

theorem classCode_of_classOf {n : Nat} {c : TicketClass} (h : classOf n = some c) : classCode c = n := by
  unfold classOf at h
  split at h <;> cases h <;> rfl

theorem classOf_eq_none_iff {n : Nat} : classOf n = none ↔ 4 ≤ n := by
  unfold classOf
  split <;> simp_all; omega

theorem restingCode_of_restingOf {n : Nat} {p : Resting} (h : restingOf n = some p) : restingCode p = n := by
  unfold restingOf at h
  split at h <;> cases h <;> rfl

theorem restingOf_eq_none_iff {n : Nat} : restingOf n = none ↔ n = 1 ∨ 5 ≤ n := by
  unfold restingOf
  split <;> simp_all; omega

theorem toBank_eq_none_iff {n : Nat} : toBank n = none ↔ 32 ≤ n := dite_eq_right_iff.trans (by simp)

theorem toLane_eq_none_iff {n : Nat} : toLane n = none ↔ 16 ≤ n := dite_eq_right_iff.trans (by simp)

theorem optional_toZone_eq_none_iff {n : Nat} : optionalOf toZone n = none ↔ 16 ≤ n ∧ n ≠ 255 := by
  unfold optionalOf toZone
  split <;> simp <;> omega

theorem val_of_toBank {n : Nat} {b : BankNo} (h : toBank n = some b) : b.val = n := by
  unfold toBank at h
  split at h <;> cases h
  rfl

theorem val_of_toLane {n : Nat} {l : LaneNo} (h : toLane n = some l) : l.val = n := by
  unfold toLane at h
  split at h <;> cases h
  rfl

theorem val_of_optional_toZone {n : Nat} {z : Option ZoneNo} (h : optionalOf toZone n = some z) :
    (z.map fun z => z.val) = if n = 255 then none else some n := by
  unfold optionalOf toZone at h
  split at h
  · next hn => cases h; simp [hn]
  · next hn =>
    split at h <;> cases h
    simp [hn]

/-! ## The fields of an image -/

namespace RawImage

variable {x : RawImage}

theorem keyOf_eq_none_iff (x : RawImage) :
    x.keyOf = none ↔ (x.key.kind ≠ 1 ∧ x.key.kind ≠ 2) ∨ (x.key.kind = 1 ∧ Config.barcodeKeyMax < x.key.value) := by
  unfold keyOf RawKey.key
  by_cases h1 : x.key.kind = 1
  · simp [h1]
  · by_cases h2 : x.key.kind = 2 <;> simp [h1, h2]

theorem key_of_keyOf {k : Key} (h : x.keyOf = some k) :
    k = ⟨if x.key.kind = 1 then .barcode else .card, x.key.value⟩ := by
  unfold keyOf RawKey.key at h
  by_cases h1 : x.key.kind = 1
  · simp only [h1, if_true, true_and] at h ⊢
    split at h <;> cases h
    rfl
  · by_cases h2 : x.key.kind = 2 <;> simp [h1, h2] at h ⊢
    exact h.symm

theorem stateOf_eq_none_iff (x : RawImage) :
    x.stateOf = none ↔ (x.state = 1 ∨ 6 ≤ x.state) ∨ (x.state = 5 ∧ 16 ≤ x.reason) := by
  unfold stateOf
  split
  · next h5 =>
    simp only [h5, dite_eq_right_iff]
    simp
  · simp only [Option.map_eq_none_iff, restingOf_eq_none_iff]
    omega

theorem code_of_stateOf {st : RecordState} (h : x.stateOf = some st) :
    stateCode st = x.state ∧ ∀ e, st = .revoked e → e.val = x.reason := by
  unfold stateOf at h
  split at h
  · next h5 =>
    split at h <;> cases h
    exact ⟨h5.symm, fun e he => by cases he; rfl⟩
  · obtain ⟨p, hp, rfl⟩ := Option.map_eq_some_iff.1 h
    exact ⟨restingCode_of_restingOf hp, nofun⟩

theorem lastOf_eq_none_iff (x : RawImage) :
    x.lastOf = none ↔ x.flags.testBit 4 = true ∧
      (32 ≤ x.lastBank ∨ 16 ≤ x.lastLane ∨ (16 ≤ x.lastZone ∧ x.lastZone ≠ 255)) := by
  rw [← toBank_eq_none_iff, ← toLane_eq_none_iff, ← optional_toZone_eq_none_iff]
  unfold lastOf
  cases x.flags.testBit 4 <;> cases toBank x.lastBank <;> cases toLane x.lastLane <;> cases optionalOf toZone x.lastZone <;>
    simp

theorem absent_of_lastOf {y : Option Last} (h : x.lastOf = some y) (hf : x.flags.testBit 4 = false) : y = none := by
  simpa [lastOf, hf, eq_comm] using h

theorem dated_of_lastOf {y : Option Last} (h : x.lastOf = some y) (hf : x.flags.testBit 4 = true) :
    ∃ z, y = some z ∧ z.time = some x.lastTime ∧ z.bank.val = x.lastBank ∧ z.lane.val = x.lastLane ∧
      (z.zone.map fun z => z.val) = if x.lastZone = 255 then none else some x.lastZone := by
  simp only [lastOf, hf, if_true] at h
  split at h
  · next b l z hb hl hz =>
    cases h
    exact ⟨_, rfl, rfl, val_of_toBank hb, val_of_toLane hl, val_of_optional_toZone hz⟩
  · cases h

theorem givenOf_eq_none_iff (x : RawImage) :
    x.givenOf = none ↔ x.flags.testBit 2 = true ∧ (x.stateOf = none ∨ x.lastOf = none) := by
  unfold givenOf
  cases x.flags.testBit 2 <;> cases x.stateOf <;> cases x.lastOf <;> simp

theorem badWindow_iff (x : RawImage) :
    x.badWindow = true ↔
      (x.flags.testBit 1 = true ∧ (x.opens = x.closes ∨ Config.dayTenths ≤ x.opens ∨ Config.dayTenths ≤ x.closes)) ∨
      ((x.flags.testBit 2 = true ∧ x.flags.testBit 4 = true) ∧ Config.dayTenths ≤ x.lastTime) := by
  simp [badWindow, or_assoc]

/-- The state part of an image with state given (R24). -/
theorem of_givenOf {g : Option GivenState} (h : x.givenOf = some g) (hf : x.flags.testBit 2 = true) :
    ∃ st last, x.stateOf = some st ∧ x.lastOf = some last ∧
      g = some { state := st, used := x.used, last := last, provisional := x.flags.testBit 3 } := by
  simp only [givenOf, hf, if_true] at h
  split at h
  · next st last hst hlast =>
    cases h
    exact ⟨st, last, hst, hlast, rfl⟩
  · cases h

theorem not_given_of_givenOf {g : Option GivenState} (h : x.givenOf = some g) (hf : x.flags.testBit 2 ≠ true) : g = none := by
  simpa [givenOf, hf, eq_comm] using h

end RawImage
end Sys2Proof.Machine
end

section
/-! SUPPORT. The outcomes of an image's check and of one entry of each list request (R22 to R29). -/

namespace Sys2Proof.Machine
namespace RawImage

variable {x : RawImage}

/-- A field outside its list or range is BAD_VALUE before the windows are looked at (R24). -/
theorem check_badValue
    (h : x.keyOf = none ∨ classOf x.cls = none ∨ toBank x.home = none ∨ x.zones = 0 ∨ x.givenOf = none) :
    x.check = .error .badValue := by
  unfold check
  split
  · next hk hc hhome hg =>
    have hz : x.zones = 0 := by simpa [hk, hc, hhome, hg] using h
    simp [hz]
  · rfl

theorem check_of_good {k : Key} {c : TicketClass} {home : BankNo} {g : Option GivenState} (hk : x.keyOf = some k)
    (hc : classOf x.cls = some c) (hhome : toBank x.home = some home) (hz : x.zones ≠ 0) (hg : x.givenOf = some g) :
    x.check = if x.badWindow then .error .badWindow else .ok (x.accepted k c home g) := by
  simp [check, hk, hc, hhome, hz, hg]

end RawImage

theorem usedOf_eq (c : TicketClass) (a u : Nat) : usedOf c a u = if c = .staff then u else min u a := by
  simp only [usedOf, TicketClass.isStaff_iff]

theorem allowanceOf_eq (c : TicketClass) (a : Nat) : allowanceOf c a = if c = .single then 1 else max 1 (min 15 a) := by
  unfold allowanceOf
  split
  · rfl
  · next hc => rw [clamp_eq 1 15 a (by decide), if_neg hc]

/-- Clamping a given state changes it where it changes its used count (R24). -/
theorem GivenState.clamped_eq_iff (c : TicketClass) (a : Nat) (g : GivenState) :
    g.clamped c a = g ↔ (g.clamped c a).used = g.used := by
  constructor
  · exact congrArg GivenState.used
  · intro h
    cases g
    exact congrArg (GivenState.mk _ · _ _) h

/-- An image is clamped exactly where its allowance or its given used count is (R24). -/
theorem RawImage.accepted_changed_iff {x : RawImage} {g : Option GivenState} (hg : x.givenOf = some g) (k : Key)
    (c : TicketClass) (home : BankNo) :
    (x.accepted k c home g).changed = true ↔
      (x.accepted k c home g).allowance ≠ x.allowance ∨
        ∃ y, (x.accepted k c home g).given = some y ∧ y.used ≠ x.used := by
  simp only [accepted, Bool.or_eq_true, decide_eq_true_eq]
  refine or_congr_right ?_
  cases g with
  | none => simp
  | some g =>
    rw [← x.givenOf_used hg]
    simp [GivenState.clamped_eq_iff]

/-- The given state of an accepted image (R24). -/
theorem RawImage.accepted_given {x : RawImage} {g : Option GivenState} (hg : x.givenOf = some g) (k : Key) (c : TicketClass)
    (home : BankNo) (hf : x.flags.testBit 2 = true) :
    ∃ y, (x.accepted k c home g).given = some y ∧ stateCode y.state = x.state ∧
      (∀ e, y.state = .revoked e → e.val = x.reason) ∧
      y.used = (if c = .staff then x.used else min x.used (x.accepted k c home g).allowance) ∧
      y.provisional = x.flags.testBit 3 ∧ x.lastOf = some y.last := by
  obtain ⟨st, last, hst, hlast, rfl⟩ := x.of_givenOf hg hf
  obtain ⟨hcode, hreason⟩ := x.code_of_stateOf hst
  exact ⟨_, rfl, hcode, hreason, usedOf_eq _ _ _, rfl, hlast⟩

/-! ## The first FREE slot, and a record put into a slot (R16, R21, R22) -/

theorem Table.freeSlot_eq_none_iff (t : Table) (k : Key) :
    t.freeSlot k = none ↔ ∀ n ∈ t.probeSlots k, t.slotAt n ≠ none := by
  simp [Table.freeSlot]

theorem Table.freeSlot_first {t : Table} {k : Key} {n : Nat} (h : t.freeSlot k = some n) :
    t.slotAt n = none ∧ ∃ before after, t.probeSlots k = before ++ n :: after ∧ ∀ m ∈ before, t.slotAt m ≠ none := by
  obtain ⟨hn, before, after, hsplit, hbefore⟩ := List.find?_eq_some_iff_append.1 h
  exact ⟨by simpa using hn, before, after, hsplit, fun m hm => by
    simpa [Option.isSome_iff_ne_none] using hbefore m hm⟩

/-- The slot holds a HELD record. -/
theorem heldSlot_iff (o : Option Record) : heldSlot o = true ↔ ∃ q h, o = some q ∧ q.state = .held h := by
  cases o with
  | none => simp [heldSlot]
  | some q => cases hq : q.state <;> simp [heldSlot, hq]

/-! ## One entry of a list request (R25 to R29) -/

/-- The loadable fields replaced, with the used count kept within the allowance (R26). -/
theorem Image.reload_eq (i : Image) (q : Record) :
    i.reload q = { q with
      cls := i.cls, allowance := i.allowance, home := i.home, zones := i.zones, multiEvent := i.multiEvent,
      window := i.window, used := if i.cls = .staff then q.used else min q.used i.allowance } := by
  rw [← usedOf_eq]
  rfl

theorem Image.replace_of_held {i : Image} {q : Record} {h : Hold} (hq : q.state = .held h) :
    i.replace q = i.reload q ∧ i.clampsKept q = decide ((i.reload q).used ≠ q.used) ∧ q.upsertStatus = .held := by
  simp [Image.replace, Image.clampsKept, Record.upsertStatus, hq]

theorem Record.upsertStatus_of_not_held {q : Record} (hq : ∀ h, q.state ≠ .held h) : q.upsertStatus = .replaced := by
  unfold Record.upsertStatus
  split
  · next h hs => exact absurd hs (hq h)
  · rfl

theorem Image.replace_of_none {i : Image} (q : Record) (hi : i.given = none) :
    i.replace q = i.reload q ∧ i.clampsKept q = decide ((i.reload q).used ≠ q.used) := by
  unfold Image.replace Image.clampsKept
  rw [hi]
  split <;> simp_all

theorem Image.replace_of_given {i : Image} {q : Record} {g : GivenState} (hq : ∀ h, q.state ≠ .held h)
    (hi : i.given = some g) :
    i.replace q = { i.reload q with state := g.state, used := g.used, last := g.last, provisional := g.provisional } ∧
      i.clampsKept q = false := by
  cases hs : q.state with
  | held h => exact absurd hs (hq h)
  | resting | revoked => simp [Image.replace, Image.clampsKept, hs, hi]

namespace State

variable {s : State} {x : RawImage} {i : Image} {n : Nat} {q : Record} {k : Key}

theorem upsertOne_of_error {e : EntryStatus} (h : x.check = .error e) : s.upsertOne x = (s, e, false) := by
  simp [upsertOne, h]

theorem fillOne_of_error {e : EntryStatus} (h : x.check = .error e) (n : Nat) : s.fillOne (n, x) = (s, e, false) := by
  simp [fillOne, h]

/-- An accepted image whose key is found replaces the record (R26). -/
theorem upsertOne_found (h : x.check = .ok i) (hk : s.lookup i.key = some (n, q)) :
    s.upsertOne x = (s.putRecord n (i.replace q), q.upsertStatus, i.changed || i.clampsKept q) := by
  simp [upsertOne, upsertImage, h, hk]

/-- An accepted image whose key is not found takes the first FREE slot (R22, R25). -/
theorem upsertOne_stored (h : x.check = .ok i) (hk : s.lookup i.key = none) (hn : s.table.freeSlot i.key = some n) :
    s.upsertOne x = (s.putRecord n i.newRecord, .stored, i.changed) := by
  simp [upsertOne, upsertImage, h, hk, hn]

theorem upsertOne_full (h : x.check = .ok i) (hk : s.lookup i.key = none) (hn : s.table.freeSlot i.key = none) :
    s.upsertOne x = (s.errorOccurs .tableFull none [], .tableFull, i.changed) := by
  simp [upsertOne, upsertImage, h, hk, hn]

theorem fillOne_outOfRange (h : x.check = .ok i)
    (hn : 4 * s.table.buckets ≤ n ∨ n / 4 ∉ probeBuckets s.table.buckets s.table.probe i.key) :
    s.fillOne (n, x) = (s, .outOfRange, i.changed) := by
  simp [fillOne, fillImage, h, hn]

/-- A slot of the probe sequence that holds a HELD record keeps it (R27). -/
theorem fillOne_held (h : x.check = .ok i) (hn : n < 4 * s.table.buckets)
    (hp : n / 4 ∈ probeBuckets s.table.buckets s.table.probe i.key) (hh : heldSlot (s.table.slotAt n) = true) :
    s.fillOne (n, x) = (s, .held, i.changed) := by
  simp [fillOne, fillImage, h, hp, Nat.not_le.2 hn, hh]

/-- A slot of the probe sequence without a HELD record, by where the key is found (R27). -/
theorem fillOne_found (h : x.check = .ok i) (hn : n < 4 * s.table.buckets)
    (hp : n / 4 ∈ probeBuckets s.table.buckets s.table.probe i.key) (hh : heldSlot (s.table.slotAt n) ≠ true) {m : Nat}
    (hk : s.lookup i.key = some (m, q)) :
    s.fillOne (n, x) =
      if m = n then (s.putRecord n i.newRecord, .replaced, i.changed) else (s, .duplicate, i.changed) := by
  simp [fillOne, fillImage, h, hp, Nat.not_le.2 hn, hh, hk]

theorem fillOne_notFound (h : x.check = .ok i) (hn : n < 4 * s.table.buckets)
    (hp : n / 4 ∈ probeBuckets s.table.buckets s.table.probe i.key) (hh : heldSlot (s.table.slotAt n) ≠ true)
    (hk : s.lookup i.key = none) :
    s.fillOne (n, x) =
      (s.putRecord n i.newRecord, if (s.table.slotAt n).isSome then .replaced else .stored, i.changed) := by
  simp [fillOne, fillImage, h, hp, Nat.not_le.2 hn, hh, hk]

end State
end Sys2Proof.Machine
end

section
namespace Sys2Proof.Machine

/-- An image without a BAD_VALUE has a key, a class, a home and a state part. -/
theorem RawImage.parts_of_good {x : RawImage}
    (h : ¬(x.keyOf = none ∨ classOf x.cls = none ∨ toBank x.home = none ∨ x.zones = 0 ∨ x.givenOf = none)) :
    ∃ k c home g, x.keyOf = some k ∧ classOf x.cls = some c ∧ toBank x.home = some home ∧ x.zones ≠ 0 ∧
      x.givenOf = some g := by
  simp only [not_or, ← ne_eq, Option.ne_none_iff_exists'] at h
  obtain ⟨⟨k, hk⟩, ⟨c, hc⟩, ⟨home, hhome⟩, hz, g, hg⟩ := h
  exact ⟨k, c, home, g, hk, hc, hhome, hz, hg⟩

/-- The status of one entry whose key is or is not found by a revoke or a purge (R28, R29). -/
theorem State.keyEntries (s : State) (k : Key) :
    (s.lookup k = none → ∀ e, s.revokeOne e k = (s, .unknown, false) ∧ s.purgeOne k = (s, .unknown, false)) ∧
    ∀ n q, s.lookup k = some (n, q) →
      (∀ h, q.state = .held h → s.purgeOne k = (s, .held, false) ∧ ∀ e, s.revokeOne e k =
        (s.putRecord n { q with state := .held { h with revokePending := some e } }, .pending, false)) ∧
      ((∀ h, q.state ≠ .held h) →
        (∀ e, s.revokeOne e k = (s.putRecord n { q with state := .revoked e }, .revoked, false)) ∧
        s.purgeOne k = (s.modTable (Table.free n), .purged, false)) := by
  refine ⟨fun hk e => by simp [revokeOne, purgeOne, hk], fun n q hk => ⟨fun h hq => ?_, fun hq => ?_⟩⟩
  · have hheld := (heldSlot_iff (some q)).2 ⟨q, h, rfl, hq⟩
    simp [revokeOne, purgeOne, hk, hheld, Record.revoke, hq]
  · have hfree : heldSlot (some q) ≠ true := fun hh => by
      obtain ⟨_, h, he, hs⟩ := (heldSlot_iff _).1 hh
      cases he
      exact hq h hs
    have hrevoke (e : Fin 16) : q.revoke e = { q with state := .revoked e } := by
      unfold Record.revoke
      split
      · next h hs => exact absurd hs (hq h)
      · rfl
    simp [revokeOne, purgeOne, hk, hfree, hrevoke]

/-- Settles O56, through the clauses of the check, the slots of the table, and one lemma for each outcome of an entry. -/
theorem recordEntryResults : Obligations.RecordEntryResults := by
  refine ⟨fun x => ?_, fun t k => ⟨t.freeSlot_eq_none_iff k, fun n => Table.freeSlot_first⟩, fun i => ?_, fun s n r => ?_,
    fun s => ⟨fun x e h => ⟨State.upsertOne_of_error h, State.fillOne_of_error h⟩, fun x i h => ⟨fun n q hk => ?_,
      fun hk => ?_, fun n => ⟨State.fillOne_outOfRange h, fun hn hp => ⟨?_, fun hfree => ?_⟩⟩⟩, s.keyEntries⟩⟩
  · intro given dated badValue badWindow
    have hbad : badValue ↔
        (x.keyOf = none ∨ classOf x.cls = none ∨ toBank x.home = none ∨ x.zones = 0 ∨ x.givenOf = none) := by
      rw [x.keyOf_eq_none_iff, classOf_eq_none_iff, toBank_eq_none_iff, x.givenOf_eq_none_iff, x.stateOf_eq_none_iff,
        x.lastOf_eq_none_iff]
      simp only [badValue, dated, given, Config.barcodeKeyMax]
      tauto
    have hwindow : badWindow ↔ x.badWindow = true := x.badWindow_iff.symm
    rw [hbad, hwindow]
    refine ⟨RawImage.check_badValue, fun h hw => ?_, fun h hw => ?_⟩
    · obtain ⟨k, c, home, g, hk, hc, hhome, hz, hg⟩ := RawImage.parts_of_good h
      rw [RawImage.check_of_good hk hc hhome hz hg, if_pos hw]
    · obtain ⟨k, c, home, g, hk, hc, hhome, hz, hg⟩ := RawImage.parts_of_good h
      refine ⟨_, by rw [RawImage.check_of_good hk hc hhome hz hg, if_neg hw], RawImage.key_of_keyOf hk,
        classCode_of_classOf hc, val_of_toBank hhome, rfl, rfl, rfl, allowanceOf_eq c _, fun hf => ?_, fun hf => ?_,
        RawImage.accepted_changed_iff hg k c home⟩
      · cases RawImage.not_given_of_givenOf hg hf
        rfl
      · obtain ⟨y, hy, hcode, hreason, hused, hprov, hlast⟩ := RawImage.accepted_given hg k c home hf
        refine ⟨y, hy, hcode, hreason, hused, hprov, fun hd => ?_, fun hd => RawImage.dated_of_lastOf hlast hd.2⟩
        exact RawImage.absent_of_lastOf hlast (Bool.eq_false_iff.2 fun h4 => hd ⟨hf, h4⟩)
  · exact ⟨fun hg => by simp [Image.newRecord, hg], fun g hg => by simp [Image.newRecord, hg]⟩
  · exact ⟨rfl, fun m => s.table.slotAt_put n m r, s.table.slotAt_free n, fun hs =>
      ⟨Table.put_sorted n r hs, Table.free_sorted n hs, Table.slotAt_eq_some_iff hs⟩⟩
  · intro kept
    have hkept : i.reload q = kept := i.reload_eq q
    rw [State.upsertOne_found h hk]
    refine ⟨fun y hq => ?_, fun hq hg => ?_, fun g hq hg => ?_⟩
    · obtain ⟨hr, hc, hs⟩ := Image.replace_of_held (i := i) hq
      rw [hr, hc, hs, hkept]
    · obtain ⟨hr, hc⟩ := Image.replace_of_none q hg
      rw [hr, hc, hkept, Record.upsertStatus_of_not_held hq]
    · obtain ⟨hr, hc⟩ := Image.replace_of_given hq hg
      rw [hr, hc, hkept, Record.upsertStatus_of_not_held hq, Bool.or_false]
  · exact ⟨fun n => State.upsertOne_stored h hk, State.upsertOne_full h hk⟩
  · exact fun q y hq hs => State.fillOne_held h hn hp ((heldSlot_iff _).2 ⟨q, y, hq, hs⟩)
  · have hslot : heldSlot (s.table.slotAt n) ≠ true := fun hh => by
      obtain ⟨q, y, hq, hs⟩ := (heldSlot_iff _).1 hh
      exact hfree q y hq hs
    refine ⟨fun m q hk hm => ?_, fun q hk => ?_, fun hk => ⟨fun he => ?_, fun q he => ?_⟩⟩
    · rw [State.fillOne_found h hn hp hslot hk, if_neg hm]
    · rw [State.fillOne_found h hn hp hslot hk, if_pos rfl]
    · simp [State.fillOne_notFound h hn hp hslot hk, he]
    · simp [State.fillOne_notFound h hn hp hslot hk, he]

end Sys2Proof.Machine
end

section
/-! SUPPORT. The deadlines of the Peer Coordinator: a query's, a remote hold's and a lapsed entry's (R37, R101, R109, R110,
R114). -/

namespace Sys2Proof.Machine

/-- A Peer Table entry after a query timeout: Suspect below the limit, Down at it (R101). -/
theorem Peer.timedOut_eq (limit : Nat) (p : Peer) :
    p.timedOut limit = { p with
      timeouts := min limit (p.timeouts + 1),
      state := if p.state = .down then .down else if p.timeouts + 1 < limit then .suspect else .down } := by
  unfold Peer.timedOut
  cases p.state <;> rfl

/-- A record HELD that reverts: to the state before the hold, or to the revoke that waits for its end (R34, R37). -/
theorem Record.revert_of_held {r : Record} {h : Hold} (hr : r.state = .held h) :
    r.revert = { r with state := match h.revokePending with | some e => .revoked e | none => .resting h.prior } := by
  obtain ⟨holder, prior, pending⟩ := h
  cases pending <;> simp only [Record.revert, hr, Hold.ended]

namespace State

variable {s : State}

@[simp] theorem peer_modPeer_same (s : State) (b : BankNo) (f : Peer → Peer) : (s.modPeer b f).peer b = f (s.peer b) := by
  simp [State.peer, State.modPeer, State.flagging, State.noteFlags_eq, State.modPeers]

/-- A change of one Peer Table entry rests on that entry alone. -/
theorem modPeer_eq_const (s : State) (b : BankNo) (f : Peer → Peer) : s.modPeer b f = s.modPeer b fun _ => f (s.peer b) := rfl

/-- The timeout of a query at its home's entry, with PEER_DOWN where the entry comes to be Down (R101). -/
theorem peerTimeout_eq (s : State) (b : BankNo) :
    s.peerTimeout b =
      if (s.peer b).state ≠ .down ∧ ((s.peer b).timedOut s.peers.downAfter).state = .down then
        (s.modPeer b fun _ => (s.peer b).timedOut s.peers.downAfter).raise .peerDown (some b.val)
      else s.modPeer b fun _ => (s.peer b).timedOut s.peers.downAfter := by
  simp only [State.peerTimeout, peer_modPeer_same, ← modPeer_eq_const]

/-- The expiry of a query's deadline (R109). -/
theorem queryExpiry_found {l : LaneNo} {q : Query} (h : s.peers.queryOf l = some q) :
    let c := (((s.reach q.deadline).peerTimeout q.home).dropQuery l).confirmHold l q.key (s.queryCode l)
    s.queryExpiry l = c.1.addLapsed q (if c.2 then .grant else .refuse) := by
  have hcode : (((s.reach q.deadline).peerTimeout q.home).dropQuery l).queryCode l = s.queryCode l := by
    unfold queryCode
    rw [show (((s.reach q.deadline).peerTimeout q.home).dropQuery l).lane l = s.lane l from
      lane_peerTimeout (s.reach q.deadline) q.home l]
  simp only [queryExpiry, h, hcode]

/-- A key that no remote bank holds has no deadline of a remote hold (R37). -/
theorem remoteExpiry_of_not_remote {k : Key} (h : ∀ i r b l d p w, s.lookup k = some (i, r) →
    r.state ≠ .held { holder := .remote b l d, prior := p, revokePending := w }) : s.remoteExpiry k = s := by
  unfold remoteExpiry
  split
  · rfl
  · next i r hk =>
    split
    · next b l d p w hs => exact absurd hs (h i r b l d p w hk)
    · rfl

end State

/-- Settles O50: each expiry is the model's operation, with the entry of the query's home, the record that reverts and the list
written out. -/
theorem peerDeadlinesExpire : Obligations.PeerDeadlinesExpire := by
  refine ⟨fun s l q hq => ?_, fun s =>
    ⟨fun k i r b l d p w hk hr => ?_, fun k hk => ?_, fun q v => rfl, fun tag e he => ?_⟩⟩
  · intro v p n st counted told c
    have htold : (s.reach q.deadline).peerTimeout q.home = told := by
      rw [State.peerTimeout_eq, Peer.timedOut_eq]
      rfl
    have h := State.queryExpiry_found hq
    rw [htold] at h
    exact congrArg (fun t : State => Host.Outcome.next t.settle) h
  · show Host.Outcome.next (s.remoteExpiry k) = _
    simp only [State.remoteExpiry, hk, hr]
    rw [Record.revert_of_held hr]
    rfl
  · exact congrArg Host.Outcome.next (State.remoteExpiry_of_not_remote hk)
  · show Host.Outcome.next (s.lapsedExpiry tag) = _
    simp only [State.lapsedExpiry, he]
    rfl

end Sys2Proof.Machine
end

section
/-! SUPPORT. Keys, record images and their lists read back from their bytes (R192, R193), and the bytes of a record (R192). -/

namespace Sys2Proof.Machine

/-! ## Fields read back -/

/-- A list whose entries are read back each by itself is read back whole. -/
theorem Reader.list_map {α : Type} (rd : Reader α) (enc : α → List Byte) (xs : List α) (rest : List Byte)
    (hlen : xs.length < 256) (h : ∀ x ∈ xs, ∀ tail, rd (enc x ++ tail) = some (x, tail)) :
    Reader.list rd (byte xs.length :: (xs.flatMap enc ++ rest)) = some (xs, rest) := by
  simp only [Reader.list, Reader.bind_apply, Reader.nat_cons, toNat_byte _ hlen, Reader.many_map rd enc xs rest h]

theorem RawImage.sent_length (x : RawImage) : x.sent.length = 32 := by
  simp only [RawImage.sent, List.length_append, be_length]

/-- An image is read back from its 32 bytes (R192). -/
theorem Reader.image_sent {x : RawImage} (h : x.fits) (tail : List Byte) : Reader.image (x.sent ++ tail) = some (x, tail) := by
  obtain ⟨hkind, hvalue, hcls, hallowance, hhome, hzones, hflags, hopens, hcloses, hstate, hused, hreason, htime, hbank, hlane,
    hzone⟩ := h
  simp only [RawImage.sent, List.append_assoc, Reader.image, Reader.key, Reader.bind_apply, Reader.pure_apply,
    Reader.nat_be 1 _ _ hkind, Reader.nat_be 10 _ _ hvalue, Reader.nat_be 1 _ _ hcls, Reader.nat_be 1 _ _ hallowance,
    Reader.nat_be 1 _ _ hhome, Reader.nat_be 2 _ _ hzones, Reader.nat_be 1 _ _ hflags, Reader.nat_be 3 _ _ hopens,
    Reader.nat_be 3 _ _ hcloses, Reader.nat_be 1 _ _ hstate, Reader.nat_be 1 _ _ hused, Reader.nat_be 1 _ _ hreason,
    Reader.nat_be 3 _ _ htime, Reader.nat_be 1 _ _ hbank, Reader.nat_be 1 _ _ hlane, Reader.nat_be 1 _ _ hzone]

theorem Reader.fill_be {n : Nat} (hn : n < 2 ^ 24) {fields extra : List Byte} {xs : List RawImage}
    (h : Reader.list Reader.image fields = some (xs, extra)) : Reader.fill (be 3 n ++ fields) = some (⟨n, xs⟩, extra) := by
  simp only [Reader.fill, Reader.bind_apply, Reader.nat_be 3 n _ hn, h, Reader.pure_apply]

theorem Reader.geometry_be {b : Nat} (hb : b < 65536) (p : Byte) (extra : List Byte) :
    Reader.geometry (be 2 b ++ p :: extra) = some (⟨b, p.toNat⟩, extra) := by
  simp only [Reader.geometry, Reader.bind_apply, Reader.nat_be 2 b _ hb, Reader.nat_cons, Reader.pure_apply]

/-- The key field that carries a key. -/
def RawKey.ofKey (k : Key) : RawKey := { kind := match k.kind with | .barcode => 1 | .card => 2, value := k.value }

theorem RawKey.key_ofKey (k : Key) : (RawKey.ofKey k).key = some k := by
  obtain ⟨kind, value⟩ := k
  cases kind <;> rfl

theorem Reader.key_keyBytes {k : Key} (h : k.value < 2 ^ 80) (tail : List Byte) :
    Reader.key (keyBytes k ++ tail) = some (RawKey.ofKey k, tail) := by
  obtain ⟨kind, value⟩ := k
  cases kind <;>
    simp only [keyBytes, List.cons_append, Reader.key, Reader.bind_apply, Reader.nat_cons, Reader.nat_be 10 _ _ h,
      Reader.pure_apply] <;> rfl

/-- A list of keys is read back as its key fields. -/
theorem Reader.list_keys {ks : List Key} (h : ∀ k ∈ ks, k.value < 2 ^ 80) (hlen : ks.length < 256) (extra : List Byte) :
    Reader.list Reader.key (byte ks.length :: (ks.flatMap keyBytes ++ extra)) = some (ks.map RawKey.ofKey, extra) := by
  simp only [Reader.list, Reader.bind_apply, Reader.nat_cons, toNat_byte _ hlen]
  clear hlen
  induction ks with
  | nil => rfl
  | cons k ks ih =>
    obtain ⟨hk, hks⟩ := List.forall_mem_cons.1 h
    simp only [List.length_cons, Reader.many, Reader.bind_apply, List.flatMap_cons, List.append_assoc, Reader.key_keyBytes hk,
      ih hks, Reader.pure_apply, List.map_cons]

theorem Reader.revoke_cons {e : Byte} {fields extra : List Byte} {ks : List RawKey}
    (h : Reader.list Reader.key fields = some (ks, extra)) : Reader.revoke (e :: fields) = some (⟨e.toNat, ks⟩, extra) := by
  simp only [Reader.revoke, Reader.bind_apply, Reader.nat_cons, h, Reader.pure_apply]

theorem keysOf_ofKey (ks : List Key) : keysOf (ks.map RawKey.ofKey) = some ks := by
  induction ks with
  | nil => rfl
  | cons k ks ih =>
    simp only [keysOf, List.mapM_map] at ih ⊢
    simp [List.mapM_cons, RawKey.key_ofKey, ih]

/-! ## The bytes of a record (R192) -/

@[simp] theorem openBytes_length (draw site n : Nat) : (openBytes draw site n).length = n := by
  induction n generalizing site with
  | zero => rfl
  | succ n ih => simp [openBytes, ih]

theorem timeBytes_length (t : Option Nat) : (timeBytes t).length = 3 := by
  cases t <;> simp [timeBytes]

theorem remaining_length (draw deadline now : Nat) : (remaining draw deadline now).length = 2 := by
  unfold remaining
  split <;> simp

theorem Record.holdPart_length (r : Record) (draw now : Nat) : (r.holdPart draw now).length = 7 := by
  unfold Record.holdPart
  split
  · split <;> simp [remaining_length]
  · simp

/-- The two fields of an image with open bytes where the record has no window or no last (log entry 1). -/
theorem Record.image_parts (r : Record) (draw : Nat) :
    ∃ window last : List Byte, window.length = 6 ∧ last.length = 6 ∧
      r.image draw = keyBytes r.key ++ [byte (classCode r.cls), byte r.allowance, bankByte r.home] ++ be 2 r.zones.toNat ++
        [byte (bit r.multiEvent + 2 * bit r.window.isSome + 4 + 8 * bit r.provisional + 16 * bit r.last.isSome)] ++ window ++
        [byte (stateCode r.state), byte r.used, optByte (r.revokeReason.map (·.val))] ++ last ∧
      (∀ w, r.window = some w → window = be 3 w.opens ++ be 3 w.closes) ∧
      ∀ y, r.last = some y → last = timeBytes y.time ++ [bankByte y.bank, laneByte y.lane, zoneByte y.zone] := by
  refine ⟨_, _, ?_, ?_, rfl, fun w hw => by rw [hw], fun y hy => by rw [hy]⟩
  · split <;> simp
  · split <;> simp [timeBytes_length]

end Sys2Proof.Machine
end

section
/-! SUPPORT. The requests about the Entitlement Table, once taken (R17, R23 to R31). -/

namespace Sys2Proof.Machine
namespace State

variable {s : State} {r : Request} {fields extra : List Byte}

/-! ## Lists (R23) -/

/-- A list executes its front entries, then the others on what those left. -/
theorem eachEntry_append {α : Type} (f : α → State → State × EntryResult) (front back : List α) (s : State) :
    s.eachEntry f (front ++ back) =
      (((s.eachEntry f front).1.eachEntry f back).1, (s.eachEntry f front).2 ++ ((s.eachEntry f front).1.eachEntry f back).2) := by
  induction front generalizing s with
  | nil => rfl
  | cons a front ih => simp only [List.cons_append, eachEntry, ih]

theorem eachEntry_length {α : Type} (f : α → State → State × EntryResult) (xs : List α) (s : State) :
    (s.eachEntry f xs).2.length = xs.length := by
  induction xs generalizing s with
  | nil => rfl
  | cons a xs ih => simp only [eachEntry, List.length_cons, ih]

theorem runList_taken {α : Type} {f : α → State → State × EntryResult} {xs : List α} (h1 : 1 ≤ xs.length)
    (h30 : xs.length ≤ 30) (s : State) :
    s.runList xs f = ((s.eachEntry f xs).1, Reply.listed ((s.eachEntry f xs).2.any (·.2))
      ((s.eachEntry f xs).2.map fun e => byte (entryStatusCode e.1))) :=
  if_neg (by rw [List.isEmpty_iff_length_eq_zero]; omega)

theorem runList_refused {α : Type} {f : α → State → State × EntryResult} {xs : List α} (h : xs = [] ∨ 30 < xs.length)
    (s : State) : s.runList xs f = (s, Reply.refuse .badValue) :=
  if_pos (h.imp_left List.isEmpty_iff.2)

/-! ## Each request by its fields (R173 to R175) -/

theorem exec_upsertRecords {xs : List RawImage} (h : s.asked r 9 fields)
    (hf : Reader.list Reader.image fields = some (xs, extra)) (hm : s.bcm.mode ≠ .deep) :
    exec .upsertRecords s = .next (r.answered 9 (s.beginRequest.runList xs State.upsertOne).2
      (s.beginRequest.runList xs State.upsertOne).1) :=
  congrArg Host.Outcome.next (serve_asked h hf (Taken.active_holds hm))

theorem exec_fillSlots {n : Nat} {xs : List RawImage} (h : s.asked r 10 fields)
    (hf : Reader.fill fields = some (⟨n, xs⟩, extra)) (hm : s.bcm.mode = .service) :
    exec .fillSlots s = .next (r.answered 10
      (s.beginRequest.runList (xs.zipIdx.map fun x => (n + x.2, x.1)) State.fillOne).2
      (s.beginRequest.runList (xs.zipIdx.map fun x => (n + x.2, x.1)) State.fillOne).1) :=
  congrArg Host.Outcome.next (serve_asked h hf (by rw [hm]; rfl))

theorem exec_revokeRecords {e : Byte} {ks : List Key} (hk : ∀ k ∈ ks, k.value < 2 ^ 80) (hlen : ks.length < 256)
    (h : s.asked r 11 (e :: byte ks.length :: ks.flatMap keyBytes ++ extra)) (hm : s.bcm.mode ≠ .deep) :
    exec .revokeRecords s = .next (r.answered 11 (doRevokeRecords ⟨e.toNat, ks.map RawKey.ofKey⟩ s.beginRequest).2
      (doRevokeRecords ⟨e.toNat, ks.map RawKey.ofKey⟩ s.beginRequest).1) :=
  congrArg Host.Outcome.next (serve_asked h (Reader.revoke_cons (Reader.list_keys hk hlen extra)) (Taken.active_holds hm))

theorem exec_purgeRecords {ks : List Key} (hk : ∀ k ∈ ks, k.value < 2 ^ 80) (hlen : ks.length < 256)
    (h : s.asked r 12 (byte ks.length :: ks.flatMap keyBytes ++ extra)) (hm : s.bcm.mode ≠ .deep) :
    exec .purgeRecords s = .next (r.answered 12 (s.beginRequest.runList ks State.purgeOne).2
      (s.beginRequest.runList ks State.purgeOne).1) := by
  refine congrArg Host.Outcome.next ((serve_asked h (Reader.list_keys hk hlen extra) (Taken.active_holds hm)).trans ?_)
  simp only [doPurgeRecords, keysOf_ofKey]

theorem doRevokeRecords_taken (e : Fin 16) (ks : List Key) (s : State) :
    doRevokeRecords ⟨e.val, ks.map RawKey.ofKey⟩ s = s.runList ks (State.revokeOne e) := by
  simp only [doRevokeRecords, keysOf_ofKey, e.isLt, dif_pos]

/-- A revoke request without entries, with more than 30, or with a reason above 15 is refused as a whole (R23, R28). -/
theorem doRevokeRecords_refused {n : Nat} {ks : List Key} (h : ks = [] ∨ 30 < ks.length ∨ 16 ≤ n) (s : State) :
    doRevokeRecords ⟨n, ks.map RawKey.ofKey⟩ s = (s, Reply.refuse .badValue) := by
  simp only [doRevokeRecords, keysOf_ofKey]
  split
  · next hn => exact runList_refused (h.imp_right fun h => h.resolve_right (Nat.not_le.2 hn)) s
  · rfl

theorem exec_readRecord {k : Key} (hk : k.value < 2 ^ 80) (h : s.asked r 13 (keyBytes k ++ extra))
    (hm : s.bcm.mode ≠ .deep) :
    exec .readRecord s = .next (r.answered 13 (Reply.ok (s.readRecord k)) s.beginRequest.drawn) := by
  refine congrArg Host.Outcome.next ((serve_asked h (Reader.key_keyBytes hk extra) (Taken.active_holds hm)).trans ?_)
  simp only [doReadRecord, RawKey.key_ofKey]
  rfl

/-! ## The geometry and the sweep (R17, R31) -/

theorem exec_setTableGeometry {b : Nat} {p : Byte} (hb : b < 65536) (h : s.asked r 8 (be 2 b ++ p :: extra))
    (hm : s.bcm.mode = .service) :
    exec .setTableGeometry s = .next (actSetTableGeometry (r.head 8) ⟨b, p.toNat⟩ s.beginRequest) :=
  congrArg Host.Outcome.next (serveWith_asked h (Reader.geometry_be hb p extra) (by rw [hm]; rfl))

theorem exec_clearTable (h : s.asked r 14 extra) (hm : s.bcm.mode = .service) :
    exec .clearTable s = .next (actClearTable (r.head 14) () s.beginRequest) :=
  congrArg Host.Outcome.next (serveWith_asked (x := ((), extra)) h rfl (by rw [hm]; rfl))

end State
end Sys2Proof.Machine
end

section
namespace Sys2Proof.Machine

/-- A clamped value that a request carries to its reply (R174). -/
theorem clamped_carried (lo hi v : Nat) :
    (if (clamped lo hi v).changed then some (clamped lo hi v).value else none) =
      if v = clamp lo hi v then none else some (clamp lo hi v) := by
  simp only [clamped, decide_eq_true_eq, ne_eq, ite_not, @eq_comm _ v]

/-- Set Table Geometry by its bucket count and by whether a record is HELD (R17). -/
theorem State.actSetTableGeometry_cases (s : State) (h : ReplyHead) (b v : Nat) :
    (b ∈ Config.bucketCounts → ¬s.table.anyHeld = true → actSetTableGeometry h ⟨b, v⟩ s =
      (s.modTable fun t => { t with buckets := b, probe := max 1 (min 8 v) }).beginSweep h
        (if v = max 1 (min 8 v) then none else some (max 1 (min 8 v)))) ∧
    (b ∈ Config.bucketCounts → s.table.anyHeld = true →
      actSetTableGeometry h ⟨b, v⟩ s = s.sendReply h (Reply.refuse .holdsPresent)) ∧
    (b ∉ Config.bucketCounts → actSetTableGeometry h ⟨b, v⟩ s = s.sendReply h (Reply.refuse .badValue)) := by
  have hbad : (!Config.bucketCounts.contains b) = true ↔ b ∉ Config.bucketCounts := by simp
  unfold actSetTableGeometry
  refine ⟨fun hb hn => ?_, fun hb hy => ?_, fun hb => ?_⟩
  · rw [if_neg (hbad.not.2 (not_not.2 hb)), if_neg hn, ← clamp_eq 1 8 v (by decide), ← clamped_carried]
    rfl
  · rw [if_neg (hbad.not.2 (not_not.2 hb)), if_pos hy]
  · rw [if_pos (hbad.2 hb)]

theorem Record.holdPart_of_not_held {x : Record} (h : ∀ y, x.state ≠ .held y) (draw now : Nat) :
    x.holdPart draw now = 0 :: openBytes draw 12 6 := by
  unfold Record.holdPart
  split
  · next y hy => exact absurd hy (h y)
  · rfl

/-- Settles O55, request by request through the rule of a request served, and field by field through the readers. -/
theorem tableRequestsTakeEffect : Obligations.TableRequestsTakeEffect := by
  refine ⟨fun x extra hx => ⟨x.sent_length, Reader.image_sent hx extra⟩, fun xs extra n hxs hlen hn => ?_,
    fun α f front back a s => ⟨rfl, s.eachEntry_append f front (a :: back), s.eachEntry_length f front⟩,
    fun s r extra hm => ?_⟩
  · have hlist := Reader.list_map Reader.image RawImage.sent xs extra hlen fun x hx => Reader.image_sent (hxs x hx)
    exact ⟨hlist, Reader.fill_be hn hlist⟩
  · intro t heldAny listed
    have hheld : heldAny ↔ t.table.anyHeld = true := t.table.anyHeld_iff.symm
    refine ⟨fun b p hb h hs => ?_, fun h hs => ?_, fun h c hp => ?_, fun k hk h => ?_, fun fields xs h hf h1 h30 => ?_,
      fun fields n xs h hs hf h1 h30 => ?_, fun ks hks h1 h30 => ⟨fun e h => ?_, fun h => ?_⟩, fun fields xs hf hbad => ?_,
      fun ks e hks hlen => ⟨fun hbad h => ?_, fun hbad h => ?_⟩, fun x draw now => ?_⟩
    · obtain ⟨htaken, hrefused, hbad⟩ := t.actSetTableGeometry_cases (r.head 8) b p.toNat
      rw [State.exec_setTableGeometry hb h hs, hheld]
      exact ⟨fun hB hn => congrArg Host.Outcome.next (htaken hB hn), fun hB hy => congrArg Host.Outcome.next (hrefused hB hy),
        fun hB => congrArg Host.Outcome.next (hbad hB)⟩
    · rw [State.exec_clearTable h hs, hheld]
      unfold actClearTable
      exact ⟨fun hn => by rw [if_neg hn]; rfl, fun hy => by rw [if_pos hy]; rfl⟩
    · show Host.Outcome.next s.endSweep = _
      simp only [State.endSweep, hp]
      cases c with
      | none => rfl
      | some p =>
        simp only [be_one, List.cons_append, List.nil_append]
        rfl
    · rw [State.exec_readRecord hk h hm]
      unfold State.readRecord
      cases s.lookup k <;> rfl
    · rw [State.exec_upsertRecords h hf hm, State.runList_taken h1 h30]
    · rw [State.exec_fillSlots h hf hs, State.runList_taken (by simpa using h1) (by simpa using h30)]
    · rw [State.exec_revokeRecords hks (by omega) h hm, toNat_byte e.val (by omega), State.doRevokeRecords_taken,
        State.runList_taken h1 h30]
    · rw [State.exec_purgeRecords hks (by omega) h hm, State.runList_taken h1 h30]
    · refine ⟨fun h => ?_, fun n hn h hs => ?_⟩
      · rw [State.exec_upsertRecords h hf hm, State.runList_refused hbad]
      · rw [State.exec_fillSlots h (Reader.fill_be hn hf) hs, State.runList_refused (by simpa using hbad)]
    · rw [State.exec_revokeRecords hks hlen h hm, State.doRevokeRecords_refused hbad]
    · rw [State.exec_purgeRecords hks hlen h hm, State.runList_refused hbad]
    · refine ⟨?_, x.holdPart_length draw now, fun hn => by rw [Record.holdPart_of_not_held hn]; rfl, fun l z p w hx => ?_,
        fun b l d p w hx => ?_⟩
      · obtain ⟨window, last, hwindow, hlast, himage, hopens, hdated⟩ := x.image_parts draw
        refine ⟨window, last, hwindow, hlast, himage.trans ?_, hopens, hdated⟩
        unfold Record.revokeReason
        cases x.state with
        | resting _ | revoked _ => rfl
        | held y =>
          obtain ⟨_, _, pending⟩ := y
          cases pending <;> rfl
      · simp [Record.holdPart, hx, zoneByte]
      · simp only [Record.holdPart, hx]
        exact ⟨rfl, fun hd => by simp [remaining, hd]⟩

end Sys2Proof.Machine
end

section
/-! SUPPORT. Zones and reservations (R61, R62): the invariant that every step keeps, lane by lane, and how the operations of the
Zone Counter keep it. -/

namespace Sys2Proof.Machine

/-! ## A lane's operation and its reservation -/

/-- The lane's operation is as R54, R58, R62 and R77 let it be: `State.operationsFit` at one lane. -/
def Lane.Fit (n : Lane) : Prop :=
  (n.state = .querying → n.direction = .entry) ∧
  (n.state = .opened → n.result.isSome ∧ (n.direction = .exit ∨ (n.direction = .entry ∧ n.key.isSome))) ∧
  (n.reservation.isSome → (n.state = .querying ∨ n.state = .opened) ∧ n.direction = .entry)

theorem State.operationsFit_iff (s : State) : s.operationsFit ↔ ∀ l, (s.lane l).Fit := Iff.rfl

/-- No operation of the lane can keep a reservation (R62). -/
def Lane.Quiet (n : Lane) : Prop := n.state ≠ .querying ∧ n.state ≠ .opened

/-- The lane comes to `m` with the reservation it has, and fit where it was fit. -/
def Lane.Turns (n m : Lane) : Prop := m.reservation = n.reservation ∧ (n.Fit → m.Fit)

namespace Lane

variable {n m : Lane}

theorem Quiet.vacant (hq : n.Quiet) (h : n.Fit) : n.reservation = none := by
  obtain ⟨hquerying, hopened⟩ := hq
  obtain ⟨-, -, hres⟩ := h
  by_contra hne
  rcases (hres (Option.isSome_iff_ne_none.2 hne)).1 with hs | hs
  · exact hquerying hs
  · exact hopened hs

theorem Quiet.fit (hq : n.Quiet) (hv : n.reservation = none) : n.Fit :=
  ⟨fun hs => absurd hs hq.1, fun hs => absurd hs hq.2, fun hr => by simp [hv] at hr⟩

/-- A lane without a reservation may come to rest, whatever it adopts. -/
theorem turns_cleared {st : LaneState} (hst : st = .idle ∨ st = .closed) (hv : n.reservation = none) (m : Lane) :
    n.Turns (m.cleared st) :=
  ⟨hv.symm, fun _ => Quiet.fit (by rcases hst with rfl | rfl <;> simp [Quiet, cleared]) rfl⟩

/-- A lane without an operation may adopt (R77). -/
theorem Quiet.turns_adopted (hq : n.Quiet) (p : Policy) : n.Turns (n.adopted p) :=
  ⟨rfl, fun h => Quiet.fit hq (hq.vacant h)⟩

/-- A lane under a grant to leave has no reservation. -/
theorem Fit.vacant_of_exit (h : n.Fit) (hg : n.granted = .exit) : n.reservation = none := by
  obtain ⟨-, -, hres⟩ := h
  by_contra hne
  have hdir := (hres (Option.isSome_iff_ne_none.2 hne)).2
  simp [Lane.granted, hdir] at hg

end Lane

/-! ## Held as a count of lanes (R62) -/

/-- Held of every zone still counts the lanes that reserve in it where one lane alone has changed its reservation, and Held of
each zone has moved with it. -/
theorem State.reservationsMatch_of_move {s t : State} {l : LaneNo} (h : s.reservationsMatch)
    (hother : ∀ m, m ≠ l → (t.lane m).reservation = (s.lane m).reservation)
    (hmove : ∀ z, (t.zone z).held + (if (s.lane l).reservation = some z then 1 else 0) =
      (s.zone z).held + (if (t.lane l).reservation = some z then 1 else 0)) : t.reservationsMatch := by
  intro z
  have count (u : State) : ((List.finRange 16).filter fun m => decide ((u.lane m).reservation = some z)).length =
      ∑ m : LaneNo, if (u.lane m).reservation = some z then 1 else 0 := by
    rw [← Finset.card_filter]
    rfl
  have hrest : ∑ m ∈ Finset.univ.erase l, (if (t.lane m).reservation = some z then 1 else 0) =
      ∑ m ∈ Finset.univ.erase l, if (s.lane m).reservation = some z then 1 else 0 :=
    Finset.sum_congr rfl fun m hm => by rw [hother m (Finset.ne_of_mem_erase hm)]
  have hheld : (t.zone z).held =
      ((List.finRange 16).filter fun m => decide ((t.lane m).reservation = some z)).length := by
    have hs := (h z).1
    have hz := hmove z
    rw [count, ← Finset.add_sum_erase _ _ (Finset.mem_univ l)] at hs ⊢
    omega
  exact ⟨hheld, hheld ▸ (List.length_filter_le _ _).trans_eq (List.length_finRange ..)⟩

/-- A zone in which a lane reserves has Held above 0. -/
theorem State.reservationsMatch.held_pos {s : State} {l : LaneNo} {z : ZoneNo} (h : s.reservationsMatch)
    (hl : (s.lane l).reservation = some z) : 0 < (s.zone z).held := by
  rw [(h z).1]
  exact List.length_pos_of_mem (List.mem_filter.2 ⟨List.mem_finRange l, by simpa using hl⟩)

theorem State.reservationsMatch.congr {s t : State} (h : s.reservationsMatch) (hz : t.zones = s.zones)
    (hl : ∀ l, (t.lane l).reservation = (s.lane l).reservation) : t.reservationsMatch :=
  reservationsMatch_of_move (l := 0) h (fun m _ => hl m) fun z => by simp only [State.zone, hz, hl]

/-! ## The invariant -/

/-- Where `A`, every zone is within its quota; where `B`, the lanes' operations fit and Held counts their reservations. Every
step keeps this with `A` alone and, where queries and lanes match, with `B` alone. -/
structure State.ZonesSound (A B : Prop) (s : State) : Prop where
  within : A → s.zonesWithin
  fit : B → ∀ l, (s.lane l).Fit
  counts : B → s.reservationsMatch

/-- The same in the midst of a decision at an entry lane, whose own operation is yet to be settled: it may have its reservation
before it is QUERYING or OPEN (R50, R63). -/
structure State.Deciding (A B : Prop) (l : LaneNo) (s : State) : Prop where
  within : A → s.zonesWithin
  entry : B → (s.lane l).direction = .entry
  fit : B → ∀ m, m ≠ l → (s.lane m).Fit
  counts : B → s.reservationsMatch

@[simp] theorem State.lane_reportFull (s : State) (z : ZoneNo) (l : LaneNo) : (s.reportFull z).lane l = s.lane l := by
  unfold State.reportFull State.lane
  split <;> simp

theorem State.lane_commitZone (s : State) (l k : LaneNo) :
    (s.commitZone l).lane k = if k = l then { s.lane l with reservation := none } else s.lane k := by
  have hz (z : ZoneNo) (m : LaneNo) : (s.modZone z Zone.committed).lane m = s.lane m := by simp [State.lane]
  unfold State.commitZone
  split <;> rename_i h
  · simp [hz]
  · by_cases e : k = l
    · subst e
      simp [← h]
    · simp [e]

/-- A lane that gives its reservation up stays fit. -/
theorem Lane.Fit.released {n : Lane} (h : n.Fit) : ({ n with reservation := none } : Lane).Fit :=
  ⟨h.1, h.2.1, fun hr => absurd hr Bool.false_ne_true⟩

namespace State

variable {A B : Prop} {s t : State} {l : LaneNo}

/-! ## Counts under a move of one lane's reservation (R63 to R65) -/

theorem zonesWithin_release (h : s.zonesWithin) (l : LaneNo) : (s.release l).zonesWithin := by
  intro z
  obtain ⟨hq, hmax, hscan⟩ := h z
  rw [zone_release]
  split
  · exact ⟨(Nat.add_le_add_left (Nat.sub_le _ _) _).trans hq, hmax, hscan⟩
  · exact ⟨hq, hmax, hscan⟩

theorem reservationsMatch_release (h : s.reservationsMatch) (l : LaneNo) : (s.release l).reservationsMatch := by
  refine reservationsMatch_of_move (l := l) h (fun m hm => by rw [lane_release, if_neg hm]) fun z => ?_
  rw [zone_release, lane_release, if_pos rfl]
  split
  · next hl =>
    have := h.held_pos hl
    simp [Zone.released]
    omega
  · simp

theorem zonesWithin_commitZone (h : s.zonesWithin) (l : LaneNo) : (s.commitZone l).zonesWithin := by
  intro z
  obtain ⟨hq, hmax, hscan⟩ := h z
  rw [zone_commitZone]
  split
  · unfold Zone.committed
    split
    · exact ⟨hq, hmax, hscan⟩
    · exact ⟨by dsimp only; omega, hmax, hscan⟩
  · exact ⟨hq, hmax, hscan⟩

theorem reservationsMatch_commitZone (h : s.reservationsMatch) (l : LaneNo) : (s.commitZone l).reservationsMatch := by
  refine reservationsMatch_of_move (l := l) h (fun m hm => by rw [lane_commitZone, if_neg hm]) fun z => ?_
  rw [zone_commitZone, lane_commitZone, if_pos rfl]
  split
  · next hl =>
    have := h.held_pos hl
    rw [Zone.committed, if_neg (by omega)]
    simp
    omega
  · simp

theorem zonesWithin_reserve {z : ZoneNo} (h : s.zonesWithin) (hz : (s.zone z).hasRoom = true) (l : LaneNo) :
    (s.reserve l z).zonesWithin := by
  intro x
  rw [zone_reserve]
  split
  · obtain ⟨-, hmax, hscan⟩ := h z
    have hroom : (s.zone z).entered + (s.zone z).held < (s.zone z).quota := of_decide_eq_true hz
    exact ⟨hroom, hmax, hscan⟩
  · exact h x

theorem reservationsMatch_reserve (h : s.reservationsMatch) (hv : (s.lane l).reservation = none) (z : ZoneNo) :
    (s.reserve l z).reservationsMatch := by
  refine reservationsMatch_of_move (l := l) h (fun m hm => by rw [lane_reserve, if_neg hm]) fun x => ?_
  rw [zone_reserve, lane_reserve, if_pos rfl, hv]
  by_cases e : x = z
  · simp [e, Zone.reserved]
  · simp [e, Ne.symm e]

namespace ZonesSound

/-! ## Changes of lanes and of zones -/

/-- Lanes that turn, each with its reservation, while no zone changes. -/
theorem lanes (h : s.ZonesSound A B) (hz : t.zones = s.zones) (hl : B → ∀ l, (s.lane l).Turns (t.lane l)) :
    t.ZonesSound A B where
  within hA z := by
    simp only [State.zone, hz]
    exact h.within hA z
  fit hB l := (hl hB l).2 (h.fit hB l)
  counts hB := (h.counts hB).congr hz fun l => (hl hB l).1

/-- What touches neither the zones nor the lanes. -/
theorem same (h : s.ZonesSound A B) (hz : t.zones = s.zones := by simp)
    (hl : ∀ m, t.lane m = s.lane m := by simp [State.lane]) : t.ZonesSound A B :=
  h.lanes hz fun _ m => hl m ▸ ⟨rfl, id⟩

/-- One lane turns, and nothing else of the zones and the lanes changes. -/
theorem lane (h : s.ZonesSound A B) (hz : t.zones = s.zones) (hother : ∀ m, m ≠ l → t.lane m = s.lane m)
    (hl : B → (s.lane l).Turns (t.lane l)) : t.ZonesSound A B :=
  h.lanes hz fun hB m => by
    by_cases e : m = l
    · exact e ▸ hl hB
    · rw [hother m e]
      exact ⟨rfl, id⟩

theorem modLane (h : s.ZonesSound A B) {f : Lane → Lane} (hf : B → (s.lane l).Turns (f (s.lane l))) :
    (s.modLane l f).ZonesSound A B :=
  h.lane (l := l) rfl (fun m hm => by simp [hm]) fun hB => by simpa using hf hB

/-- A zone may change in whatever leaves its Held and its ranges (R66 to R68). -/
theorem modZone (h : s.ZonesSound A B) {z : ZoneNo} {f : Zone → Zone} (hf : (s.zone z).within → (f (s.zone z)).within)
    (hh : (f (s.zone z)).held = (s.zone z).held) : (s.modZone z f).ZonesSound A B where
  within hA x := by
    rw [State.zone_modZone]
    split
    · exact hf (h.within hA z)
    · exact h.within hA x
  fit hB m := by simpa [State.lane] using h.fit hB m
  counts hB := reservationsMatch_of_move (l := 0) (h.counts hB) (fun m _ => by simp [State.lane]) fun x => by
    have hheld : ((s.modZone z f).zone x).held = (s.zone x).held := by
      rw [State.zone_modZone]
      split
      · next e => rw [hh, e]
      · rfl
    have hlane : (s.modZone z f).lane 0 = s.lane 0 := by simp [State.lane]
    rw [hheld, hlane]

theorem release (h : s.ZonesSound A B) (l : LaneNo) : (s.release l).ZonesSound A B where
  within hA := zonesWithin_release (h.within hA) l
  fit hB m := by
    rw [State.lane_release]
    split
    · exact (h.fit hB l).released
    · exact h.fit hB m
  counts hB := reservationsMatch_release (h.counts hB) l

theorem commitZone (h : s.ZonesSound A B) (l : LaneNo) : (s.commitZone l).ZonesSound A B where
  within hA := zonesWithin_commitZone (h.within hA) l
  fit hB m := by
    rw [State.lane_commitZone]
    split
    · exact (h.fit hB l).released
    · exact h.fit hB m
  counts hB := reservationsMatch_commitZone (h.counts hB) l

/-- A decision begins at an entry lane. -/
theorem deciding (h : s.ZonesSound A B) (hd : B → (s.lane l).direction = .entry) : s.Deciding A B l :=
  ⟨h.within, hd, fun hB m _ => h.fit hB m, h.counts⟩

theorem ite {c : Prop} [Decidable c] {a b : State} (ha : a.ZonesSound A B) (hb : b.ZonesSound A B) :
    (if c then a else b).ZonesSound A B :=
  iteInduction (fun _ => ha) fun _ => hb

theorem foldl {α : Type} (h : s.ZonesSound A B) {f : State → α → State}
    (hf : ∀ t a, t.ZonesSound A B → (f t a).ZonesSound A B) (xs : List α) : (xs.foldl f s).ZonesSound A B :=
  List.foldlRecOn xs f h fun t ht a _ => hf t a ht

theorem eachLane (h : s.ZonesSound A B) {f : LaneNo → State → State}
    (hf : ∀ l t, t.ZonesSound A B → (f l t).ZonesSound A B) : (s.eachLane f).ZonesSound A B :=
  h.foldl (fun t l ht => hf l t ht) allLanes

end ZonesSound

namespace Deciding

/-- What touches neither the zones nor the lanes. -/
theorem same (h : s.Deciding A B l) (hz : t.zones = s.zones := by simp)
    (hl : ∀ m, t.lane m = s.lane m := by simp [State.lane]) : t.Deciding A B l where
  within hA z := by simpa only [State.zone, hz] using h.within hA z
  entry hB := hl l ▸ h.entry hB
  fit hB m hm := hl m ▸ h.fit hB m hm
  counts hB := (h.counts hB).congr hz fun m => hl m ▸ rfl

theorem release (h : s.Deciding A B l) : (s.release l).Deciding A B l where
  within hA := zonesWithin_release (h.within hA) l
  entry hB := by
    rw [State.lane_release, if_pos rfl]
    exact h.entry hB
  fit hB m hm := by
    rw [State.lane_release, if_neg hm]
    exact h.fit hB m hm
  counts hB := reservationsMatch_release (h.counts hB) l

/-- A lane without a reservation reserves in a zone with room (R63). -/
theorem reserve (h : s.Deciding A B l) {z : ZoneNo} (hz : (s.zone z).hasRoom = true)
    (hv : B → (s.lane l).reservation = none) : (s.reserve l z).Deciding A B l where
  within hA := zonesWithin_reserve (h.within hA) hz l
  entry hB := by
    rw [State.lane_reserve, if_pos rfl]
    exact h.entry hB
  fit hB m hm := by
    rw [State.lane_reserve, if_neg hm]
    exact h.fit hB m hm
  counts hB := reservationsMatch_reserve (h.counts hB) (hv hB) z

/-- The decision settles the operation of its lane, which keeps its reservation. -/
theorem settled (h : s.Deciding A B l) (hz : t.zones = s.zones) (hother : ∀ m, m ≠ l → t.lane m = s.lane m)
    (hl : B → (t.lane l).reservation = (s.lane l).reservation ∧ (t.lane l).Fit) : t.ZonesSound A B where
  within hA z := by simpa only [State.zone, hz] using h.within hA z
  fit hB m := by
    by_cases e : m = l
    · exact e ▸ (hl hB).2
    · rw [hother m e]
      exact h.fit hB m e
  counts hB := (h.counts hB).congr hz fun m => by
    by_cases e : m = l
    · exact e ▸ (hl hB).1
    · rw [hother m e]

theorem ite {c : Prop} [Decidable c] {a b : State} (ha : a.Deciding A B l) (hb : b.Deciding A B l) :
    (if c then a else b).Deciding A B l :=
  iteInduction (fun _ => ha) fun _ => hb

end Deciding
end State
end Sys2Proof.Machine
end

section
/-! SUPPORT. What keeps zones and reservations: the operations that touch neither, those of the lane sequencers, the aborts and
the changes of bank mode. -/

namespace Sys2Proof.Machine

@[simp] theorem State.zones_withdrawRemote (s : State) (l : LaneNo) (k : Key) (res : DecisionResult) :
    (s.withdrawRemote l k res).zones = s.zones := by
  unfold State.withdrawRemote
  (repeat' split) <;> simp

@[simp] theorem State.zones_revertHeld (s : State) (l : LaneNo) (k : Key) : (s.revertHeld l k).zones = s.zones := by
  unfold State.revertHeld
  (repeat' split) <;> rfl

@[simp] theorem State.lane_abortQuery (s : State) (l m : LaneNo) : (s.abortQuery l).lane m = s.lane m := by
  unfold State.abortQuery State.lane
  split <;> simp

namespace State.ZonesSound

variable {A B : Prop} {s : State} {l : LaneNo}

/-! ## Flags, events, the log, the table and the peers: neither a zone nor a lane -/

theorem modSlot (h : s.ZonesSound A B) (m : LaneNo) (f : Slot → Slot) : (s.modSlot m f).ZonesSound A B := h.same rfl fun _ => rfl

theorem modLink (h : s.ZonesSound A B) (f : Link → Link) : (s.modLink f).ZonesSound A B := h.same rfl fun _ => rfl

theorem modPeers (h : s.ZonesSound A B) (f : Peers → Peers) : (s.modPeers f).ZonesSound A B := h.same rfl fun _ => rfl

theorem modLog (h : s.ZonesSound A B) (f : Log → Log) : (s.modLog f).ZonesSound A B := h.same rfl fun _ => rfl

theorem modEvu (h : s.ZonesSound A B) (f : Evu → Evu) : (s.modEvu f).ZonesSound A B := h.same rfl fun _ => rfl

theorem modBcm (h : s.ZonesSound A B) (f : Bcm → Bcm) : (s.modBcm f).ZonesSound A B := h.same rfl fun _ => rfl

theorem modTrunk (h : s.ZonesSound A B) (f : Trunk → Trunk) : (s.modTrunk f).ZonesSound A B := h.same rfl fun _ => rfl

theorem modMge (h : s.ZonesSound A B) (f : Mge → Mge) : (s.modMge f).ZonesSound A B := h.same rfl fun _ => rfl

theorem modTable (h : s.ZonesSound A B) (f : Table → Table) : (s.modTable f).ZonesSound A B := h.same rfl fun _ => rfl

theorem modPolicy (h : s.ZonesSound A B) (f : Policy → Policy) : (s.modPolicy f).ZonesSound A B := h.same rfl fun _ => rfl

theorem putRecord (h : s.ZonesSound A B) (n : Nat) (r : Record) : (s.putRecord n r).ZonesSound A B := h.same rfl fun _ => rfl

theorem withPairs (h : s.ZonesSound A B) (v : Vector Pair 8) : { s with pairs := v }.ZonesSound A B := h.same rfl fun _ => rfl

theorem reach (h : s.ZonesSound A B) (n : Nat) : (s.reach n).ZonesSound A B := h.same rfl fun _ => rfl

theorem drawn (h : s.ZonesSound A B) : s.drawn.ZonesSound A B := h.same rfl fun _ => rfl

theorem flagging {f : State → State} (hf : (f s).ZonesSound A B) : (s.flagging f).ZonesSound A B := by
  rw [State.flagging, State.noteFlags_eq]
  exact hf.same rfl fun _ => rfl

theorem setMode (h : s.ZonesSound A B) (m : BankMode) : (s.setMode m).ZonesSound A B := h.same

theorem startLink (h : s.ZonesSound A B) : s.startLink.ZonesSound A B := h.same

theorem raise (h : s.ZonesSound A B) (c : Cause) (d : Option Nat) : (s.raise c d).ZonesSound A B := h.same

theorem raiseAll (h : s.ZonesSound A B) (cs : List Cause) :
    (cs.foldl (fun (x : State) c => x.raise c none) s).ZonesSound A B :=
  h.foldl (fun _ c ht => ht.raise c none) cs

theorem errorOccurs (h : s.ZonesSound A B) (k : ErrorKind) (m : Option LaneNo) (bs : List Byte) :
    (s.errorOccurs k m bs).ZonesSound A B := h.same

theorem writeLog (h : s.ZonesSound A B) (a : Admission) : (s.writeLog a).ZonesSound A B := h.same

theorem offerPeer (h : s.ZonesSound A B) (f : TxFrame) : (s.offerPeer f).ZonesSound A B := h.same

theorem sendReply (h : s.ZonesSound A B) (x : ReplyHead) (r : Reply) : (s.sendReply x r).ZonesSound A B := h.same

theorem reportFull (h : s.ZonesSound A B) (z : ZoneNo) : (s.reportFull z).ZonesSound A B := ite (h.raise _ _) h

theorem peerTimeout (h : s.ZonesSound A B) (b : BankNo) : (s.peerTimeout b).ZonesSound A B := ite h.same h.same

/-! ## The lane sequencers (R77 to R93) -/

/-- A lane without an operation has no reservation to lose. -/
theorem vacant (h : s.ZonesSound A B) (hq : (s.lane l).Quiet) (hB : B) : (s.lane l).reservation = none :=
  hq.vacant (h.fit hB l)

theorem enterClosed (h : s.ZonesSound A B) (hv : B → (s.lane l).reservation = none) : (s.enterClosed l).ZonesSound A B :=
  h.lane (l := l) (by simp) (fun m hm => by rw [State.lane_enterClosed, if_neg hm]) fun hB => by
    rw [State.lane_enterClosed, if_pos rfl]
    exact Lane.turns_cleared (.inr rfl) (hv hB) _

theorem adopt (h : s.ZonesSound A B) (hq : B → (s.lane l).Quiet) : (s.adopt l).ZonesSound A B :=
  h.modLane fun hB => (hq hB).turns_adopted _

theorem rest (h : s.ZonesSound A B) (hv : B → (s.lane l).reservation = none) : (s.rest l).ZonesSound A B :=
  h.lane (l := l) (by simp) (fun m hm => by rw [State.lane_rest, if_neg hm]) fun hB => by
    rw [State.lane_rest, if_pos rfl]
    refine Lane.turns_cleared ?_ (hv hB) _
    split
    · exact .inl rfl
    · exact .inr rfl

theorem tryIdle (h : s.ZonesSound A B) (l : LaneNo) : (s.tryIdle l).ZonesSound A B :=
  h.lane (l := l) (by simp) (fun m hm => State.lane_tryIdle_of_ne hm) fun hB => by
    rw [State.lane_tryIdle]
    split
    · next hc =>
      have hq : (s.lane l).Quiet := by simp [Lane.Quiet, hc.2]
      split
      · exact Lane.turns_cleared (.inl rfl) (h.vacant hq hB) _
      · exact hq.turns_adopted _
    · exact ⟨rfl, id⟩

theorem offerIdle (h : s.ZonesSound A B) (l : LaneNo) : (s.offerIdle l).ZonesSound A B := ite (h.tryIdle l) h

theorem restIdle (h : s.ZonesSound A B) (hs : (s.lane l).state = .idle) : (s.rest l).ZonesSound A B :=
  h.rest (h.vacant (by simp [Lane.Quiet, hs]))

theorem readopt (h : s.ZonesSound A B) (l : LaneNo) : (s.readopt l).ZonesSound A B := by
  unfold State.readopt
  split
  · exact h.tryIdle l
  · next hs => exact h.restIdle hs
  · exact h

theorem closeLane (h : s.ZonesSound A B) (l : LaneNo) : (s.closeLane l).ZonesSound A B := by
  have close (hq : (s.lane l).Quiet) : ((s.adopt l).enterClosed l).ZonesSound A B :=
    (h.adopt fun _ => hq).enterClosed fun hB => by simpa [Lane.adopted] using h.vacant hq hB
  unfold State.closeLane
  split
  · next hs => exact close (by simp [Lane.Quiet, hs])
  · next hs => exact close (by simp [Lane.Quiet, hs])
  · exact h

theorem readoptIdle (h : s.ZonesSound A B) (l : LaneNo) : (s.readoptIdle l).ZonesSound A B := by
  unfold State.readoptIdle
  split
  · next hs => exact h.restIdle hs
  · exact h

/-- A lane changes in nothing that its operation or its reservation rests on. -/
theorem touchLane (h : s.ZonesSound A B) {f : Lane → Lane} (hf : (s.lane l).Turns (f (s.lane l)) := by exact ⟨rfl, id⟩) :
    (s.modLane l f).ZonesSound A B :=
  h.modLane fun _ => hf

theorem settlePair (h : s.ZonesSound A B) (k : Fin 8) : (s.settlePair k).ZonesSound A B :=
  have hp := h.withPairs (upd s.pairs k fun q => { q with inForce := q.requested })
  ite (ite (hp.closeLane _) ((hp.touchLane.tryIdle _).readoptIdle _)) h

theorem settlePairs (h : s.ZonesSound A B) : s.settlePairs.ZonesSound A B := h.foldl (fun _ k ht => ht.settlePair k) _

/-- The end of an operation without an entry releases the lane's reservation (R82). -/
theorem endWithout (h : s.ZonesSound A B) (l : LaneNo) (o : Outcome) :
    (s.endWithout l o).ZonesSound A B ∧ ((s.endWithout l o).lane l).reservation = none := by
  unfold State.endWithout
  split
  · next res k _ _ =>
    have ht := (ite (c := res.held) (h.same (t := s.revertHeld l k) (by simp) (by simp)) h).release l
    exact ⟨ht.same (by simp) (by simp), by simp [State.lane_release]⟩
  · exact ⟨h.release l, by simp [State.lane_release]⟩

/-- An abort releases the lane's reservation (R92). -/
theorem abortOperation (h : s.ZonesSound A B) (l : LaneNo) (o : Outcome) :
    (s.abortOperation l o).ZonesSound A B ∧ (B → ((s.abortOperation l o).lane l).reservation = none) := by
  unfold State.abortOperation
  split
  · split
    · next hg => exact ⟨h, fun hB => (h.fit hB l).vacant_of_exit hg⟩
    · obtain ⟨ht, hv⟩ := h.endWithout l o
      exact ⟨ht, fun _ => hv⟩
  · have hq : (s.abortQuery l).ZonesSound A B := by
      unfold State.abortQuery
      split
      · exact h.same
      · exact h
    exact ⟨hq.release l, fun _ => by simp [State.lane_release]⟩
  · next ho hq => exact ⟨h, h.vacant ⟨hq, ho⟩⟩

theorem abortLane (h : s.ZonesSound A B) (l : LaneNo) (o : Outcome) : (s.abortLane l o).ZonesSound A B := by
  obtain ⟨ha, hv⟩ := h.abortOperation l o
  have ht := ha.touchLane (l := l) (f := fun n => { n with mate := none })
  exact ite ht (ht.enterClosed fun hB => by simpa using hv hB)

theorem loseLane (h : s.ZonesSound A B) (l : LaneNo) : (s.loseLane l).ZonesSound A B :=
  have ha := (h.touchLane (l := l) (f := Lane.unconfirmed)).abortLane l .laneLost
  ite (ha.errorOccurs _ _ _) ha

theorem resetLane (h : s.ZonesSound A B) (l : LaneNo) : (s.resetLane l).ZonesSound A B :=
  have ht := h.modSlot l fun k => { k.left .absent with resetDue := true }
  ((ite (ht.raise .presence (some l.val)) ht).touchLane).abortLane l .withdrawn

/-! ## The access in flight and the changes of bank mode (R94, R136, R154 to R160) -/

theorem endAccess (h : s.ZonesSound A B) (x : ReplyHead) (m : LaneNo) (v : Option (BitVec 16)) :
    (s.endAccess x m v).ZonesSound A B := h.same

theorem failAnyAccess (h : s.ZonesSound A B) : s.failAnyAccess.ZonesSound A B := by
  unfold State.failAnyAccess
  split
  · exact h.endAccess _ _ none
  · exact h

theorem endTest (h : s.ZonesSound A B) : s.endTest.ZonesSound A B := by
  unfold State.endTest
  split
  · exact (h.modLink _).raise _ _
  · exact h

theorem stopLane (h : s.ZonesSound A B) (l : LaneNo) : (s.stopLane l).ZonesSound A B := ite ((h.raise _ _).loseLane l) h

theorem haltLink (h : s.ZonesSound A B) : s.haltLink.ZonesSound A B := by
  have ht : (s.eachLane State.stopLane).ZonesSound A B := h.eachLane fun l _ ht => ht.stopLane l
  simp only [State.haltLink]
  generalize s.eachLane State.stopLane = t at ht
  refine failAnyAccess (ht.lanes rfl fun _ l => ?_)
  simp only [State.lane, get_updAll]
  exact ⟨rfl, id⟩

theorem setEntering (h : s.ZonesSound A B) (b : Bool) : (s.setEntering b).ZonesSound A B := h.modBcm _

theorem stopLink (h : s.ZonesSound A B) : s.stopLink.ZonesSound A B := (h.setEntering true).haltLink.setEntering false

theorem enterOpen (h : s.ZonesSound A B) (cs : List Cause) : (s.enterOpen cs).ZonesSound A B :=
  (((h.setMode .opened).modBcm _).startLink.endTest.raiseAll _).eachLane fun l _ ht => ht.offerIdle l

theorem enterDormant (h : s.ZonesSound A B) (m : RestMode) : (s.enterDormant m).ZonesSound A B := by
  have hu := (((h.setEntering true).setMode m.mode).eachLane fun l _ ht => ht.closeLane l).endTest
  simp only [State.enterDormant]
  generalize State.endTest _ = u at hu ⊢
  have hw := (ite (c := u.link.running) (ite (c := u.link.awaiting)
    (hu.modLink fun k => { k with stopping := true }) hu.haltLink) hu).raise .modeChange none
  exact (ite ((hw.modBcm _).modMge _) hw).setEntering false

theorem settleClosing (h : s.ZonesSound A B) : s.settleClosing.ZonesSound A B :=
  ite (ite (((h.modBcm _).setMode _).raise _ _) ((h.modBcm _).enterDormant _)) h

theorem settle (h : s.ZonesSound A B) : s.settle.ZonesSound A B := h.settlePairs.settleClosing

theorem enterClosing (h : s.ZonesSound A B) (cs : List Cause) : (s.enterClosing cs).ZonesSound A B :=
  ((((h.setMode .closing).modBcm _).raiseAll _).eachLane fun l _ ht => ht.closeLane l).settle

theorem leaveStandby (h : s.ZonesSound A B) : s.leaveStandby.ZonesSound A B := 
  ((h.setMode _).startLink.raise _ _).raise _ _

theorem leaveDeep (h : s.ZonesSound A B) : s.leaveDeep.ZonesSound A B := 
  (((h.setMode _).modBcm _).startLink.raise _ _).raise _ _

theorem scheduleAt (h : s.ZonesSound A B) (n : Nat) : (s.scheduleAt n).ZonesSound A B := by
  unfold State.scheduleAt
  refine ite h (ite ?_ (ite (ite (h.enterClosing _) h) h))
  split
  · exact (h.enterOpen _).settle
  · exact (h.enterOpen _).settle
  · exact h

theorem resetMode (h : s.ZonesSound A B) : s.resetMode.ZonesSound A B := by
  have ht := h.modBcm fun b => { b with requested := none }
  unfold State.resetMode
  dsimp only
  split
  · exact ht
  · exact ht.leaveStandby
  · exact (ht.setMode _).raise _ _

/-- Once every lane has been aborted none has an operation, so each may adopt (R96). -/
theorem abortAll (h : s.ZonesSound A B) : s.abortAll.ZonesSound A B := by
  have ht : (s.eachLane fun l u => (u.modSlot l Slot.verdictDropped).abortLane l .withdrawn).ZonesSound A B :=
    h.eachLane fun l _ ht => (ht.modSlot l _).abortLane l _
  have hclosed (l : LaneNo) :
      ((s.eachLane fun l u => (u.modSlot l Slot.verdictDropped).abortLane l .withdrawn).lane l).state = .closed :=
    State.state_foldl_abort allLanes s (.inl (List.mem_finRange l))
  unfold State.abortAll
  generalize s.eachLane _ = t at ht hclosed ⊢
  refine (List.foldlRecOn (motive := fun u : State => u.ZonesSound A B ∧ ∀ l, (u.lane l).state = .closed) allLanes _
    ⟨ht, hclosed⟩ fun u hu l _ => ⟨hu.1.adopt fun _ => by simp [Lane.Quiet, hu.2], fun m => ?_⟩).1
  rw [State.lane_adopt]
  split
  · exact hu.2 l
  · exact hu.2 m

theorem doBankReset (h : s.ZonesSound A B) : s.doBankReset.ZonesSound A B := h.abortAll.resetMode.settlePairs

end State.ZonesSound
end Sys2Proof.Machine
end

section
/-! SUPPORT. What keeps zones and reservations: an entry decision and the presentation it answers; the passages, the rotations and
the timers that end an operation; peer frames and the deadlines of the Peer Coordinator. -/

namespace Sys2Proof.Machine

/-- A lane that opens keeps its reservation, and is fit where its direction and key are (R54, R58). -/
theorem Lane.fit_opening {n : Lane} {k : Option Key} (res : DecisionResult)
    (h : (n.direction = .entry ∧ k.isSome) ∨ (n.direction = .exit ∧ n.reservation = none)) : (n.opening k res).Fit := by
  refine ⟨nofun, fun _ => ⟨rfl, h.symm.imp And.left id⟩, fun hr => ⟨.inr rfl, ?_⟩⟩
  rcases h with ⟨hd, -⟩ | ⟨-, hv⟩
  · exact hd
  · exact absurd hr (by simp [Lane.opening, hv])

theorem Lane.fit_querying {n : Lane} (h : n.direction = .entry) (k : Key) (c : QueryContext) : (n.querying k c).Fit :=
  ⟨fun _ => h, nofun, fun _ => ⟨.inl rfl, h⟩⟩

namespace State

@[simp] theorem zones_openLane (s : State) (l : LaneNo) (k : Option Key) (res : DecisionResult) :
    (s.openLane l k res).zones = s.zones := by simp

/-- A zone that the Zone Counter selects has room (R63). -/
theorem hasRoom_of_selectZone {s : State} {c : Set16} {z : ZoneNo} (h : s.selectZone c = some z) :
    (s.zone z).hasRoom = true := by
  have hz := List.find?_some h
  simp only [Bool.and_eq_true] at hz
  exact hz.2

namespace Deciding

variable {A B : Prop} {s : State} {l : LaneNo} {k : Key}

theorem putRecord (h : s.Deciding A B l) (n : Nat) (r : Record) : (s.putRecord n r).Deciding A B l :=
  h.same rfl fun _ => rfl

theorem modPeers (h : s.Deciding A B l) (f : Peers → Peers) : (s.modPeers f).Deciding A B l := h.same rfl fun _ => rfl

theorem modLog (h : s.Deciding A B l) (f : Log → Log) : (s.modLog f).Deciding A B l := h.same rfl fun _ => rfl

/-! ## The admission decision (R39 to R58, R80, R103) -/

/-- A Refuse or Refer verdict leaves a lane without a reservation as one without an operation (R80, R85). -/
theorem sendRefusal (h : s.Deciding A B l) (hv : B → (s.lane l).reservation = none) (v : Verdict) (c : Option TicketClass) :
    (s.sendRefusal l v c).ZonesSound A B :=
  h.settled (by simp) (fun m hm => by rw [State.lane_sendRefusal, if_neg hm]) fun hB => by
    rw [State.lane_sendRefusal, if_pos rfl]
    dsimp only
    split
    · exact ⟨rfl, Lane.Quiet.fit (by simp [Lane.Quiet, Lane.refusing]) (hv hB)⟩
    · exact ⟨(hv hB).symm, Lane.Quiet.fit (by simp [Lane.Quiet, Lane.cleared]) rfl⟩

/-- A refusal releases the reservation first (R52). -/
theorem refuse (h : s.Deciding A B l) (e : Option Reason) (k : Option Key) (c : Option TicketClass) (u : Option Nat) :
    (s.refuse l e k c u).ZonesSound A B :=
  Deciding.sendRefusal (h.release.same) (fun _ => by simp [State.lane_release]) _ c

theorem refuseFound (h : s.Deciding A B l) (e : Reason) (k : Key) (r : Record) : (s.refuseFound l e k r).ZonesSound A B :=
  h.refuse _ _ _ _

/-- A Grant opens the entry lane with its key (R54). -/
theorem openLane (h : s.Deciding A B l) (k : Key) (res : DecisionResult) : (s.openLane l (some k) res).ZonesSound A B :=
  h.settled (by simp) (fun m hm => by rw [State.lane_openLane, if_neg hm]) fun hB => by
    rw [State.lane_openLane, if_pos rfl]
    exact ⟨rfl, Lane.fit_opening res (.inl ⟨h.entry hB, rfl⟩)⟩

theorem grantHold (h : s.Deciding A B l) (k : Key) (i : Nat) (r : Record) (z : Option ZoneNo) (a : Authority) :
    (s.grantHold l k i r z a).ZonesSound A B :=
  (h.putRecord _ _).openLane k _

theorem confirmHold (h : s.Deciding A B l) (k : Key) (code : Option Nat) : (s.confirmHold l k code).1.ZonesSound A B := by
  unfold State.confirmHold
  dsimp only
  split
  · exact h.refuse _ _ _ _
  · split
    · exact h.refuseFound _ _ _
    · split
      · exact h.release.openLane k _
      · split
        · exact h.grantHold k _ _ _ _
        · exact h.refuseFound _ _ _

/-- A lane that waits for its query keeps its reservation (R55, R62). -/
theorem sendQuery (h : s.Deciding A B l) (k : Key) (code : Option Nat) (r : Record) :
    (s.sendQuery l k code r).ZonesSound A B := by
  unfold State.sendQuery
  dsimp only
  split
  · refine h.settled (by simp [State.pushPeer]) (fun m hm => by simp [hm, State.pushPeer]) fun hB => ?_
    rw [State.lane_endVerdict, State.lane_modLane, if_pos rfl]
    exact ⟨rfl, Lane.fit_querying (h.entry hB) k _⟩
  · exact (h.modPeers _).confirmHold k code

theorem authorize (h : s.Deciding A B l) (k : Key) (code : Option Nat) (i : Nat) (r : Record) :
    (s.authorize l k code i r).ZonesSound A B := by
  unfold State.authorize
  dsimp only
  split
  · exact ZonesSound.ite (h.openLane k _) (h.grantHold k i r _ _)
  · exact h.sendQuery k code r
  · exact ZonesSound.ite (h.grantHold k i r _ _) (h.refuseFound _ k r)

/-- A charged entry reserves at a lane that has no reservation yet (R50, R63). -/
theorem chargeAndAdmit (h : s.Deciding A B l) (hv : B → (s.lane l).reservation = none) (k : Key) (code : Option Nat) (i : Nat)
    (r : Record) : (s.chargeAndAdmit l k code i r).ZonesSound A B := by
  unfold State.chargeAndAdmit
  refine ZonesSound.ite ?_ (h.authorize k code i r)
  split
  · next hz => exact (h.reserve (hasRoom_of_selectZone hz) hv).authorize k code i r
  · exact h.refuseFound _ k r

theorem decideKey (h : s.Deciding A B l) (hv : B → (s.lane l).reservation = none) (k : Key) (code : Option Nat) :
    (s.decideKey l k code).ZonesSound A B := by
  unfold State.decideKey
  split
  · exact h.refuse _ _ _ _
  · split
    · exact h.refuseFound _ _ _
    · exact h.chargeAndAdmit hv k code _ _

theorem entryDecision (h : s.Deciding A B l) (hv : B → (s.lane l).reservation = none) (p : Presentation) :
    (s.entryDecision l p).ZonesSound A B := by
  unfold State.entryDecision
  refine ZonesSound.ite ((h.modLog _).sendRefusal hv _ none) ?_
  split
  · exact h.refuse _ _ _ _
  · exact h.decideKey hv _ _

end Deciding

namespace ZonesSound

variable {A B : Prop} {s : State} {l : LaneNo} {k : Key}

theorem exitGrant (h : s.ZonesSound A B) (hd : (s.lane l).direction = .exit) (hv : B → (s.lane l).reservation = none)
    (p : Presentation) : (s.exitGrant l p).ZonesSound A B :=
  h.lane (l := l) (by simp [State.exitGrant]) (fun m hm => by rw [State.exitGrant, State.lane_openLane, if_neg hm])
    fun hB => by
      rw [State.exitGrant, State.lane_openLane, if_pos rfl]
      exact ⟨rfl, fun _ => Lane.fit_opening _ (.inr ⟨hd, hv hB⟩)⟩

theorem countPresentation (h : s.ZonesSound A B) (l : LaneNo) : (s.countPresentation l).ZonesSound A B := h.touchLane.modBcm _

/-- A presentation runs a decision at a lane without an operation alone (R80). -/
theorem present (h : s.ZonesSound A B) (l : LaneNo) (p : Presentation) : (s.present l p).ZonesSound A B := by
  have hc := h.countPresentation l
  have hlane : (s.countPresentation l).lane l = { s.lane l with
      displayTimer := none,
      counts := { (s.lane l).counts with presentations := sat16 (s.lane l).counts.presentations } } := by
    simp [State.countPresentation]
  have hdir : ((s.countPresentation l).lane l).direction = (s.lane l).direction := by rw [hlane]; rfl
  have hv (hq : (s.lane l).Quiet) (hB : B) : ((s.countPresentation l).lane l).reservation = none := by
    rw [hlane]
    exact h.vacant hq hB
  have entry (hq : (s.lane l).Quiet) (hd : (s.lane l).direction = .entry) :
      ((s.countPresentation l).entryDecision l p).ZonesSound A B :=
    (hc.deciding fun _ => hdir.trans hd).entryDecision (hv hq) p
  have exit (hq : (s.lane l).Quiet) (hd : (s.lane l).direction = .exit) :
      ((s.countPresentation l).exitGrant l p).ZonesSound A B := hc.exitGrant (hdir.trans hd) (hv hq) p
  unfold State.present
  split
  · next hs hd => exact entry (by simp [Lane.Quiet, hs]) hd
  · next hs hd => exact entry (by simp [Lane.Quiet, hs]) hd
  · next hs hd => exact exit (by simp [Lane.Quiet, hs]) hd
  · next hs hd => exact exit (by simp [Lane.Quiet, hs]) hd
  · exact h.touchLane
  · exact h.touchLane
  · exact h

/-! ## Passages, rotations and timers (R59, R81 to R89) -/

theorem recordPassage (h : s.ZonesSound A B) (l : LaneNo) (k : Key) (res : DecisionResult) :
    (s.recordPassage l k res).ZonesSound A B := by
  unfold State.recordPassage
  split
  · exact h.putRecord _ _
  · exact h

theorem notifyEntry (h : s.ZonesSound A B) (l : LaneNo) (k : Key) (res : DecisionResult) (g : Recorded) :
    (s.notifyEntry l k res g).ZonesSound A B := (h.offerPeer _).drawn

theorem noteReconcile (h : s.ZonesSound A B) (l : LaneNo) (k : Key) (res : DecisionResult) (g : Recorded) :
    (s.noteReconcile l k res g).ZonesSound A B := by
  unfold State.noteReconcile State.addReconcile
  split
  · exact ite (ite (h.modPeers _) ((h.modPeers _).errorOccurs _ _ _)) h
  · exact h

/-- A passage commits the reservation of an entry lane, which has its key and its result (R81). -/
theorem endByPassage (h : s.ZonesSound A B) (ho : (s.lane l).state = .opened) (hg : (s.lane l).granted ≠ .exit) :
    (s.endByPassage l).ZonesSound A B := by
  unfold State.endByPassage
  split
  · next k res _ _ =>
    refine (((((h.recordPassage l k res).commitZone l).writeLog _).notifyEntry l k res _).noteReconcile l k res _).rest
      fun _ => ?_
    have hlane {u : State} {a : Admission} (g : Recorded) :
        ((((u.commitZone l).writeLog a).notifyEntry l k res g).noteReconcile l k res g).lane l = (u.commitZone l).lane l := by
      simp [State.lane, State.notifyEntry]
    rw [hlane, State.lane_commitZone, if_pos rfl]
  · next hn =>
    refine h.rest fun hB => ?_
    obtain ⟨-, hopen, -⟩ := h.fit hB l
    obtain ⟨hres, hdir | ⟨-, hkey⟩⟩ := hopen ho
    · simp [Lane.granted, hdir] at hg
    · obtain ⟨res, hres⟩ := Option.isSome_iff_exists.1 hres
      obtain ⟨k, hkey⟩ := Option.isSome_iff_exists.1 hkey
      exact absurd hres (hn k res hkey)

theorem logUnmatched (h : s.ZonesSound A B) (l : LaneNo) (k : Option Key) (r : Option Record) :
    (s.logUnmatched l k r).ZonesSound A B := h.writeLog _

theorem scanOut (h : s.ZonesSound A B) (z : Option ZoneNo) : (s.scanOut z).ZonesSound A B := by
  unfold State.scanOut
  split
  · refine h.modZone (fun ⟨hq, hmax, _⟩ => ⟨hq, hmax, ?_⟩) rfl
    simp only [Zone.scannedOut, sat16_eq]
    omega
  · exact h

theorem exitUpdate (h : s.ZonesSound A B) (l : LaneNo) : (s.exitUpdate l).ZonesSound A B := by
  unfold State.exitUpdate
  split
  · exact h.logUnmatched l _ _
  · split
    · exact h.logUnmatched l _ _
    · split
      · exact (((h.putRecord _ _).scanOut _).writeLog _).offerPeer _
      · exact h.logUnmatched l _ _

theorem endPassed (h : s.ZonesSound A B) (ho : (s.lane l).state = .opened) : (s.endPassed l).ZonesSound A B :=
  iteInduction (fun hg => (h.exitUpdate l).rest fun hB => by simpa using (h.fit hB l).vacant_of_exit hg)
    fun hg => h.endByPassage ho hg

theorem endUnpassed (h : s.ZonesSound A B) (l : LaneNo) (o : Outcome) : (s.endUnpassed l o).ZonesSound A B :=
  iteInduction (fun hg => h.rest fun hB => (h.fit hB l).vacant_of_exit hg) fun _ =>
    have ⟨ht, hv⟩ := h.endWithout l o
    ht.rest fun _ => hv

theorem tailgate (h : s.ZonesSound A B) (l : LaneNo) : (s.tailgate l).ZonesSound A B := ((h.raise _ _).writeLog _).touchLane

theorem ungranted (h : s.ZonesSound A B) (l : LaneNo) (d : Direction) : (s.ungranted l d).ZonesSound A B := by
  unfold State.ungranted
  split
  · exact ite (h.tailgate l) h
  · exact h
  · exact h.tailgate l
  · exact h.touchLane
  · exact h.tailgate l
  · exact h.tailgate l
  · exact h.logUnmatched l _ _
  · exact h.logUnmatched l _ _
  · exact h

theorem setMate (h : s.ZonesSound A B) (l head : LaneNo) : (s.setMate l head).ZonesSound A B := ite h.touchLane h

theorem rotation (h : s.ZonesSound A B) (l head : LaneNo) (d : Direction) : (s.rotation l head d).ZonesSound A B :=
  ite h.touchLane (iteInduction (fun ho => (ite (h.endPassed ho) (h.endUnpassed l _)).setMate l head)
    fun _ => h.ungranted l d)

theorem reverse (h : s.ZonesSound A B) (l : LaneNo) : (s.reverse l).ZonesSound A B := ite (h.endUnpassed l _) h

theorem passExpiry (h : s.ZonesSound A B) (l : LaneNo) : (s.passExpiry l).ZonesSound A B := by
  unfold State.passExpiry
  split
  · exact ite ((h.reach _).endUnpassed l _) h
  · exact h

theorem displayExpiry (h : s.ZonesSound A B) (l : LaneNo) : (s.displayExpiry l).ZonesSound A B := by
  unfold State.displayExpiry
  split
  · exact iteInduction (fun hs => (h.reach _).rest (h.vacant (l := l) (by simp [Lane.Quiet, hs]))) fun _ => h
  · exact h

/-! ## Peer frames and deadlines (R97 to R117) -/

theorem answerQuery (h : s.ZonesSound A B) (b : BankNo) (tag : Byte) (q : QueryFields) :
    (s.answerQuery b tag q).ZonesSound A B := by
  unfold State.answerQuery
  refine ite (h.offerPeer _).drawn ?_
  split
  · exact (h.offerPeer _).drawn
  · split
    · exact h.offerPeer _
    · exact (h.putRecord _ _).offerPeer _

/-- The lane of a query is an entry lane (R62, R104). -/
theorem decidingQuery {q : Query} (h : s.ZonesSound A B) (hq : B → s.QueriesReady) (hm : q ∈ s.peers.queries) :
    s.Deciding A B q.lane :=
  h.deciding fun hB => (hq hB q hm).2

theorem refuseHeld {q : Query} (h : s.Deciding A B q.lane) (e : Reason) (r : Option Record) :
    (s.refuseHeld q e r).ZonesSound A B :=
  (h.refuse _ _ _ _).offerPeer _

theorem grantAnswer {q : Query} (h : s.Deciding A B q.lane) : (s.grantAnswer q).ZonesSound A B := by
  unfold State.grantAnswer
  dsimp only
  split
  · exact refuseHeld h _ _
  · split
    · exact refuseHeld h _ _
    · exact refuseHeld h _ _
    · exact (h.putRecord _ _).openLane _ _

theorem matchedAnswer {q : Query} (h : s.Deciding A B q.lane) (a : AnswerFields) : (s.matchedAnswer q a).ZonesSound A B := by
  have ht : (s.dropQuery q.lane).Deciding A B q.lane := h.modPeers _
  unfold State.matchedAnswer
  dsimp only
  split
  · exact grantAnswer ht
  · exact ht.refuse _ _ _ _
  · exact ht.confirmHold _ _

theorem lateAnswer (h : s.ZonesSound A B) (e : Lapsed) (a : AnswerFields) : (s.lateAnswer e a).ZonesSound A B := by
  have ht := (h.modPeers fun p => { p with lapsed := p.lapsed.filter fun x => decide (x.tag ≠ e.tag) }).errorOccurs
    .lateAnswer none []
  unfold State.lateAnswer
  dsimp only
  split
  · exact ht.offerPeer _
  · exact ht.offerPeer _
  · exact (ht.writeLog _).raise _ _
  · exact ht

theorem takeAnswer (h : s.ZonesSound A B) (hq : B → s.QueriesReady) (b : BankNo) (tag : Byte) (a : AnswerFields) :
    (s.takeAnswer b tag a).ZonesSound A B := by
  unfold State.takeAnswer
  split
  · next q hf => exact matchedAnswer (h.decidingQuery hq (List.mem_of_find?_eq_some hf)) a
  · split
    · exact h.lateAnswer _ a
    · exact h.errorOccurs _ _ _

theorem applyEntry (h : s.ZonesSound A B) (n : EntryFields) (late : Bool) (i : Nat) (r : Record) :
    (s.applyEntry n late i r).ZonesSound A B :=
  have ht := h.putRecord i (r.enteredElsewhere (s.isHome r) n)
  ite (ht.writeLog _) (ite ht ((ht.writeLog _).raise _ _))

theorem takeEntry (h : s.ZonesSound A B) (n : EntryFields) : (s.takeEntry n).ZonesSound A B := by
  unfold State.takeEntry
  split
  · exact h
  · exact ite h (ite (h.putRecord _ _) (h.applyEntry n _ _ _))

theorem takeReconcile (h : s.ZonesSound A B) (n : EntryFields) : (s.takeReconcile n).ZonesSound A B := by
  unfold State.takeReconcile
  split
  · exact h
  · exact ite h (h.applyEntry n _ _ _)

theorem takeExit (h : s.ZonesSound A B) (n : ExitFields) : (s.takeExit n).ZonesSound A B := by
  unfold State.takeExit
  split
  · exact h
  · exact ite h (h.putRecord _ _)

theorem takeWithdraw (h : s.ZonesSound A B) (n : WithdrawFields) : (s.takeWithdraw n).ZonesSound A B := by
  unfold State.takeWithdraw
  split
  · exact h
  · exact ite (h.putRecord _ _) h

theorem actPeer (h : s.ZonesSound A B) (hq : B → s.QueriesReady) (b : BankNo) (tag : Byte) (p : PeerPayload) :
    (s.actPeer b tag p).ZonesSound A B := by
  cases p with
  | query q => exact h.answerQuery b tag q
  | answer a => exact (h.takeAnswer hq b tag a).settle
  | entry n => exact h.takeEntry n
  | exit n => exact h.takeExit n
  | withdraw n => exact h.takeWithdraw n
  | reconcile n => exact h.takeReconcile n

theorem reconcileSend (h : s.ZonesSound A B) (b : BankNo) : (s.reconcileSend b).ZonesSound A B := by
  unfold State.reconcileSend
  exact (h.modTrunk _).modPeers _

theorem hearPeer (h : s.ZonesSound A B) (b : BankNo) : (s.hearPeer b).ZonesSound A B := by
  have ht : (s.modPeer b fun p => { p with state := .up, timeouts := 0 }).ZonesSound A B := h.same
  unfold State.hearPeer
  split
  · exact ht
  · exact ht.reconcileSend b
  · exact (ht.raise _ _).reconcileSend b

theorem takePeer (h : s.ZonesSound A B) (hq : B → s.QueriesReady) (k : FrameKind) (src tag : Byte)
    (payload lead : List Byte) : (s.takePeer k src tag payload lead).ZonesSound A B := by
  unfold State.takePeer
  refine ite h ?_
  split
  · exact h
  · next b _ =>
    split
    · exact h.errorOccurs _ _ _
    · exact ite ((h.hearPeer b).actPeer (fun hB => (hq hB).hearPeer b) _ _ _) h

theorem queryExpiry (h : s.ZonesSound A B) (hq : B → s.QueriesReady) (l : LaneNo) : (s.queryExpiry l).ZonesSound A B := by
  unfold State.queryExpiry
  split
  · exact h
  · next q hf =>
    have hl : q.lane = l := by simpa using List.find?_some hf
    have ht : (((s.reach q.deadline).peerTimeout q.home).dropQuery l).ZonesSound A B :=
      ((h.reach _).peerTimeout _).modPeers _
    refine ZonesSound.same (Deciding.confirmHold (ht.deciding fun hB => ?_) _ _) rfl fun _ => rfl
    have hready := hq hB q (List.mem_of_find?_eq_some hf)
    rw [hl] at hready
    show (((s.reach _).peerTimeout _).lane l).direction = .entry
    rw [lane_peerTimeout]
    exact hready.2

theorem lapsedExpiry (h : s.ZonesSound A B) (tag : Byte) : (s.lapsedExpiry tag).ZonesSound A B := by
  unfold State.lapsedExpiry
  split
  · exact (h.reach _).modPeers _
  · exact h

theorem remoteExpiry (h : s.ZonesSound A B) (k : Key) : (s.remoteExpiry k).ZonesSound A B := by
  unfold State.remoteExpiry
  split
  · exact h
  · split
    · exact (((h.reach _).putRecord _ _).writeLog _).raise _ _
    · exact h

end ZonesSound
end State
end Sys2Proof.Machine
end

section
/-! SUPPORT. What keeps zones and reservations: the Lane Link, the reports of the lanes, and the reporting to the host. -/

namespace Sys2Proof.Machine

/-- Starting a lane's timer leaves its operation and its reservation (R81, R85). -/
theorem Lane.turns_timed (now : Nat) (c : SlotCommand) (n : Lane) : n.Turns (n.timed now c) := by
  unfold Lane.timed
  split <;> exact ⟨rfl, id⟩

namespace State.ZonesSound

variable {A B : Prop} {s : State} {l : LaneNo}

/-! ## The Lane Link (R123 to R136) -/

theorem failAccess (h : s.ZonesSound A B) (l : LaneNo) : (s.failAccess l).ZonesSound A B := by
  unfold State.failAccess
  split
  · exact ite (h.endAccess _ _ none) h
  · exact h

theorem startCycle (h : s.ZonesSound A B) : s.startCycle.ZonesSound A B :=
  ite (flagging (((h.reach _).modLink _).modLink _)) h

theorem sendHeader (h : s.ZonesSound A B) : s.sendHeader.ZonesSound A B := h.modLink _

theorem sendAutomatic (h : s.ZonesSound A B) : s.sendAutomatic.ZonesSound A B :=
  ite ((h.modLink _).sendHeader.modLink _) h

theorem sendTriggered (h : s.ZonesSound A B) : s.sendTriggered.ZonesSound A B := ite h.sendHeader h

theorem sendSlot (h : s.ZonesSound A B) (l : LaneNo) (c : SlotCommand) : (s.sendSlot l c).ZonesSound A B := by
  have ht := ((h.modSlot l (Slot.sending c)).touchLane (l := l) (Lane.turns_timed s.now c _)).modLink
    fun k => { k with awaiting := true, line := commandBytes s.draws l c }
  unfold State.sendSlot
  dsimp only
  split
  · exact (ht.modMge _).drawn
  · exact ht.drawn

theorem sendIf (h : s.ZonesSound A B) (l : LaneNo) (kind : SlotCommand → Bool) : (s.sendIf l kind).ZonesSound A B := by
  unfold State.sendIf
  refine ite ?_ h
  split
  · exact ite (h.sendSlot l _) h
  · exact h

theorem endSlot (h : s.ZonesSound A B) (l : LaneNo) : (s.endSlot l).ZonesSound A B :=
  have ht := (h.modLink (Link.slotEnded l)).modMge fun m => { m with phase := m.phase.slotEnded l }
  ite (ite ht.stopLink.startLink ht.stopLink) ht

theorem loseSlot (h : s.ZonesSound A B) (l : LaneNo) : (s.loseSlot l).ZonesSound A B :=
  (((h.modSlot l _).raise _ _).loseLane l).failAccess l

theorem queueMode (h : s.ZonesSound A B) (l : LaneNo) : (s.queueMode l).ZonesSound A B := h.modSlot l _

theorem joined (h : s.ZonesSound A B) (l : LaneNo) : (s.joined l).ZonesSound A B :=
  (((h.modSlot l _).raise _ _).queueMode l).offerIdle l

theorem requeue (h : s.ZonesSound A B) (l : LaneNo) (c : SlotCommand) : (s.requeue l c).ZonesSound A B := by
  unfold State.requeue
  split
  · exact ite (h.modSlot l _) h
  · exact ite (h.modSlot l _) h
  · exact h.queueMode l
  · exact ite (h.modSlot l _) h
  · exact h

theorem duplicate (h : s.ZonesSound A B) (l : LaneNo) : (s.duplicate l).ZonesSound A B := by
  unfold State.duplicate
  split
  · exact (h.modSlot l _).requeue l _
  · exact h

theorem judge (h : s.ZonesSound A B) (l : LaneNo) (r : Option Report) : (s.judge l r).ZonesSound A B := by
  unfold State.judge
  split
  · exact ite h (h.modSlot l _)
  · exact h

theorem confirm (h : s.ZonesSound A B) (l : LaneNo) (image : ControlImage) : (s.confirm l image).ZonesSound A B := by
  have ht := h.touchLane (l := l) (f := fun x => { x with
    confirmed := some image, commanding := if image = (s.lane l).control then false else x.commanding })
  exact ite (ite (ht.raise _ _) ht) (ht.queueMode l)

theorem answerAccess (h : s.ZonesSound A B) (l : LaneNo) (v : BitVec 16) : (s.answerAccess l v).ZonesSound A B := by
  unfold State.answerAccess
  split
  · exact ite (h.endAccess _ l _) h
  · exact h

theorem handOn (h : s.ZonesSound A B) (l : LaneNo) (r : Report) : (s.handOn l r).ZonesSound A B := by
  cases r with
  | nothing | hello _ | testEcho _ => exact h
  | presentation p => exact h.present _ p
  | passage d | forced d => exact h.rotation _ l d
  | reverse => exact h.reverse _
  | button | fault => exact h.raise _ _
  | confirm image => exact h.confirm l image
  | parameterAnswer v => exact h.answerAccess l v

theorem countMate (h : s.ZonesSound A B) (l : LaneNo) : (s.countMate l).ZonesSound A B :=
  ite (h.touchLane) h

theorem activeReport (h : s.ZonesSound A B) (l : LaneNo) (fresh : Bool) (r : Report) :
    (s.activeReport l fresh r).ZonesSound A B :=
  ite (((h.judge l _).modSlot l _).handOn l r) ((h.judge l _).duplicate l)

theorem joiningReport (h : s.ZonesSound A B) (l : LaneNo) : (s.joiningReport l).ZonesSound A B :=
  ite (h.joined l) (h.modSlot l _)

theorem byLink (h : s.ZonesSound A B) (l : LaneNo) (fresh : Bool) (r : Report) : (s.byLink l fresh r).ZonesSound A B := by
  unfold State.byLink
  split
  · exact h.modSlot l _
  · exact h.modSlot l _
  · exact (h.judge l _).loseSlot l
  · exact h
  · exact h
  · exact h.joiningReport l
  · exact h.activeReport l fresh _

theorem heard (h : s.ZonesSound A B) (l : LaneNo) (fresh : Bool) (r : Report) : (s.heard l fresh r).ZonesSound A B :=
  ite ((h.byLink l fresh r).countMate l) (h.byLink l fresh r)

theorem goodReply (h : s.ZonesSound A B) (l : LaneNo) (n : Fin 16) (r : Report) : (s.goodReply l n r).ZonesSound A B :=
  ite ((ite h ((h.modSlot l _).heard l _ r).settle).endSlot l) h

theorem failure (h : s.ZonesSound A B) (l : LaneNo) : (s.failure l).ZonesSound A B := by
  unfold State.failure
  split
  · exact (h.judge l none).modSlot l _
  · exact h.modSlot l _
  · exact h
  · exact h

theorem noReply (h : s.ZonesSound A B) (l : LaneNo) : (s.noReply l).ZonesSound A B := ite ((ite h (h.failure l)).endSlot l) h

theorem garbled (h : s.ZonesSound A B) (l : LaneNo) : (s.garbled l).ZonesSound A B :=
  have ht := h.errorOccurs .laneReply none []
  ite ((ite ht (ht.failure l)).endSlot l) h

theorem replyReceived (h : s.ZonesSound A B) (l : LaneNo) (bs : List Byte) : (s.replyReceived l bs).ZonesSound A B := by
  unfold State.replyReceived
  split
  · exact h.goodReply l _ _
  · exact h.garbled l

theorem slotLost (h : s.ZonesSound A B) (l : LaneNo) : (s.slotLost l).ZonesSound A B := ite (h.loseSlot l).settle h

theorem clearMate (h : s.ZonesSound A B) (l : LaneNo) : (s.clearMate l).ZonesSound A B :=
  ite (h.touchLane) h

theorem testEnded (h : s.ZonesSound A B) : s.testEnded.ZonesSound A B := ite h.endTest h

/-! ## Reports and the arbiter (R145 to R148, R172, R182 to R184) -/

theorem pushReport (h : s.ZonesSound A B) (k : FrameKind) (b : Body) : (s.pushReport k b).ZonesSound A B := h.same

theorem drainTest (h : s.ZonesSound A B) : s.drainTest.ZonesSound A B := h.same

theorem buildTally (h : s.ZonesSound A B) : s.buildTally.ZonesSound A B :=
  (flagging ((h.pushReport _ _).drawn.modLog _)).drainTest

theorem holdExpiry (h : s.ZonesSound A B) : s.holdExpiry.ZonesSound A B := by
  unfold State.holdExpiry
  split
  · exact (h.reach _).drainTest
  · exact h

theorem endAudit (h : s.ZonesSound A B) (sent missing : Nat) : (s.endAudit sent missing).ZonesSound A B :=
  (h.modLog _).raise _ _

theorem pushAudit (h : s.ZonesSound A B) (es : List Entry) : (s.pushAudit es).ZonesSound A B := by
  cases es with
  | nil => exact h
  | cons => exact (h.pushReport _ _).drawn

theorem buildAudit (h : s.ZonesSound A B) (a : Audit) : (s.buildAudit a).ZonesSound A B :=
  ite ((h.pushAudit _).endAudit _ _) ((h.pushAudit _).modLog _)

theorem tryEvent (h : s.ZonesSound A B) : s.tryEvent.ZonesSound A B := ite ((h.pushReport _ _).modEvu _) h

theorem holdoffExpiry (h : s.ZonesSound A B) : s.holdoffExpiry.ZonesSound A B := by
  unfold State.holdoffExpiry
  split
  · exact ((h.reach _).modEvu _).tryEvent
  · exact h

theorem statusExpiry (h : s.ZonesSound A B) : s.statusExpiry.ZonesSound A B := by
  unfold State.statusExpiry
  split
  · exact (h.reach _).modEvu _
  · exact h

theorem placeStatus (h : s.ZonesSound A B) (part : Nat) (rest : List Byte) : (s.placeStatus part rest).ZonesSound A B :=
  ite ((h.pushReport _ _).modEvu _) ((h.pushReport _ _).modEvu _)

theorem tryStatus (h : s.ZonesSound A B) : s.tryStatus.ZonesSound A B := by
  unfold State.tryStatus
  refine ite ?_ h
  split
  · exact h.placeStatus _ _
  · exact ite (h.placeStatus _ _).drawn h

theorem sendFrame (h : s.ZonesSound A B) : s.sendFrame.ZonesSound A B := by
  unfold State.sendFrame
  split
  · exact h.modTrunk _
  · exact (h.modTrunk _).drainTest
  · exact h.modTrunk _
  · exact h

end State.ZonesSound
end Sys2Proof.Machine
end
section
/-! SUPPORT. What keeps zones and reservations: the requests about the bank, its policy, its lanes and its settings. -/

namespace Sys2Proof.Machine
namespace State.ZonesSound

variable {A B : Prop} {s : State} {l : LaneNo} {k : Key}

/-! ## Management requests: the frame of work (R173 to R175) -/

theorem beginRequest (h : s.ZonesSound A B) : s.beginRequest.ZonesSound A B := h.modMge _

theorem setPhase (h : s.ZonesSound A B) (p : MgePhase) : (s.setPhase p).ZonesSound A B := h.modMge _

theorem serveWith {α : Type} (h : s.ZonesSound A B) (code : Nat) (m : Taken) (rd : Reader α)
    {act : ReplyHead → α → State → State} (ha : ∀ x a t, t.ZonesSound A B → (act x a t).ZonesSound A B) :
    (s.serveWith code m rd act).ZonesSound A B := by
  unfold State.serveWith
  split
  · exact h
  · refine ite ?_ h
    dsimp only
    split
    · exact h.beginRequest.sendReply _ _
    · exact ite (ha _ _ _ h.beginRequest) (h.beginRequest.sendReply _ _)

/-- A request that replies as soon as it has executed (R173). -/
theorem serve {α : Type} (h : s.ZonesSound A B) (code : Nat) (m : Taken) (rd : Reader α) {f : α → State → State × Reply}
    (hf : ∀ a t, t.ZonesSound A B → (f a t).1.ZonesSound A B) : (s.serve code m rd f).ZonesSound A B :=
  h.serveWith code m rd fun _ a t ht => (hf a t ht).sendReply _ _

theorem serveUnknown (h : s.ZonesSound A B) : s.serveUnknown.ZonesSound A B := by
  unfold State.serveUnknown
  split
  · exact h
  · split
    · exact h.beginRequest.sendReply _ _
    · exact ite h ((h.beginRequest.errorOccurs _ _ _).sendReply _ _)

theorem placeReply (h : s.ZonesSound A B) : s.placeReply.ZonesSound A B := by
  unfold State.placeReply
  split
  · exact h.same
  · exact h

/-- The state of a request's result. -/
theorem pair {β : Type} {a : State} (h : a.ZonesSound A B) (b : β) : (a, b).1.ZonesSound A B := h

/-! ## The bank, its clock, its schedule and its mode (R151 to R160, R169) -/

theorem doAssignBank (h : s.ZonesSound A B) (n : Nat) : (doAssignBank n s).1.ZonesSound A B := by
  unfold Machine.doAssignBank
  split
  · exact pair (flagging (h.same rfl fun _ => rfl)) _
  · exact h

theorem doSetEvent (h : s.ZonesSound A B) (n : Nat) : (doSetEvent n s).1.ZonesSound A B := by
  unfold Machine.doSetEvent
  split
  · exact pair (h.modBcm _) _
  · split
    · exact h
    · exact pair (h.modBcm _) _

theorem doSetClock (h : s.ZonesSound A B) (v : Nat) : (doSetClock v s).1.ZonesSound A B := by
  unfold Machine.doSetClock
  split
  · exact h
  · exact pair ((h.modBcm _).scheduleAt v) _

theorem doSetSchedule (h : s.ZonesSound A B) (f : ScheduleFields) : (doSetSchedule f s).1.ZonesSound A B := by
  unfold Machine.doSetSchedule
  dsimp only
  split
  · split
    · exact h
    · exact pair (h.modBcm _) _
  · exact h

theorem requestOpen (h : s.ZonesSound A B) (cs : List Cause) : (s.requestOpen cs).1.ZonesSound A B := by
  unfold State.requestOpen
  split
  · exact h
  · split
    · exact h
    · exact pair (h.enterOpen cs).settle _

theorem requestDormant (h : s.ZonesSound A B) (m : RestMode) : (s.requestDormant m).1.ZonesSound A B := by
  unfold State.requestDormant
  split
  · exact h
  · exact pair (h.enterDormant m) _

theorem recordDormant (h : s.ZonesSound A B) (m : RestMode) : (s.recordDormant m).1.ZonesSound A B :=
  pair (h.modBcm _) _

theorem requestMode (h : s.ZonesSound A B) (m : BankMode) : (s.requestMode m).1.ZonesSound A B := by
  unfold State.requestMode
  split
  · exact h
  · exact h
  · exact h
  · exact h
  · exact h.requestOpen _
  · exact h.requestDormant _
  · exact h.requestDormant _
  · exact pair (h.enterClosing _) _
  · exact pair (h.enterOpen _).settle _
  · exact h.recordDormant _
  · exact h.recordDormant _
  · exact pair h.leaveStandby _
  · exact h.requestOpen _
  · exact h.requestDormant _
  · exact h

theorem doSetBankMode (h : s.ZonesSound A B) (n : Nat) : (doSetBankMode n s).1.ZonesSound A B := by
  unfold Machine.doSetBankMode
  split
  · exact h.requestMode _
  · exact h

theorem doSetWakePattern (h : s.ZonesSound A B) (f : WakeFields) : (doSetWakePattern f s).1.ZonesSound A B := by
  unfold Machine.doSetWakePattern
  split
  · exact h
  · exact pair (h.modBcm _) _

/-! ## The Policy Store and the lanes (R3, R5, R76, R90 to R95, R130, R134) -/

theorem recountLane (h : s.ZonesSound A B) (l : LaneNo) : (s.recountLane l).ZonesSound A B := by
  unfold State.recountLane
  split
  · exact h.tryIdle l
  · next hs => exact ite (h.restIdle hs) h
  · exact h

theorem changeCount (h : s.ZonesSound A B) (np : Nat) : (s.changeCount np).ZonesSound A B :=
  have ht := h.modPolicy (Policy.recount np)
  ((ite (ht.errorOccurs _ _ _) ht).eachLane fun l _ ht => ht.recountLane l).settle

theorem doSetProfileCount (h : s.ZonesSound A B) (n : Nat) : (doSetProfileCount n s).1.ZonesSound A B :=
  pair (ite h (h.changeCount _)) _

theorem storeProfile (h : s.ZonesSound A B) (p : Fin 8) (x : Profile) : (s.storeProfile p x).ZonesSound A B :=
  ((h.modPolicy _).eachLane fun l _ ht => ite (ht.readopt l) ht).settle

theorem doWriteProfile (h : s.ZonesSound A B) (f : ProfileFields) : (doWriteProfile f s).1.ZonesSound A B := by
  unfold Machine.doWriteProfile
  split
  · exact h
  · split
    · exact h
    · split
      · exact pair (h.storeProfile _ _) _
      · exact h

theorem setTemplate (h : s.ZonesSound A B) (i : Fin 16) (t : Option Template) : (s.setTemplate i t).ZonesSound A B :=
  h.modPolicy _

theorem loadTemplate (h : s.ZonesSound A B) (i : Fin 16) (f : TemplateFields) : (s.loadTemplate i f).1.ZonesSound A B := by
  unfold State.loadTemplate
  split
  · exact h
  · split
    · exact h
    · exact pair (h.setTemplate i _) _

theorem doWriteTemplate (h : s.ZonesSound A B) (r : TemplateRequest) : (doWriteTemplate r s).1.ZonesSound A B := by
  unfold Machine.doWriteTemplate
  split
  · split
    · exact h
    · split
      · exact h.loadTemplate _ _
      · split
        · exact pair (h.setTemplate _ _) _
        · exact h
  · exact h

theorem choose (h : s.ZonesSound A B) (l : LaneNo) (p : Fin 8) : (s.choose l p).ZonesSound A B :=
  ite h ((h.touchLane).readopt l).settle

theorem doSetLaneProfileChoice (h : s.ZonesSound A B) (f : ChoiceFields) : (doSetLaneProfileChoice f s).1.ZonesSound A B := by
  unfold Machine.doSetLaneProfileChoice
  split
  · exact pair (h.choose _ _) _
  · exact h

theorem requestCombine (h : s.ZonesSound A B) (l : LaneNo) (f : Option Nat) (c : Bool) :
    (s.requestCombine l f c).ZonesSound A B := by
  unfold State.requestCombine
  split
  · exact h.withPairs _
  · exact h

theorem commandLane (h : s.ZonesSound A B) (l : LaneNo) : (s.commandLane l).ZonesSound A B :=
  ite ((h.touchLane).queueMode l) h

theorem controlLane (h : s.ZonesSound A B) (l : LaneNo) (f : ControlFields) (c : ControlImage) (reset : Bool) :
    (s.controlLane l f c reset).ZonesSound A B := by
  have ht := ((h.touchLane (l := l) (f := fun n => { n with control := c })).requestCombine l f.combine
    c.combine).commandLane l
  have hu := (ite (c := (s.lane l).control.override ≠ c.override ∨ (s.lane l).control.power ≠ c.power) (ht.readopt l)
    ht).settle
  exact ite (hu.resetLane l).settle hu

theorem doSetLaneControl (h : s.ZonesSound A B) (f : ControlFields) : (doSetLaneControl f s).1.ZonesSound A B := by
  unfold Machine.doSetLaneControl
  split
  · exact h
  · split
    · exact pair (h.controlLane _ f _ _) _
    · exact h

theorem beginAccess (h : s.ZonesSound A B) (x : ReplyHead) (a : Access) : (s.beginAccess x a).ZonesSound A B :=
  ite (h.endAccess x _ none) ((h.modSlot _ _).setPhase _)

theorem actLaneParameterAccess (h : s.ZonesSound A B) (x : ReplyHead) (f : AccessFields) :
    (actLaneParameterAccess x f s).ZonesSound A B := by
  unfold Machine.actLaneParameterAccess
  split
  · exact ite (h.sendReply _ _) (h.beginAccess _ _)
  · exact h.sendReply _ _

theorem accessTimeout (h : s.ZonesSound A B) : s.accessTimeout.ZonesSound A B := by
  unfold State.accessTimeout
  split
  · exact ite (h.endAccess _ _ none) h
  · exact h

theorem doLaneLinkTest (h : s.ZonesSound A B) (f : TestFields) : (doLaneLinkTest f s).1.ZonesSound A B := by
  unfold Machine.doLaneLinkTest
  split
  · exact h
  · exact pair (h.modLink _) _

theorem doSetLinkHeader (h : s.ZonesSound A B) (f : HeaderFields) : (doSetLinkHeader f s).1.ZonesSound A B := by
  unfold Machine.doSetLinkHeader
  dsimp only
  split
  · exact pair (h.modLink _) _
  · exact h

theorem doClearCounts (h : s.ZonesSound A B) (n : Nat) : (doClearCounts n s).1.ZonesSound A B := by
  unfold Machine.doClearCounts
  split
  · exact h
  · exact pair (h.eachLane fun l _ ht => ite (ht.touchLane) ht) _

/-! ## Zones, peers, reporting, events, errors and the log (R67 to R69, R99, R147, R162, R166, R177, R181, R187) -/

/-- The quota applied is at least Entered + Held, and it has its range (R67). -/
theorem setQuota (h : s.ZonesSound A B) (z : ZoneNo) (v : Nat) : (s.setQuota z (quotaOf (s.zone z) v)).ZonesSound A B := by
  have ht : (s.modZone z fun x => { x with quota := quotaOf (s.zone z) v }).ZonesSound A B :=
    h.modZone (fun ⟨hq, hmax, hscan⟩ => ⟨le_max_right _ _, max_le (min_le_right _ _) (hq.trans hmax), hscan⟩) rfl
  exact ite ht (ht.reportFull z)

theorem doSetZoneQuota (h : s.ZonesSound A B) (f : QuotaFields) : (doSetZoneQuota f s).1.ZonesSound A B := by
  unfold Machine.doSetZoneQuota
  split
  · exact h
  · exact pair (h.setQuota _ _) _

/-- Entered falls to 0 and Held stays (R68). -/
theorem resetZone (h : s.ZonesSound A B) (n : Nat) (z : ZoneNo) : (s.resetZone n z).ZonesSound A B :=
  ite (h.modZone (fun ⟨hq, hmax, _⟩ => ⟨by simp only [Zone.countsReset]; omega, hmax, Nat.zero_le _⟩) rfl) h

theorem doResetZoneCounts (h : s.ZonesSound A B) (n : Nat) : (doResetZoneCounts n s).1.ZonesSound A B := by
  unfold Machine.doResetZoneCounts
  split
  · exact h
  · exact pair (h.foldl (fun _ z ht => ht.resetZone n z) _) _

theorem doSetPeer (h : s.ZonesSound A B) (f : PeerFields) : (doSetPeer f s).1.ZonesSound A B := by
  unfold Machine.doSetPeer
  split
  · exact h
  · split
    · exact h
    · exact pair h.same _

theorem doReadLog (h : s.ZonesSound A B) (f : LogFields) : (doReadLog f s).1.ZonesSound A B := by
  unfold Machine.doReadLog
  split
  · split
    · exact pair (h.endAudit _ _) _
    · exact h
  · split
    · exact h
    · exact pair (h.modLog _) _

theorem setLevels (h : s.ZonesSound A B) (f : LevelFields) : (s.setLevels f).ZonesSound A B := by
  have ht : ((s.modEvu f.applied).offerNew s.evu).ZonesSound A B :=
    (h.modEvu f.applied).foldl (fun _ c ht => ite ht.same ht) _
  exact ite ht.same ht

theorem doSetEventLevels (h : s.ZonesSound A B) (f : LevelFields) : (doSetEventLevels f s).1.ZonesSound A B := by
  unfold Machine.doSetEventLevels
  split
  · split
    · exact h
    · exact pair (h.setLevels f) _
  · exact pair (h.setLevels f) _

theorem doClearErrors (h : s.ZonesSound A B) (n : Nat) : (doClearErrors n s).1.ZonesSound A B := by
  unfold Machine.doClearErrors
  split
  · exact h
  · exact pair (h.modEvu _) _

theorem doClearEvents (h : s.ZonesSound A B) (n : Nat) : (doClearEvents n s).1.ZonesSound A B := by
  unfold Machine.doClearEvents
  split
  · exact h
  · exact pair (h.modEvu _) _

theorem doSetReporting (h : s.ZonesSound A B) (f : ReportingFields) : (doSetReporting f s).1.ZonesSound A B := by
  unfold Machine.doSetReporting
  split
  · exact pair ((((h.modLog _).modBcm _).modTrunk _).modEvu _).drainTest _
  · exact h

end State.ZonesSound
end Sys2Proof.Machine
end

section
/-! SUPPORT. What keeps zones and reservations: the requests about the table, the clock, the frames received; then every
command and every step. -/

namespace Sys2Proof.Machine

namespace State.ZonesSound

variable {A B : Prop} {s : State} {l : LaneNo} {k : Key}

/-! ## The Entitlement Table (R17, R23 to R31) -/

theorem beginSweep (h : s.ZonesSound A B) (x : ReplyHead) (p : Option Nat) : (s.beginSweep x p).ZonesSound A B :=
  (h.modTable _).setPhase _

theorem endSweep (h : s.ZonesSound A B) : s.endSweep.ZonesSound A B := by
  unfold State.endSweep
  split
  · exact (h.modTable _).sendReply _ _
  · exact h

theorem actSetTableGeometry (h : s.ZonesSound A B) (x : ReplyHead) (f : GeometryFields) :
    (actSetTableGeometry x f s).ZonesSound A B :=
  ite (h.sendReply _ _) (ite (h.sendReply _ _) ((h.modTable _).beginSweep _ _))

theorem actClearTable (h : s.ZonesSound A B) (x : ReplyHead) (u : Unit) : (actClearTable x u s).ZonesSound A B :=
  ite (h.sendReply _ _) (h.beginSweep _ _)

theorem eachEntry {α : Type} (h : s.ZonesSound A B) {f : α → State → State × EntryResult}
    (hf : ∀ a t, t.ZonesSound A B → (f a t).1.ZonesSound A B) (xs : List α) : (s.eachEntry f xs).1.ZonesSound A B := by
  induction xs generalizing s with
  | nil => exact h
  | cons a xs ih => exact ih (hf a s h)

theorem runList {α : Type} (h : s.ZonesSound A B) (xs : List α) {f : α → State → State × EntryResult}
    (hf : ∀ a t, t.ZonesSound A B → (f a t).1.ZonesSound A B) : (s.runList xs f).1.ZonesSound A B := by
  unfold State.runList
  split
  · exact h
  · exact pair (h.eachEntry hf xs) _

theorem upsertOne (h : s.ZonesSound A B) (x : RawImage) : (s.upsertOne x).1.ZonesSound A B := by
  unfold State.upsertOne State.upsertImage
  split
  · exact h
  · split
    · exact pair (h.putRecord _ _) _
    · split
      · exact pair (h.putRecord _ _) _
      · exact pair (h.errorOccurs _ _ _) _

theorem fillOne (h : s.ZonesSound A B) (e : Nat × RawImage) : (s.fillOne e).1.ZonesSound A B := by
  unfold State.fillOne State.fillImage
  dsimp only
  split
  · exact h
  · split
    · exact h
    · split
      · exact h
      · split
        · split
          · exact pair (h.putRecord _ _) _
          · exact h
        · exact pair (h.putRecord _ _) _

theorem revokeOne (h : s.ZonesSound A B) (e : Fin 16) (k : Key) : (s.revokeOne e k).1.ZonesSound A B := by
  unfold State.revokeOne
  split
  · exact h
  · exact pair (h.putRecord _ _) _

theorem doRevokeRecords (h : s.ZonesSound A B) (f : RevokeFields) : (doRevokeRecords f s).1.ZonesSound A B := by
  unfold Machine.doRevokeRecords
  split
  · exact h
  · split
    · exact h.runList _ fun k _ ht => ht.revokeOne _ k
    · exact h

theorem purgeOne (h : s.ZonesSound A B) (k : Key) : (s.purgeOne k).1.ZonesSound A B := by
  unfold State.purgeOne
  split
  · exact h
  · split
    · exact h
    · exact pair (h.modTable _) _

theorem doPurgeRecords (h : s.ZonesSound A B) (ks : List RawKey) : (doPurgeRecords ks s).1.ZonesSound A B := by
  unfold Machine.doPurgeRecords
  split
  · exact h
  · exact h.runList _ fun k _ ht => ht.purgeOne k

theorem doReadRecord (h : s.ZonesSound A B) (k : RawKey) : (doReadRecord k s).1.ZonesSound A B := by
  unfold Machine.doReadRecord
  split
  · exact h
  · exact pair h.drawn _

/-! ## The clock, the surge estimator and power-on (R151, R161, R163) -/

theorem advanceClock (h : s.ZonesSound A B) : s.advanceClock.ZonesSound A B := by
  unfold State.advanceClock
  split
  · exact h
  · next t _ =>
    have hu := (h.reach s.bcm.tick).modBcm fun b => { b with clock := some (nextTenth t), tick := b.tick + 100 }
    exact (ite (hu.raise _ _) hu).scheduleAt _

theorem updateSurge (h : s.ZonesSound A B) : s.updateSurge.ZonesSound A B := by
  have ht := flagging ((h.reach s.bcm.surge.due).modBcm fun b => { b with surge := b.surge.updated })
  unfold State.updateSurge State.surgeEvents
  split
  · exact (ht.raise _ _).drainTest
  · exact (ht.raise _ _).drainTest
  · exact ht

/-- At power-on every count is 0 and no lane has an operation (R61, R74). -/
theorem powerUp (s : State) : s.powerUp.ZonesSound A B where
  within _ z := by
    show (State.reset.zone z).within
    rw [State.zone_reset]
    simp [Zone.within, Zone.initial]
  fit _ l := by
    show (State.reset.lane l).Fit
    rw [State.lane_reset]
    exact Lane.Quiet.fit ⟨nofun, nofun⟩ rfl
  counts _ z := by
    show (State.reset.zone z).held =
      ((List.finRange 16).filter fun l => decide ((State.reset.lane l).reservation = some z)).length ∧
        (State.reset.zone z).held ≤ 16
    simp [Zone.initial, Lane.initial]

/-! ## Frames received (R165 to R168) -/

theorem takeWake (h : s.ZonesSound A B) (payload : List Byte) : (s.takeWake payload).ZonesSound A B :=
  ite (leaveDeep (h.modTrunk _)) (h.modTrunk _)

theorem takeRequest (h : s.ZonesSound A B) (f : FrameFields) (lead : List Byte) : (s.takeRequest f lead).ZonesSound A B :=
  ite (h.modMge _) (h.errorOccurs _ _ _)

theorem byKind (h : s.ZonesSound A B) (hq : B → s.QueriesReady) (k : FrameKind) (f : FrameFields) (lead : List Byte) :
    (s.byKind k f lead).ZonesSound A B := by
  have hu : s.countUnwanted.ZonesSound A B := h.modTrunk _
  have ht : s.countTaken.ZonesSound A B := h.modTrunk _
  cases k with
  | request => exact ite (ht.takeRequest f lead) hu
  | query | answer | withdrawNotice | reconcileNotice | entryNotice | exitNotice =>
    exact ite (ht.takePeer hq _ _ _ _ _) hu
  | wake | reply | tally | event | status | audit => exact hu

theorem receive (h : s.ZonesSound A B) (hq : B → s.QueriesReady) (bs : List Byte) : (s.receive bs).ZonesSound A B := by
  unfold State.receive
  split
  · exact h.errorOccurs _ _ _
  · exact ite (h.modTrunk _) (ite (ite (h.takeWake _) (h.modTrunk _)) (h.byKind hq _ _ _))

end State.ZonesSound

/-! ## Every command and every step -/

/-- Every command answers a next state, its zones and reservations sound. -/
theorem State.ZonesSound.exec {A B : Prop} {s : State} (h : s.ZonesSound A B) (hq : B → s.QueriesReady) (c : Instr) :
    ∃ t, exec c s = .next t ∧ t.ZonesSound A B := by
  cases c with
  | powerOn => exact ⟨_, rfl, powerUp s⟩
  | requestFrame | admissionQuery | answer | entryNotice | exitNotice | withdrawNotice | reconcileNotice | wakeFrame
  | unwantedFrame | damagedFrame => exact ⟨_, rfl, h.receive hq _⟩
  | identify => exact ⟨_, rfl, h.serve _ _ _ fun _ _ ht => ht⟩
  | assignBank => exact ⟨_, rfl, h.serve _ _ _ fun n _ ht => ht.doAssignBank n⟩
  | setEvent => exact ⟨_, rfl, h.serve _ _ _ fun n _ ht => ht.doSetEvent n⟩
  | setClock => exact ⟨_, rfl, h.serve _ _ _ fun v _ ht => ht.doSetClock v⟩
  | setSchedule => exact ⟨_, rfl, h.serve _ _ _ fun f _ ht => ht.doSetSchedule f⟩
  | setBankMode => exact ⟨_, rfl, h.serve _ _ _ fun n _ ht => ht.doSetBankMode n⟩
  | bankReset => exact ⟨_, rfl, h.serve _ _ _ fun _ _ ht => pair ht.doBankReset _⟩
  | setTableGeometry => exact ⟨_, rfl, h.serveWith _ _ _ fun x f _ ht => ht.actSetTableGeometry x f⟩
  | upsertRecords =>
    exact ⟨_, rfl, h.serve _ _ _ fun rs _ ht => ht.runList rs fun r _ hu => hu.upsertOne r⟩
  | fillSlots => exact ⟨_, rfl, h.serve _ _ _ fun _ _ ht => ht.runList _ fun e _ hu => hu.fillOne e⟩
  | revokeRecords => exact ⟨_, rfl, h.serve _ _ _ fun f _ ht => ht.doRevokeRecords f⟩
  | purgeRecords => exact ⟨_, rfl, h.serve _ _ _ fun ks _ ht => ht.doPurgeRecords ks⟩
  | readRecord => exact ⟨_, rfl, h.serve _ _ _ fun k _ ht => ht.doReadRecord k⟩
  | clearTable => exact ⟨_, rfl, h.serveWith _ _ _ fun x u _ ht => ht.actClearTable x u⟩
  | sweepEnd => exact ⟨_, rfl, h.endSweep⟩
  | setProfileCount => exact ⟨_, rfl, h.serve _ _ _ fun n _ ht => ht.doSetProfileCount n⟩
  | writeProfile => exact ⟨_, rfl, h.serve _ _ _ fun f _ ht => ht.doWriteProfile f⟩
  | writeTemplate => exact ⟨_, rfl, h.serve _ _ _ fun r _ ht => ht.doWriteTemplate r⟩
  | setLaneProfileChoice => exact ⟨_, rfl, h.serve _ _ _ fun f _ ht => ht.doSetLaneProfileChoice f⟩
  | setLaneControl => exact ⟨_, rfl, h.serve _ _ _ fun f _ ht => ht.doSetLaneControl f⟩
  | laneParameterAccess => exact ⟨_, rfl, h.serveWith _ _ _ fun x f _ ht => ht.actLaneParameterAccess x f⟩
  | laneAccessTimeout => exact ⟨_, rfl, h.accessTimeout⟩
  | laneLinkTest => exact ⟨_, rfl, h.serve _ _ _ fun f _ ht => ht.doLaneLinkTest f⟩
  | setLinkHeader => exact ⟨_, rfl, h.serve _ _ _ fun f _ ht => ht.doSetLinkHeader f⟩
  | setZoneQuota => exact ⟨_, rfl, h.serve _ _ _ fun f _ ht => ht.doSetZoneQuota f⟩
  | resetZoneCounts => exact ⟨_, rfl, h.serve _ _ _ fun n _ ht => ht.doResetZoneCounts n⟩
  | readZones => exact ⟨_, rfl, h.serve _ _ _ fun _ _ ht => ht⟩
  | setPeer => exact ⟨_, rfl, h.serve _ _ _ fun f _ ht => ht.doSetPeer f⟩
  | setReporting => exact ⟨_, rfl, h.serve _ _ _ fun f _ ht => ht.doSetReporting f⟩
  | setEventLevels => exact ⟨_, rfl, h.serve _ _ _ fun f _ ht => ht.doSetEventLevels f⟩
  | setWakePattern => exact ⟨_, rfl, h.serve _ _ _ fun f _ ht => ht.doSetWakePattern f⟩
  | readLog => exact ⟨_, rfl, h.serve _ _ _ fun f _ ht => ht.doReadLog f⟩
  | readStatus | readErrors => exact ⟨_, rfl, h.serve _ _ _ fun _ _ ht => ht.drawn⟩
  | clearErrors => exact ⟨_, rfl, h.serve _ _ _ fun n _ ht => ht.doClearErrors n⟩
  | clearEvents => exact ⟨_, rfl, h.serve _ _ _ fun n _ ht => ht.doClearEvents n⟩
  | clearCounts => exact ⟨_, rfl, h.serve _ _ _ fun n _ ht => ht.doClearCounts n⟩
  | unknownRequest => exact ⟨_, rfl, h.serveUnknown⟩
  | replyPlace => exact ⟨_, rfl, h.placeReply⟩
  | queryDeadlineExpiry l => exact ⟨_, rfl, (h.queryExpiry hq l).settle⟩
  | remoteHoldDeadline k => exact ⟨_, rfl, h.remoteExpiry k⟩
  | lapsedEntryExpiry tag => exact ⟨_, rfl, h.lapsedExpiry tag⟩
  | laneCycleStart => exact ⟨_, rfl, h.startCycle⟩
  | automaticHeader => exact ⟨_, rfl, h.sendAutomatic⟩
  | triggeredHeader => exact ⟨_, rfl, h.sendTriggered⟩
  | poll l | grantCommand l | refuseCommand l | referCommand l | lampCommand l | modeCommand l | parameterCommand l
  | repeatCommand l | testCommand l => exact ⟨_, rfl, h.sendIf l _⟩
  | nothingReport l n | presentationReport l n | passageReport l n | reverseReport l n | forcedReport l n
  | buttonReport l n | faultReport l n | helloReport l n | confirmReport l n | parameterAnswer l n | testEcho l n =>
    exact ⟨_, rfl, h.goodReply l n _⟩
  | missingReply l => exact ⟨_, rfl, h.noReply l⟩
  | garbledReply l bs => exact ⟨_, rfl, h.replyReceived l bs⟩
  | slotLoss l => exact ⟨_, rfl, h.slotLost l⟩
  | mateMarkClear l => exact ⟨_, rfl, h.clearMate l⟩
  | linkTestEnd => exact ⟨_, rfl, h.testEnded⟩
  | passWindowExpiry l => exact ⟨_, rfl, (h.passExpiry l).settle⟩
  | refusalDisplayExpiry l => exact ⟨_, rfl, (h.displayExpiry l).settle⟩
  | clockAdvance => exact ⟨_, rfl, h.advanceClock.settle⟩
  | surgeUpdate => exact ⟨_, rfl, h.updateSurge⟩
  | tallyHoldExpiry => exact ⟨_, rfl, h.holdExpiry⟩
  | tallyFrameBuild => exact ⟨_, rfl, ite h.buildTally h⟩
  | auditFrameBuild => exact ⟨_, rfl, by split; exacts [ite (h.buildAudit _) h, h]⟩
  | eventHoldoffExpiry => exact ⟨_, rfl, h.holdoffExpiry⟩
  | eventFramePlace => exact ⟨_, rfl, h.tryEvent⟩
  | statusIntervalExpiry => exact ⟨_, rfl, h.statusExpiry⟩
  | statusReportPlace => exact ⟨_, rfl, h.tryStatus⟩
  | trunkFrameSend => exact ⟨_, rfl, h.sendFrame⟩

/-- A step keeps zones and reservations sound. -/
theorem State.ZonesSound.step {A B : Prop} {s t : State} (h : s.ZonesSound A B) (hq : B → s.QueriesReady)
    (ht : step s = .next t) : t.ZonesSound A B := by
  unfold Machine.step at ht
  split at ht
  · cases ht
    exact h.same rfl fun _ => rfl
  · next c rest _ =>
    have hs : { s with pending := rest }.ZonesSound A B := h.same rfl fun _ => rfl
    obtain ⟨u, hu, hr⟩ := hs.exec hq c
    cases hu.symm.trans ht
    exact hr

/-- Settles O5: a traversal of the model's operations keeps every zone within its quota, and, where every query's lane is an entry
lane, keeps each lane's operation fit and Held the count of the reservations. -/
theorem zonesStayWithinQuota : Obligations.ZonesStayWithinQuota := by
  refine ⟨fun s t hwithin ht => ?_, fun s t hq hfit hcounts ht => ?_⟩
  · have h : s.ZonesSound True False := ⟨fun _ => hwithin, False.elim, False.elim⟩
    exact (h.step False.elim ht).within trivial
  · have h : s.ZonesSound False True := ⟨False.elim, fun _ => hfit, fun _ => hcounts⟩
    have h' := h.step (fun _ => State.queriesReady_of_fit hq hfit) ht
    exact ⟨h'.fit trivial, h'.counts trivial⟩

end Sys2Proof.Machine
end
section
/-! SUPPORT. The flag sources of the Bank Word (R131) and the triggers that their changes make (R133): when one operation makes a
trigger, and when several in turn make those of their whole change. -/

namespace Sys2Proof.Machine

/-! ## Edges (R133) -/

/-- The change of a flag from `before` to `after` is one that position `p` makes a trigger for. -/
theorem HeaderSettings.edgeAt_iff (h : HeaderSettings) (p : Fin 8) (before after : FlagSource → Bool) :
    h.edgeAt p before after = true ↔
      (h.rising.getLsbD p.val = true ∧ before (h.select.get p) = false ∧ after (h.select.get p) = true) ∨
      (h.falling.getLsbD p.val = true ∧ before (h.select.get p) = true ∧ after (h.select.get p) = false) := by
  simp [HeaderSettings.edgeAt, and_assoc]

theorem HeaderSettings.edge_iff (h : HeaderSettings) (before after : FlagSource → Bool) :
    h.edge before after = true ↔ h.bankWord = true ∧ ∃ p, h.edgeAt p before after = true := by
  simp [HeaderSettings.edge]

/-- Where no flag changes both on the way to `mid` and after it, the two changes make the triggers of the whole one. -/
theorem HeaderSettings.edge_trans (h : HeaderSettings) {before mid after : FlagSource → Bool}
    (hf : ∀ x, mid x = before x ∨ after x = mid x) :
    h.edge before after = (h.edge before mid || h.edge mid after) := by
  have hp (p : Fin 8) : h.edgeAt p before after = (h.edgeAt p before mid || h.edgeAt p mid after) := by
    unfold HeaderSettings.edgeAt
    rcases hf (h.select.get p) with e | e <;> rw [e] <;> cases before (h.select.get p) <;> simp
  rw [Bool.eq_iff_iff]
  simp only [Bool.or_eq_true, HeaderSettings.edge_iff, hp, exists_or, ← and_or_left]

namespace State

variable {s t u : State}

/-- A trigger is pending after a change exactly where one was, or where the change has an edge. -/
theorem triggers_iff (s t : State) :
    s.triggers t ↔ t.link.trigger = (s.link.trigger || s.link.settings.edge s.flag t.flag) := by
  rw [Bool.eq_iff_iff, Bool.or_eq_true, HeaderSettings.edge_iff]
  simp only [HeaderSettings.edgeAt_iff]
  exact Iff.rfl

/-! ## What the flags rest on (R131) -/

theorem anyZoneFull_iff (s : State) :
    s.anyZoneFull = true ↔ ∃ z, 0 < (s.zone z).quota ∧ (s.zone z).quota ≤ (s.zone z).entered + (s.zone z).held := by
  simp [State.anyZoneFull, allZones, Zone.full]

theorem degraded_iff (s : State) :
    s.degraded = true ↔ ∃ b, (s.peer b).present = true ∧ (s.peer b).state = .down ∧ s.bank ≠ some b := by
  simp [State.degraded, allBanks, and_assoc]

theorem anyZoneFull_congr (h : t.zones = s.zones) : t.anyZoneFull = s.anyZoneFull := by
  simp only [State.anyZoneFull, State.zone, h]

theorem degraded_congr (hb : t.bank = s.bank) (hp : t.peers.entries = s.peers.entries) : t.degraded = s.degraded := by
  unfold State.degraded State.peer
  rw [hb, hp]

theorem flag_congr (hz : t.zones = s.zones := by simp) (hb : t.bank = s.bank := by simp)
    (hp : t.peers.entries = s.peers.entries := by simp) (hm : t.bcm.mode = s.bcm.mode := by simp)
    (hs : t.bcm.surge.flag = s.bcm.surge.flag := by simp) (hu : t.log.undrained = s.log.undrained := by simp)
    (hc : t.link.parity = s.link.parity := by simp) : t.flag = s.flag := by
  funext x
  cases x <;> simp only [State.flag, hm, hs, hc, State.logFull, hu, anyZoneFull_congr hz, degraded_congr hb hp]

/-! ## Triggers of one operation -/

theorem flagging_eq (s : State) (f : State → State) :
    s.flagging f = { f s with link := { (f s).link with trigger := (s.flagging f).link.trigger } } := by
  rw [State.flagging, State.noteFlags_eq]

theorem flag_flagging (s : State) (f : State → State) : (s.flagging f).flag = (f s).flag := by
  rw [flagging_eq]
  exact flag_congr rfl rfl rfl rfl rfl rfl rfl

/-- An operation that leaves the trigger itself alone makes those of its change of flags. -/
theorem triggers_flagging (s : State) {f : State → State} (h : (f s).link.trigger = s.link.trigger) :
    s.triggers (s.flagging f) := by
  rw [triggers_iff, flag_flagging, State.flagging, State.noteFlags_eq, ← h]

theorem triggers_same (h : t.link.trigger = s.link.trigger) (hf : t.flag = s.flag) : s.triggers t := by
  rw [triggers_iff, h, hf, HeaderSettings.edge_same, Bool.or_false]

/-- What changes neither a flag nor the trigger before or after an operation leaves what the operation triggers. -/
theorem triggers.congr (h : s.triggers t) {s' t' : State} (hs : s.link = s'.link) (hsf : s.flag = s'.flag)
    (ht : t'.link.trigger = t.link.trigger) (htf : t'.flag = t.flag) : s'.triggers t' := by
  rw [triggers_iff] at h ⊢
  rw [ht, htf, h, hs, hsf]

/-- Operations in turn, of which no two change one flag, make the triggers of their whole change. -/
theorem triggers.trans (h : s.triggers t) (hu : t.triggers u) (hs : t.link.settings = s.link.settings)
    (hf : ∀ x, t.flag x = s.flag x ∨ u.flag x = t.flag x) : s.triggers u := by
  rw [triggers_iff] at h hu ⊢
  rw [hu, h, hs, HeaderSettings.edge_trans _ hf, Bool.or_assoc]

/-! ## Zones and the mode (R71, R155) -/

theorem modZone_eq (s : State) (z : ZoneNo) (f : Zone → Zone) :
    s.modZone z f = { s with
      zones := s.zones.set z.val (f (s.zone z)) z.isLt, link := { s.link with trigger := (s.modZone z f).link.trigger } } :=
  s.flagging_eq _

/-- No flag but AnyZoneFull rests on a zone. -/
theorem flag_modZone (s : State) (z : ZoneNo) (f : Zone → Zone) {x : FlagSource} (hx : x ≠ .anyZoneFull) :
    (s.modZone z f).flag x = s.flag x := by
  rw [modZone_eq]
  cases x <;> first | rfl | exact absurd rfl hx

theorem triggers_modZone (s : State) (z : ZoneNo) (f : Zone → Zone) : s.triggers (s.modZone z f) := s.triggers_flagging rfl

theorem modPeer_eq (s : State) (b : BankNo) (f : Peer → Peer) :
    s.modPeer b f = { s with
      peers := { s.peers with entries := s.peers.entries.set b.val (f (s.peer b)) b.isLt },
      link := { s.link with trigger := (s.modPeer b f).link.trigger } } :=
  s.flagging_eq _

theorem triggers_modPeer (s : State) (b : BankNo) (f : Peer → Peer) : s.triggers (s.modPeer b f) := s.triggers_flagging rfl

theorem setMode_eq (s : State) (m : BankMode) :
    s.setMode m = { s with bcm := { s.bcm with mode := m }, link := { s.link with trigger := (s.setMode m).link.trigger } } :=
  s.flagging_eq _

theorem triggers_setMode (s : State) (m : BankMode) : s.triggers (s.setMode m) := s.triggers_flagging rfl

/-! ## The Bank Word (R131) -/

/-- The number whose bit p is `f p`, as the Bank Word sums it, halved: its lowest bit stands for the first position. -/
theorem foldr_bits_succ (n : Nat) (f : Fin (n + 1) → Bool) :
    (List.finRange (n + 1)).foldr (fun p a => a + bit (f p) * 2 ^ p.val) 0 =
      2 * (List.finRange n).foldr (fun p a => a + bit (f p.succ) * 2 ^ p.val) 0 + bit (f 0) := by
  have double (ps : List (Fin n)) : ps.foldr (fun p a => a + bit (f p.succ) * 2 ^ p.succ.val) 0 =
      2 * ps.foldr (fun p a => a + bit (f p.succ) * 2 ^ p.val) 0 := by
    induction ps with
    | nil => rfl
    | cons p ps ih =>
      rw [List.foldr_cons, List.foldr_cons, ih, Fin.val_succ, Nat.pow_succ]
      ring
  rw [List.finRange_succ, List.foldr_cons, List.foldr_map, double]
  simp

theorem testBit_foldr_bits {n : Nat} (f : Fin n → Bool) (p : Fin n) :
    ((List.finRange n).foldr (fun p a => a + bit (f p) * 2 ^ p.val) 0).testBit p.val = f p := by
  induction n with
  | zero => exact p.elim0
  | succ n ih =>
    rw [foldr_bits_succ]
    cases p using Fin.cases with
    | zero => cases f 0 <;> simp [bit, Nat.testBit_zero, Nat.add_mod]
    | succ p =>
      have hhalf (a : Nat) (b : Bool) : (2 * a + bit b) / 2 = a := by cases b <;> simp [bit]; omega
      rw [Fin.val_succ, Nat.testBit_succ, hhalf]
      exact ih (fun p => f p.succ) p

theorem bankWordLow_bit (s : State) (p : Fin 8) :
    s.bankWordLow.getLsbD p.val = s.flag (s.link.settings.select.get p) := by
  rw [State.bankWordLow, BitVec.getLsbD_ofNat, decide_eq_true p.isLt, Bool.true_and]
  exact testBit_foldr_bits (fun p => s.flag (s.link.settings.select.get p)) p

/-- The low byte of the Bank Word samples the selected flags, and the high byte carries their complement. -/
theorem bankWord_bit (s : State) (p : Fin 8) :
    s.bankWord.getLsbD p.val = s.flag (s.link.settings.select.get p) ∧
      s.bankWord.getLsbD (p.val + 8) = !s.flag (s.link.settings.select.get p) := by
  have hlow : ¬p.val + 8 < 8 := by omega
  rw [← bankWordLow_bit, State.bankWord, BitVec.getLsbD_append, if_pos p.isLt, BitVec.getLsbD_append, if_neg hlow,
    Nat.add_sub_cancel, BitVec.getLsbD_not, decide_eq_true p.isLt, Bool.true_and]
  exact ⟨rfl, rfl⟩

end State
end Sys2Proof.Machine
end

section
/-! SUPPORT. The headers of a cycle (R130 to R133, R195). -/

namespace Sys2Proof.Machine
namespace State

variable {s : State}

/-- The automatic header stands before the slot of the start offset, under the settings that come into force (R130, R132). -/
theorem sendAutomatic_due (hd : s.mayDrive = true) (hn : s.link.next < 16) (ha : s.link.autoDone = false)
    (hat : s.link.autoAt = s.link.next) :
    s.sendAutomatic = { s with link := { s.link with
      settings := s.link.pendingSettings.getD s.link.settings, pendingSettings := none,
      line := headerBytes (s.link.pendingSettings.getD s.link.settings) (s.modLink Link.adoptSettings).bankWord, trigger := false,
      gapHeader := true, autoDone := true } } := by
  have hdue : s.link.autoDue = true := by simp [Link.autoDue, hn, ha, hat]
  rw [State.sendAutomatic, hd, hdue, Bool.true_and, if_pos rfl]
  cases hp : s.link.pendingSettings <;> simp [State.sendHeader, State.modLink, Link.adoptSettings, hp]

/-- The settings that come into force change no flag. -/
theorem bankWord_adoptSettings_bit (s : State) (p : Fin 8) :
    let w := (s.modLink Link.adoptSettings).bankWord
    let x := (s.link.pendingSettings.getD s.link.settings).select.get p
    w.getLsbD p.val = s.flag x ∧ w.getLsbD (p.val + 8) = !s.flag x := by
  have hparity : (s.link.adoptSettings).parity = s.link.parity := by unfold Link.adoptSettings; split <;> rfl
  have hsettings : (s.link.adoptSettings).settings = s.link.pendingSettings.getD s.link.settings := by
    unfold Link.adoptSettings
    split <;> simp [*]
  have hflag : (s.modLink Link.adoptSettings).flag = s.flag := flag_congr rfl rfl rfl rfl rfl rfl hparity
  have hbit := (s.modLink Link.adoptSettings).bankWord_bit p
  rwa [hflag, State.modLink_link, hsettings] at hbit

/-- A triggered header stands in a gap that neither holds nor will hold a header (R133). -/
theorem sendTriggered_due (hd : s.mayDrive = true) (hn : s.link.next < 16)
    (ha : s.link.autoDone = true ∨ s.link.autoAt ≠ s.link.next) (ht : s.link.trigger = true) (hg : s.link.gapHeader = false) :
    s.sendTriggered = { s with link := { s.link with
      line := headerBytes s.link.settings s.bankWord, trigger := false, gapHeader := true } } := by
  have hauto : s.link.autoDue = false := by
    rcases ha with ha | ha <;> simp [Link.autoDue, ha]
  have hdue : s.link.triggerDue = true := by simp [Link.triggerDue, hn, ht, hg, hauto]
  rw [State.sendTriggered, hd, hdue, Bool.true_and, if_pos rfl]
  rfl

theorem sendTriggered_not_due (hn : s.link.next < 16)
    (h : (s.link.autoDone = false ∧ s.link.autoAt = s.link.next) ∨ s.link.trigger = false ∨ s.link.gapHeader = true) :
    s.sendTriggered = s := by
  have hdue : s.link.triggerDue = false := by
    rcases h with ⟨ha, hat⟩ | ht | hg
    · simp [Link.triggerDue, Link.autoDue, hn, ha, hat]
    · simp [Link.triggerDue, ht]
    · simp [Link.triggerDue, hg]
  rw [State.sendTriggered, hdue, Bool.and_false, if_neg Bool.false_ne_true]

end State

/-- Settles O24: the flag sources by their conditions, every change of a flag through `State.flagging`, and the Bank Word of a
header bit by bit. -/
theorem headersSent : Obligations.HeadersSent := by
  unfold Obligations.HeadersSent
  refine ⟨fun s => ⟨rfl, rfl, decide_eq_true_iff, decide_eq_true_iff, rfl, s.degraded_iff, s.anyZoneFull_iff,
      decide_eq_true_iff, rfl⟩,
    fun s f h => ⟨s.triggers_flagging h, s.flagging_eq f⟩, fun s z f => ⟨s.triggers_modZone z f, s.modZone_eq z f⟩,
    fun s b f => ⟨s.triggers_modPeer b f, s.modPeer_eq b f⟩, fun s m => ⟨s.triggers_setMode m, s.setMode_eq m⟩,
    fun s hd hn => ?_⟩
  intro header sampled
  refine ⟨fun ha hat => ⟨_, s.bankWord_adoptSettings_bit, congrArg Host.Outcome.next (State.sendAutomatic_due hd hn ha hat)⟩,
    fun ha ht hg => ⟨_, s.bankWord_bit, congrArg Host.Outcome.next (State.sendTriggered_due hd hn ha ht hg)⟩,
    fun h => congrArg Host.Outcome.next (State.sendTriggered_not_due hn h)⟩

end Sys2Proof.Machine
end

section
/-! SUPPORT. An event cause raised (R180) and the release of STANDBY that it may bring (R159): the entries of the causes, the
triggers, and what else may change. -/

namespace Sys2Proof.Machine
namespace State

variable {s : State} {c : Cause} {d : Option Nat}

/-! ## The entries of the causes (R180) -/

@[simp] theorem causes_offer (s : State) (i : Fin 24) : (s.offer i).evu.causes = s.evu.causes := by
  unfold State.offer
  split <;> rfl

theorem causes_raiseQuiet (s : State) (c : Cause) (d : Option Nat) :
    (s.raiseQuiet c d).evu.causes = upd s.evu.causes (causeIndex c) (CauseEntry.raised d) := by
  unfold State.raiseQuiet
  dsimp only
  split <;> simp

/-- The release of STANDBY raises WAKE and MODE_CHANGE and no other cause (R159). -/
theorem causes_releaseStandby (s : State) :
    s.releaseStandby.evu.causes =
      upd (upd s.evu.causes (causeIndex .wake) (CauseEntry.raised none)) (causeIndex .modeChange) (CauseEntry.raised none) := by
  simp [State.releaseStandby, causes_raiseQuiet]

/-- A cause that is raised, and that is neither WAKE nor MODE_CHANGE, is raised once. -/
theorem cause_raise (s : State) (d : Option Nat) (hw : causeIndex c ≠ causeIndex .wake)
    (hm : causeIndex c ≠ causeIndex .modeChange) :
    (s.raise c d).evu.causes.get (causeIndex c) =
      { pending := true, count := min 255 ((s.evu.causes.get (causeIndex c)).count + 1), detail := d } := by
  have hquiet : (s.raiseQuiet c d).evu.causes.get (causeIndex c) =
      { pending := true, count := min 255 ((s.evu.causes.get (causeIndex c)).count + 1), detail := d } := by
    rw [causes_raiseQuiet, get_upd, if_pos rfl, CauseEntry.raised, sat8_eq]
  unfold State.raise
  split
  · rw [causes_releaseStandby, get_upd, if_neg hm, get_upd, if_neg hw, hquiet]
  · exact hquiet

/-! ## The release of STANDBY (R159) -/

/-- From `s` to `t` an event cause may have been raised and STANDBY released by it: the Event and Error Unit, the mode and the
lane link's cycle may have changed, its slots not, and of the flags the cycle parity alone. -/
structure RaisedFrom (s t : State) : Prop where
  frame : t = { s with
    evu := t.evu, bcm := { s.bcm with mode := t.bcm.mode }, link := { t.link with slots := s.link.slots } }
  settings : t.link.settings = s.link.settings
  awake : s.bcm.mode ≠ .standby → t.bcm = s.bcm ∧ t.link = s.link
  triggers : s.triggers t
  flags : ∀ x, x ≠ .cycleParity → t.flag x = s.flag x

theorem link_eq_of_slots {k : Link} {v : Vector Slot 16} (h : k.slots = v) : k = { k with slots := v } := by
  rw [← h]

theorem flag_raiseQuiet (s : State) (c : Cause) (d : Option Nat) : (s.raiseQuiet c d).flag = s.flag := flag_congr

/-- Neither the mode that is left nor the one that is entered sets a flag. -/
theorem flag_modBcm_service (h : s.bcm.mode = .standby) : (s.modBcm fun b => { b with mode := .service }).flag = s.flag := by
  funext x
  cases x with
  | bankOpen | closing => simp [State.flag, h]
  | zero | one | surge | degraded | anyZoneFull | logFull | cycleParity => rfl

theorem setMode_service (h : s.bcm.mode = .standby) : s.setMode .service = s.modBcm fun b => { b with mode := .service } :=
  s.flagging_same _ (flag_modBcm_service h)

theorem flag_startLink (s : State) {x : FlagSource} (hx : x ≠ .cycleParity) : s.startLink.flag x = s.flag x := by
  have hzones : s.startLink.anyZoneFull = s.anyZoneFull := anyZoneFull_congr (by simp)
  have hpeers : s.startLink.degraded = s.degraded := degraded_congr (by simp) (by simp)
  cases x <;> simp [State.flag, hzones, hpeers, State.logFull] at hx ⊢

theorem triggers_startLink (s : State) : s.triggers s.startLink := by
  unfold State.startLink
  split
  · exact triggers_same rfl rfl
  · exact s.triggers_flagging rfl

theorem link_releaseStandby (h : s.bcm.mode = .standby) :
    s.releaseStandby.link = (s.modBcm fun b => { b with mode := .service }).startLink.link := by
  simp [State.releaseStandby, setMode_service h]

theorem flag_releaseStandby (h : s.bcm.mode = .standby) :
    s.releaseStandby.flag = (s.modBcm fun b => { b with mode := .service }).startLink.flag := by
  rw [State.releaseStandby, flag_raiseQuiet, flag_raiseQuiet, setMode_service h]

theorem raisedFrom_releaseStandby (h : s.bcm.mode = .standby) : RaisedFrom s s.releaseStandby where
  frame := State.ext' (by simp) (by simp) (by simp) (by simp) (by simp) (by simp) (by simp) (by simp) (by simp) (by simp)
    (by simp) (link_eq_of_slots (by simp)) (by simp) (by simp) rfl (by simp)
  settings := by simp
  awake hn := absurd h hn
  triggers := (triggers_startLink (s.modBcm fun b => { b with mode := .service })).congr rfl
    (flag_modBcm_service h) (by rw [link_releaseStandby h]) (flag_releaseStandby h)
  flags x hx := by rw [flag_releaseStandby h, flag_startLink _ hx, flag_modBcm_service h]

theorem raisedFrom_raiseQuiet (s : State) (c : Cause) (d : Option Nat) : RaisedFrom s (s.raiseQuiet c d) where
  frame := State.ext' (by simp) (by simp) (by simp) (by simp) (by simp) (by simp) (by simp) (by simp) (by simp) (by simp)
    (by simp) (link_eq_of_slots (by simp)) (by simp) (by simp) rfl (by simp)
  settings := by simp
  awake _ := by simp
  triggers := triggers_same (by simp) (s.flag_raiseQuiet c d)
  flags x _ := congrFun (s.flag_raiseQuiet c d) x

/-- An event cause raised changes what `RaisedFrom` names and no more (R159, R180). -/
theorem raisedFrom_raise (s : State) (c : Cause) (d : Option Nat) : RaisedFrom s (s.raise c d) := by
  have hq := s.raisedFrom_raiseQuiet c d
  unfold State.raise
  split
  · next hr =>
    have hmode : s.bcm.mode = .standby := by
      simp only [State.releasedBy, Bool.and_eq_true, decide_eq_true_eq] at hr
      obtain ⟨⟨⟨hmode, -⟩, -⟩, -⟩ := hr
      exact hmode
    have ht : RaisedFrom (s.raiseQuiet c d) (s.raiseQuiet c d).releaseStandby :=
      raisedFrom_releaseStandby (by simpa using hmode)
    exact {
      frame := by rw [ht.frame, hq.frame]
      settings := ht.settings.trans hq.settings
      awake := fun hn => absurd hmode hn
      triggers := ht.triggers.congr (by simp) (s.flag_raiseQuiet c d) rfl rfl
      flags := fun x hx => (ht.flags x hx).trans (hq.flags x hx) }
  · exact hq

end State
end Sys2Proof.Machine
end

section
/-! SUPPORT. A lane's reservation (R62 to R65, R70): one zone and one lane change, and ZONE_FULL may be raised. -/

namespace Sys2Proof.Machine
namespace State

variable {s : State} {l : LaneNo} {z : ZoneNo}

/-- From `s` to `t` one zone has changed as `f` says, the lane's reservation has become `v`, and beside them only what a raised
ZONE_FULL changes. -/
structure Reserves (l : LaneNo) (z : ZoneNo) (f : Zone → Zone) (v : Option ZoneNo) (s t : State) : Prop where
  zone : t.zone z = f (s.zone z)
  lane : t.lane l = { s.lane l with reservation := v }
  zones : ∀ y, y ≠ z → t.zone y = s.zone y
  lanes : ∀ m, m ≠ l → t.lane m = s.lane m
  frame : t = { s with
    zones := t.zones, lanes := t.lanes, evu := t.evu, bcm := { s.bcm with mode := t.bcm.mode },
    link := { t.link with slots := s.link.slots } }
  triggers : s.triggers t
  awake : s.bcm.mode ≠ .standby → t.bcm = s.bcm ∧ t.link = { s.link with trigger := t.link.trigger }

theorem raisedFrom_refl (s : State) : RaisedFrom s s := ⟨rfl, rfl, fun _ => ⟨rfl, rfl⟩, triggers_same rfl rfl, fun _ _ => rfl⟩

theorem raisedFrom_reportFull (s : State) (z : ZoneNo) : RaisedFrom s (s.reportFull z) :=
  iteInduction (fun _ => s.raisedFrom_raise _ _) fun _ => s.raisedFrom_refl

/-- AnyZoneFull alone may change with a zone, and the cycle parity alone with a raised cause. -/
theorem triggers_zoneReported (s : State) (z : ZoneNo) (f : Zone → Zone) : s.triggers ((s.modZone z f).reportFull z) := by
  have hr := (s.modZone z f).raisedFrom_reportFull z
  refine (s.triggers_modZone z f).trans hr.triggers (by simp) fun x => ?_
  by_cases hx : x = .anyZoneFull
  · exact .inr (hr.flags x (by simp [hx]))
  · exact .inl (s.flag_modZone z f hx)

/-- A zone changed and reported, and the lane given its reservation. -/
theorem reserves_reported (s : State) (l : LaneNo) (z : ZoneNo) (f : Zone → Zone) (v : Option ZoneNo) :
    Reserves l z f v s (((s.modZone z f).reportFull z).modLane l fun n => { n with reservation := v }) := by
  have hr := (s.modZone z f).raisedFrom_reportFull z
  have hlane (m : LaneNo) : (s.modZone z f).lane m = s.lane m := by simp [State.lane]
  exact {
    zone := by simp
    lane := by simp [hlane]
    zones := fun y hy => by simp [hy]
    lanes := fun m hm => by simp [hm, hlane]
    frame := by
      have hw := hr.frame
      generalize (s.modZone z f).reportFull z = w at hw ⊢
      refine State.ext' ?_ ?_ ?_ ?_ ?_ ?_ ?_ ?_ rfl rfl ?_ (link_eq_of_slots ?_) ?_ ?_ rfl ?_ <;> rw [hw] <;> simp
    triggers := (s.triggers_zoneReported z f).congr rfl rfl rfl (flag_congr rfl rfl rfl rfl rfl rfl rfl)
    awake := fun hn => by
      obtain ⟨hbcm, hlink⟩ := hr.awake (by simpa using hn)
      refine ⟨by simpa using hbcm, ?_⟩
      rw [State.modLane_link, hlink, s.modZone_eq z f] }

/-- A zone that is full is reported with its number (R70). -/
theorem cause_reported (s : State) {z : ZoneNo} {f : Zone → Zone} (h : (f (s.zone z)).full = true) :
    ((s.modZone z f).reportFull z).evu.causes.get 6 =
      { pending := true, count := min 255 ((s.evu.causes.get 6).count + 1), detail := some z.val } := by
  have hfull : ((s.modZone z f).zone z).full = true := by simpa using h
  have hraise := (s.modZone z f).cause_raise (c := .zoneFull) (some z.val) (by decide) (by decide)
  rw [State.reportFull, if_pos hfull]
  simpa [causeIndex] using hraise

theorem evu_reported (s : State) {z : ZoneNo} {f : Zone → Zone} (h : ¬(f (s.zone z)).full = true) :
    ((s.modZone z f).reportFull z).evu = s.evu := by
  have hfull : ¬((s.modZone z f).zone z).full = true := by simpa using h
  rw [State.reportFull, if_neg hfull]
  simp

theorem release_some (h : (s.lane l).reservation = some z) :
    s.release l = (s.modZone z Zone.released).modLane l fun n => { n with reservation := none } := by
  simp only [State.release, h]

theorem commitZone_some (h : (s.lane l).reservation = some z) : s.commitZone l =
    ((s.modZone z Zone.committed).reportFull z).modLane l fun n => { n with reservation := none } := by
  simp only [State.commitZone, h]

end State

/-- A commit moves one entry from Held to Entered, so their sum stands (R64). -/
theorem Zone.committed_full (x : Zone) : x.committed.full = x.full := by
  unfold Zone.committed
  split
  · rfl
  · next h =>
    have hsum : x.entered + 1 + (x.held - 1) = x.entered + x.held := by omega
    simp only [Zone.full, hsum]

theorem Zone.full_iff (x : Zone) : x.full = true ↔ 0 < x.quota ∧ x.quota ≤ x.entered + x.held := decide_eq_true_iff

/-- Settles O19: reserve and commit as a zone changed and reported, release as a zone changed alone. -/
theorem reservationMovesZoneCounts : Obligations.ReservationMovesZoneCounts := by
  unfold Obligations.ReservationMovesZoneCounts
  intro s l z x filled framed
  refine ⟨?reserve, fun hl => ⟨?release, ?commit⟩,
    fun hn => ⟨by simp only [State.release, hn], by simp only [State.commitZone, hn]⟩⟩
  case reserve =>
    obtain ⟨hzone, hlane, hzones, hlanes, hframe, htriggers, hawake⟩ := s.reserves_reported l z Zone.reserved (some z)
    refine ⟨hzone, hlane, hzones, hlanes, fun h0 hq => s.cause_reported ((Zone.full_iff _).2 ⟨h0, hq⟩), fun h => ?_,
      hframe, htriggers, hawake⟩
    refine s.evu_reported fun hf => ?_
    obtain ⟨h0, hq⟩ := (Zone.full_iff _).1 hf
    simp only [x, Zone.reserved] at h h0 hq
    omega
  case release =>
    have hlane (m : LaneNo) : (s.modZone z Zone.released).lane m = s.lane m := by simp [State.lane]
    rw [State.release_some hl]
    refine ⟨by simp [Zone.released, x], by simp [hlane], fun y hy => by simp [hy], fun m hm => by simp [hm, hlane],
      (s.triggers_modZone z Zone.released).congr rfl rfl rfl (State.flag_congr rfl rfl rfl rfl rfl rfl rfl), ?_⟩
    rw [s.modZone_eq z Zone.released]
    rfl
  case commit =>
    obtain ⟨hzone, hlane, hzones, hlanes, hframe, htriggers, hawake⟩ := s.reserves_reported l z Zone.committed none
    rw [State.commitZone_some hl]
    refine ⟨fun h0 => ?_, hlane, hzones, hlanes, fun h0 hq => s.cause_reported ?_, fun h => ?_, hframe, htriggers, hawake⟩
    · rw [hzone, Zone.committed, if_neg (Nat.pos_iff_ne_zero.1 h0)]
    · rw [Zone.committed_full]
      exact (Zone.full_iff _).2 ⟨h0, hq⟩
    · refine s.evu_reported fun hf => ?_
      rw [Zone.committed_full] at hf
      obtain ⟨h0, hq⟩ := (Zone.full_iff _).1 hf
      simp only [x] at h
      omega

end Sys2Proof.Machine
end

section
/-! SUPPORT. The requests about zones, peers, reporting and event levels (R67 to R69, R99, R177, R181): their fields read from the
bytes (R193), and the clamps of their values (R174). -/

namespace Sys2Proof.Machine

/-! ## Fields (R193) -/

theorem Reader.quota_be (a : Byte) {n : Nat} (hn : n < 65536) (extra : List Byte) :
    Reader.quota (a :: be 2 n ++ extra) = some (⟨a.toNat, n⟩, extra) := by
  simp (disch := omega) only [Reader.quota, Reader.bind_apply, List.cons_append, Reader.nat_cons, Reader.nat_be,
    Reader.pure_apply]

/-- A presence mask of at most 32 optional fields is read as it is sent. -/
theorem Reader.mask_be {bs : List Bool} (h : bs.length ≤ 32) (rest : List Byte) :
    Reader.nat 4 (be 4 (maskOf bs) ++ rest) = some (maskOf bs, rest) :=
  Reader.nat_be 4 _ rest ((maskOf_lt bs).trans_le (Nat.pow_le_pow_right (by decide) h))

/-- The m-th optional number under a mask is read back. -/
theorem Reader.given_masked (bs : List Bool) {f : Option Nat} (m n : Nat) (hm : bs.getD m false = f.isSome) (h : optFits n f)
    (rest : List Byte) : Reader.given (maskOf bs) m (Reader.nat n) (optField n f ++ rest) = some (f, rest) :=
  Reader.given_opt _ m n f rest ((maskOf_testBit bs m).trans hm) h

theorem Reader.peer_be (a : Byte) {p d q h : Option Nat} {bs : List Bool}
    (hbs : bs = [p.isSome, d.isSome, q.isSome, h.isSome]) (hp : optFits 1 p) (hd : optFits 1 d) (hq : optFits 2 q)
    (hh : optFits 1 h) (extra : List Byte) :
    Reader.peer (a :: be 4 (maskOf bs) ++ optField 1 p ++ optField 1 d ++
      optField 2 q ++ optField 1 h ++ extra) = some (⟨a.toNat, p, d, q, h⟩, extra) := by
  simp only [Reader.peer, Reader.bind_apply, List.cons_append, List.append_assoc, Reader.nat_cons,
    Reader.mask_be (bs := bs) (by simp [hbs]), Reader.given_masked bs 0 1 (hbs ▸ rfl) hp,
    Reader.given_masked bs 1 1 (hbs ▸ rfl) hd, Reader.given_masked bs 2 2 (hbs ▸ rfl) hq,
    Reader.given_masked bs 3 1 (hbs ▸ rfl) hh, Reader.pure_apply]

theorem Reader.reporting_be (f : ReportingFields) (extra : List Byte) {bs : List Bool}
    (hbs : bs = [f.calmBatch.isSome, f.calmHold.isSome, f.surgeBatch.isSome, f.surgeHold.isSome,
        f.surgeOn.isSome, f.surgeOff.isSome, f.arbiter.isSome, f.weight.isSome, f.policy.isSome, f.maxPayload.isSome,
        f.interval.isSome, f.holdoff.isSome])
    (h0 : optFits 1 f.calmBatch) (h1 : optFits 2 f.calmHold)
    (h2 : optFits 1 f.surgeBatch) (h3 : optFits 2 f.surgeHold) (h4 : optFits 2 f.surgeOn) (h5 : optFits 2 f.surgeOff)
    (h6 : optFits 1 f.arbiter) (h7 : optFits 1 f.weight) (h8 : optFits 1 f.policy) (h9 : optFits 2 f.maxPayload)
    (h10 : optFits 1 f.interval) (h11 : optFits 2 f.holdoff) :
    Reader.reporting (be 4 (maskOf bs) ++
      optField 1 f.calmBatch ++ optField 2 f.calmHold ++ optField 1 f.surgeBatch ++ optField 2 f.surgeHold ++
      optField 2 f.surgeOn ++ optField 2 f.surgeOff ++ optField 1 f.arbiter ++ optField 1 f.weight ++ optField 1 f.policy ++
      optField 2 f.maxPayload ++ optField 1 f.interval ++ optField 2 f.holdoff ++ extra) = some (f, extra) := by
  simp only [Reader.reporting, Reader.bind_apply, List.append_assoc,
    Reader.mask_be (bs := bs) (by simp [hbs]),
    Reader.given_masked bs 0 1 (hbs ▸ rfl) h0, Reader.given_masked bs 1 2 (hbs ▸ rfl) h1,
    Reader.given_masked bs 2 1 (hbs ▸ rfl) h2, Reader.given_masked bs 3 2 (hbs ▸ rfl) h3,
    Reader.given_masked bs 4 2 (hbs ▸ rfl) h4, Reader.given_masked bs 5 2 (hbs ▸ rfl) h5,
    Reader.given_masked bs 6 1 (hbs ▸ rfl) h6, Reader.given_masked bs 7 1 (hbs ▸ rfl) h7,
    Reader.given_masked bs 8 1 (hbs ▸ rfl) h8, Reader.given_masked bs 9 2 (hbs ▸ rfl) h9,
    Reader.given_masked bs 10 1 (hbs ▸ rfl) h10, Reader.given_masked bs 11 2 (hbs ▸ rfl) h11,
    Reader.pure_apply]

/-- A run of bytes read as numbers. -/
theorem Reader.many_bytes (bs rest : List Byte) :
    Reader.many (Reader.nat 1) bs.length (bs ++ rest) = some (bs.map BitVec.toNat, rest) := by
  induction bs with
  | nil => rfl
  | cons b bs ih =>
    simp only [List.length_cons, Reader.many, Reader.bind_apply, List.cons_append, Reader.nat_cons, ih, Reader.pure_apply,
      List.map_cons]

/-- The levels as they are sent: 12 bytes where they are given (R193). -/
def levelField (ls : Option (Vector Byte 12)) : List Byte := ls.elim [] Vector.toList

/-- The fields of Set Event Levels, the levels as numbers. -/
def LevelFields.sent (ls : Option (Vector Byte 12)) (p w m : Option Nat) : LevelFields :=
  ⟨ls.map fun v => v.toList.map BitVec.toNat, p, w, m⟩

theorem Reader.levels_be {ls : Option (Vector Byte 12)} {p w m : Option Nat} {bs : List Bool}
    (hbs : bs = [ls.isSome, p.isSome, w.isSome, m.isSome]) (hp : optFits 1 p) (hw : optFits 1 w)
    (hm : optFits 2 m) (extra : List Byte) :
    Reader.levels (be 4 (maskOf bs) ++ levelField ls ++ optField 1 p ++
      optField 1 w ++ optField 2 m ++ extra) = some (LevelFields.sent ls p w m, extra) := by
  have hls (rest : List Byte) : Reader.given (maskOf bs) 0
      (Reader.many (Reader.nat 1) 12) (levelField ls ++ rest) = some (ls.map fun v => v.toList.map BitVec.toNat, rest) := by
    have hbit : (maskOf bs).testBit 0 = ls.isSome := (maskOf_testBit bs 0).trans (hbs ▸ rfl)
    cases ls with
    | none => exact Reader.given_none _ 0 _ _ hbit
    | some v =>
      have hv := Reader.many_bytes v.toList rest
      rw [Vector.length_toList] at hv
      rw [Reader.given, hbit]
      simp [levelField, Reader.map_apply, hv]
  simp only [Reader.levels, Reader.bind_apply, List.append_assoc,
    Reader.mask_be (bs := bs) (by simp [hbs]), hls, Reader.given_masked bs 1 1 (hbs ▸ rfl) hp,
    Reader.given_masked bs 2 1 (hbs ▸ rfl) hw, Reader.given_masked bs 3 2 (hbs ▸ rfl) hm, Reader.pure_apply,
    LevelFields.sent]

theorem toZone_val (z : ZoneNo) : toZone z.val = some z := dif_pos z.isLt

theorem toZone_eq_none {n : Nat} (h : 15 < n) : toZone n = none := dif_neg (by omega)

theorem toBank_val (b : BankNo) : toBank b.val = some b := dif_pos b.isLt

theorem toBank_eq_none {n : Nat} (h : 31 < n) : toBank n = none := dif_neg (by omega)

theorem presenceOf_bit (x : Bool) : presenceOf (bit (!x)) = some x := by cases x <;> rfl

theorem presenceOf_eq_none {n : Nat} (h : 1 < n) : presenceOf n = none := by
  unfold presenceOf
  split <;> first | omega | rfl

theorem arbiterOf_code (a : ArbiterMode) : arbiterOf (arbiterCode a) = some a := by cases a <;> rfl

theorem arbiterOf_eq_none {n : Nat} (h : 3 ≤ n) : arbiterOf n = none := by
  unfold arbiterOf
  split <;> first | omega | rfl

theorem policyOf_code (p : LogPolicy) : policyOf (policyCode p) = some p := by cases p <;> rfl

theorem policyOf_eq_none {n : Nat} (h : 2 ≤ n) : policyOf n = none := by
  unfold policyOf
  split <;> first | omega | rfl

/-- A choice that is not given keeps the value in force, and one that is given by its code is taken (R193). -/
theorem chosenOr_eq {α : Type} {codes : Nat → Option α} {code : α → Nat} (hc : ∀ a, codes (code a) = some a) {now a : α}
    {f : Option Nat} (h : (f = none ∧ a = now) ∨ f = some (code a)) : chosenOr codes now f = some a := by
  rcases h with ⟨rfl, rfl⟩ | rfl
  · rfl
  · exact hc a

/-! ## Clamps and replies (R174) -/

/-- A value that is given lies in its range. -/
def GivenWithin (lo hi : Nat) (f : Option Nat) : Prop := ∀ x, f = some x → lo ≤ x ∧ x ≤ hi

theorem clampedOr_changed_iff {lo hi : Nat} (h : lo ≤ hi) (now : Nat) (f : Option Nat) :
    (clampedOr lo hi now f).changed = true ↔ ¬GivenWithin lo hi f := by
  unfold GivenWithin
  cases f with
  | none => simp [clampedOr]
  | some v =>
    rw [clampedOr, clamped_changed_iff, clamp_eq lo hi v h]
    simp only [Option.some.injEq, forall_eq']
    omega

theorem Reply.applied_status (c : Bool) (values : List Byte) :
    (Reply.applied c values).status = .ok ∨ (Reply.applied c values).status = .clamped := by
  cases c
  · exact .inl rfl
  · exact .inr rfl

theorem Reply.applied_ok_iff (c : Bool) (values : List Byte) : (Reply.applied c values).status = .ok ↔ ¬c = true := by
  cases c <;> simp [Reply.applied, Reply.ok]

/-! ## Serving each request (R173 to R175) -/

variable {s : State} {r : Request} {extra fields : List Byte}

theorem exec_setZoneQuota {a : Byte} {n : Nat} (hn : n < 65536) (h : s.asked r 23 (a :: be 2 n ++ extra))
    (hm : s.bcm.mode ≠ .deep) :
    exec .setZoneQuota s = .next (r.answered 23 (doSetZoneQuota ⟨a.toNat, n⟩ s.beginRequest).2
      (doSetZoneQuota ⟨a.toNat, n⟩ s.beginRequest).1) :=
  congrArg Host.Outcome.next (State.serve_asked h (Reader.quota_be a hn extra) (Taken.active_holds hm))

theorem exec_resetZoneCounts {n : Nat} (hn : n < 65536) (h : s.asked r 24 (be 2 n ++ extra)) (hm : s.bcm.mode ≠ .deep) :
    exec .resetZoneCounts s = .next (r.answered 24 (doResetZoneCounts n s.beginRequest).2
      (doResetZoneCounts n s.beginRequest).1) :=
  congrArg Host.Outcome.next (State.serve_asked h (Reader.nat_be 2 n extra (by omega)) (Taken.active_holds hm))

theorem exec_readZones (h : s.asked r 25 extra) (hm : s.bcm.mode ≠ .deep) :
    exec .readZones s = .next (r.answered 25 (Reply.ok s.beginRequest.zonesBytes) s.beginRequest) :=
  congrArg Host.Outcome.next (State.serve_asked (x := ((), extra)) h rfl (Taken.active_holds hm))

theorem exec_setPeer {f : PeerFields} (h : s.asked r 26 fields) (hf : Reader.peer fields = some (f, extra))
    (hm : s.bcm.mode ≠ .deep) :
    exec .setPeer s = .next (r.answered 26 (doSetPeer f s.beginRequest).2 (doSetPeer f s.beginRequest).1) :=
  congrArg Host.Outcome.next (State.serve_asked h hf (Taken.active_holds hm))

theorem exec_setReporting {f : ReportingFields} (h : s.asked r 27 fields) (hf : Reader.reporting fields = some (f, extra))
    (hm : s.bcm.mode ≠ .deep) :
    exec .setReporting s = .next (r.answered 27 (doSetReporting f s.beginRequest).2 (doSetReporting f s.beginRequest).1) :=
  congrArg Host.Outcome.next (State.serve_asked h hf (Taken.active_holds hm))

theorem exec_setEventLevels {f : LevelFields} (h : s.asked r 28 fields) (hf : Reader.levels fields = some (f, extra))
    (hm : s.bcm.mode ≠ .deep) :
    exec .setEventLevels s = .next (r.answered 28 (doSetEventLevels f s.beginRequest).2 (doSetEventLevels f s.beginRequest).1) :=
  congrArg Host.Outcome.next (State.serve_asked h hf (Taken.active_holds hm))

end Sys2Proof.Machine
end

section
/-! SUPPORT. What Set Zone Quota, Reset Zone Counts, Read Zones and Set Peer do (R67 to R69, R99). -/

namespace Sys2Proof.Machine

variable {s : State}

/-! ## Set Zone Quota (R67, R70) -/

theorem quotaOf_eq (z : Zone) {n : Nat} (h : n < 65536) : quotaOf z n = max n (z.entered + z.held) := by
  rw [quotaOf, Nat.min_eq_left (by omega)]

/-- ZONE_FULL is raised where the zone is full under the new quota and was not under the old one. -/
theorem State.setQuota_eq (s : State) (z : ZoneNo) (q : Nat) :
    let x := s.zone z
    let u := s.modZone z fun y => { y with quota := q }
    s.setQuota z q = if 0 < q ∧ q ≤ x.entered + x.held ∧ ¬(0 < x.quota ∧ x.quota ≤ x.entered + x.held) then
      u.raise .zoneFull (some z.val) else u := by
  intro x u
  have hfull : (u.zone z).full = true ↔ 0 < q ∧ q ≤ x.entered + x.held := by simp [u, x, Zone.full_iff]
  by_cases hold : x.full = true
  · rw [State.setQuota, if_pos hold, if_neg fun h => h.2.2 (x.full_iff.1 hold)]
  · rw [State.setQuota, if_neg hold, State.reportFull]
    refine if_congr ?_ rfl rfl
    rw [hfull, ← and_assoc, ← Zone.full_iff, and_iff_left hold]

theorem doSetZoneQuota_eq (s : State) (z : ZoneNo) {n : Nat} (h : n < 65536) :
    let x := s.zone z
    let q := max n (x.entered + x.held)
    doSetZoneQuota ⟨z.val, n⟩ s = (s.setQuota z q,
      { status := if q = n then .ok else .clamped, cause := .none,
        contents := byte z.val :: (be 2 q ++ be 2 x.entered ++ be 1 x.held) }) := by
  intro x q
  have hstatus : (if decide (q ≠ n) then ReplyStatus.clamped else .ok) = if q = n then .ok else .clamped := by
    by_cases hq : q = n <;> simp [hq]
  simp only [doSetZoneQuota, toZone_val, quotaOf_eq _ h]
  rw [← hstatus]
  rfl

theorem doSetZoneQuota_unknown {n : Nat} (h : 15 < n) (q : Nat) (s : State) :
    doSetZoneQuota ⟨n, q⟩ s = (s, Reply.refuse .badValue) := by
  simp only [doSetZoneQuota, toZone_eq_none h]

/-! ## Reset Zone Counts (R68) -/

namespace State

theorem zone_resetZone (s : State) (n : Nat) (z x : ZoneNo) :
    (s.resetZone n z).zone x = if x = z ∧ n.testBit z.val = true then (s.zone x).countsReset else s.zone x := by
  unfold State.resetZone
  by_cases hn : n.testBit z.val = true
  · rw [if_pos hn, zone_modZone]
    by_cases hx : x = z <;> simp [hx, hn]
  · simp [hn]

/-- A reset touches the zones and, by their flag, the trigger. -/
theorem resetZone_eq (s : State) (n : Nat) (z : ZoneNo) : s.resetZone n z = { s with
    zones := (s.resetZone n z).zones, link := { s.link with trigger := (s.resetZone n z).link.trigger } } := by
  unfold State.resetZone
  split
  · exact State.ext' (by simp) (by simp) (by simp) (by simp) (by simp) (by simp) (by simp) (by simp) rfl (by simp) (by simp)
      (by rw [modZone_eq]) (by simp) (by simp) (by simp) (by simp)
  · rfl

theorem triggers_resetZone (s : State) (n : Nat) (z : ZoneNo) : s.triggers (s.resetZone n z) :=
  iteInduction (fun _ => s.triggers_modZone z _) fun _ => triggers_same rfl rfl

theorem flag_resetZone (s : State) (n : Nat) (z : ZoneNo) {x : FlagSource} (hx : x ≠ .anyZoneFull) :
    (s.resetZone n z).flag x = s.flag x := by
  unfold State.resetZone
  split
  · exact s.flag_modZone z _ hx
  · rfl

/-- The bank after the zones of a list are reset. -/
def resetZones (n : Nat) (zs : List ZoneNo) (s : State) : State := zs.foldl (State.resetZone n) s

theorem resetZones_cons (n : Nat) (z : ZoneNo) (zs : List ZoneNo) (s : State) :
    s.resetZones n (z :: zs) = (s.resetZone n z).resetZones n zs := rfl

theorem zone_resetZones (n : Nat) (zs : List ZoneNo) (s : State) (x : ZoneNo) :
    (s.resetZones n zs).zone x = if x ∈ zs ∧ n.testBit x.val = true then (s.zone x).countsReset else s.zone x := by
  induction zs generalizing s with
  | nil => simp [resetZones]
  | cons z zs ih =>
    rw [resetZones_cons, ih, zone_resetZone]
    by_cases hx : x = z
    · subst hx
      by_cases hn : n.testBit x.val = true <;> simp [hn, Zone.countsReset]
    · simp [hx]

theorem resetZones_eq (n : Nat) (zs : List ZoneNo) (s : State) : s.resetZones n zs = { s with
    zones := (s.resetZones n zs).zones, link := { s.link with trigger := (s.resetZones n zs).link.trigger } } := by
  induction zs generalizing s with
  | nil => rfl
  | cons z zs ih =>
    rw [resetZones_cons]
    have hframe := ih (s.resetZone n z)
    generalize (s.resetZone n z).resetZones n zs = u at hframe ⊢
    rw [hframe, s.resetZone_eq n z]

/-- A full zone was full before counts were taken from it. -/
theorem anyZoneFull_of_resetZones {n : Nat} {zs : List ZoneNo} (h : (s.resetZones n zs).anyZoneFull = true) :
    s.anyZoneFull = true := by
  obtain ⟨z, hpos, hle⟩ := (anyZoneFull_iff _).1 h
  rw [zone_resetZones] at hpos hle
  refine (anyZoneFull_iff _).2 ⟨z, ?_⟩
  split at hpos
  · next hz =>
    rw [if_pos hz] at hle
    simp only [Zone.countsReset] at hpos hle
    omega
  · next hz => exact ⟨hpos, by rwa [if_neg hz] at hle⟩

/-- AnyZoneFull falls once at most on the way, and no other flag changes. -/
theorem triggers_resetZones (n : Nat) (zs : List ZoneNo) (s : State) : s.triggers (s.resetZones n zs) := by
  induction zs generalizing s with
  | nil => exact triggers_same rfl rfl
  | cons z zs ih =>
    refine (s.triggers_resetZone n z).trans (ih _) (by rw [resetZone_eq]) fun x => ?_
    by_cases hx : x = .anyZoneFull
    · subst hx
      have hfirst : (s.resetZone n z).anyZoneFull = true → s.anyZoneFull = true :=
        anyZoneFull_of_resetZones (n := n) (zs := [z])
      have hrest : ((s.resetZone n z).resetZones n zs).anyZoneFull = true → (s.resetZone n z).anyZoneFull = true :=
        anyZoneFull_of_resetZones
      simp only [State.flag]
      cases hmid : (s.resetZone n z).anyZoneFull with
      | true => exact .inl (hfirst hmid).symm
      | false => exact .inr (Bool.eq_false_iff.2 fun hend => absurd (hrest hend) (Bool.eq_false_iff.1 hmid))
    · exact .inl (s.flag_resetZone n z hx)

end State

theorem doResetZoneCounts_zero (s : State) : doResetZoneCounts 0 s = (s, Reply.refuse .badValue) := rfl

theorem doResetZoneCounts_eq (s : State) {n : Nat} (h : n ≠ 0) :
    doResetZoneCounts n s = (s.resetZones n allZones, Reply.ok (s.removedCounts n)) := if_neg h

/-! ## Read Zones (R69) -/

theorem State.zones_toList (s : State) : s.zones.toList = allZones.map s.zone :=
  List.ext_getElem (by simp [allZones]) fun i _ _ => by simp [allZones, State.zone, Vector.get]

/-- The condition byte of a zone: closed 0, open 1, full 2. -/
theorem Zone.condition_byte (z : Zone) :
    be 1 z.condition = [if z.quota = 0 then 0 else if z.quota ≤ z.entered + z.held then 2 else 1] := by
  rw [be_one, Zone.condition, Zone.closed]
  by_cases h0 : z.quota = 0
  · simp [h0, byte]
  · by_cases hfull : z.quota ≤ z.entered + z.held
    · simp [h0, hfull, Zone.full, Nat.pos_of_ne_zero h0, byte]
    · simp [h0, hfull, Zone.full, byte]

theorem State.zonesBytes_eq (s : State) : s.zonesBytes = (List.finRange 16).flatMap fun z =>
    let x := s.zone z
    be 2 x.quota ++ be 2 x.entered ++ be 1 x.held ++ be 2 x.scanOuts ++
      [if x.quota = 0 then 0 else if x.quota ≤ x.entered + x.held then 2 else 1] := by
  simp only [State.zonesBytes, State.zones_toList, List.flatMap_map, Zone.bytes, Zone.condition_byte]
  rfl

/-! ## Set Peer (R99) -/

theorem doSetPeer_unknown {f : PeerFields} (h : 31 < f.bank) (s : State) : doSetPeer f s = (s, Reply.refuse .badValue) := by
  simp only [doSetPeer, toBank_eq_none h]

theorem doSetPeer_badPresence {f : PeerFields} {v : Nat} (hp : f.presence = some v) (h : 1 < v) (s : State) :
    doSetPeer f s = (s, Reply.refuse .badValue) := by
  unfold doSetPeer
  split
  · rfl
  · simp only [hp, chosenOr, presenceOf_eq_none h]

/-- The settings of the peers, each given one at the limits of its range (R99). -/
def Peers.tuned (d q h : Option Nat) (k : Peers) : Peers := { k with
  downAfter := (clampedOr 1 8 k.downAfter d).value, queryTimeout := (clampedOr 20 1000 k.queryTimeout q).value,
  remoteHold := (clampedOr 5 60 k.remoteHold h).value }

/-- The three settings and the one peer's presence take effect together. -/
theorem doSetPeer_eq (b : BankNo) (p : Option Bool) (d q h : Option Nat) (s : State) :
    let present := p.getD (s.peer b).present
    let k := s.peers.tuned d q h
    doSetPeer ⟨b.val, p.map fun x => bit (!x), d, q, h⟩ s =
      ((s.modPeers (Peers.tuned d q h)).modPeer b (Peer.configured present),
       Reply.applied ((clampedOr 1 8 s.peers.downAfter d).changed || (clampedOr 20 1000 s.peers.queryTimeout q).changed ||
          (clampedOr 5 60 s.peers.remoteHold h).changed) (peerReply present k.downAfter k.queryTimeout k.remoteHold)) := by
  have hpresent : chosenOr presenceOf (s.peer b).present (p.map fun x => bit (!x)) = some (p.getD (s.peer b).present) := by
    cases p with
    | none => rfl
    | some x => exact presenceOf_bit x
  simp only [doSetPeer, toBank_val, hpresent]
  rfl

/-- A presence that does not change changes nothing, and one that changes is the other one. -/
theorem Peer.configured_eq (present : Bool) (p : Peer) : Peer.configured present p =
    if present = p.present then p else { present := !p.present, state := .down, timeouts := 0 } := by
  unfold Peer.configured
  cases present <;> cases p.present <;> rfl

end Sys2Proof.Machine
end

section
/-! SUPPORT. What Set Reporting does (R144, R162, R166, R172, R177): its values together and the drain test after them. -/

namespace Sys2Proof.Machine

variable {s : State} {f : ReportingFields}

theorem payloadOf_eq (v : Nat) : payloadOf v = if v < 512 then 256 else if v < 1024 then 512 else 1024 := by
  unfold payloadOf
  split_ifs <;> omega

theorem maxPayloadOr_changed_iff (now : Nat) (f : Option Nat) :
    (maxPayloadOr now f).changed = true ↔ ¬∀ x, f = some x → x = 256 ∨ x = 512 ∨ x = 1024 := by
  cases f with
  | none => simp [maxPayloadOr]
  | some v =>
    simp only [maxPayloadOr, payloadOf_eq, decide_eq_true_eq, Option.some.injEq, forall_eq']
    split_ifs <;> omega

theorem surgeOffOr_changed_iff (on now : Nat) (f : Option Nat) :
    (surgeOffOr on now f).changed = true ↔ ¬(GivenWithin 1 1000 f ∧ (clampedOr 1 1000 now f).value ≤ on) := by
  simp [surgeOffOr, clampedOr_changed_iff, imp_iff_not_or]

/-- A change of mode or weight, and no other setting, clears the Report count and the queue last served (R172). -/
theorem Trunk.setArbiter_eq (a : ArbiterMode) (w : Nat) (k : Trunk) : k.setArbiter a w = { k with
    arbiter := a, weight := w,
    reportCount := if k.arbiter ≠ a ∨ k.weight ≠ w then 0 else k.reportCount,
    lastServed := if k.arbiter ≠ a ∨ k.weight ≠ w then none else k.lastServed } := by
  unfold Trunk.setArbiter
  split
  · next h =>
    obtain ⟨rfl, rfl⟩ := h
    simp
  · next h =>
    have hchanged : k.arbiter ≠ a ∨ k.weight ≠ w := by rwa [← not_and_or]
    rw [if_pos hchanged, if_pos hchanged]

theorem State.applyReporting_eq (v : ReportingValues) (s : State) :
    let changed := s.trunk.arbiter ≠ v.arbiter ∨ s.trunk.weight ≠ v.weight.value
    s.applyReporting v = State.drainTest { s with
      log := { s.log with
        calm := { batch := v.calmBatch.value, hold := v.calmHold.value },
        surge := { batch := v.surgeBatch.value, hold := v.surgeHold.value },
        policy := v.policy },
      bcm := { s.bcm with surge := { s.bcm.surge with on := v.surgeOn.value, off := v.surgeOff.value } },
      trunk := { s.trunk with
        arbiter := v.arbiter, weight := v.weight.value, reportCount := if changed then 0 else s.trunk.reportCount,
        lastServed := if changed then none else s.trunk.lastServed, maxPayload := v.maxPayload.value },
      evu := { s.evu with statusInterval := v.interval.value, holdoffTime := v.holdoff.value } } := by
  simp only [State.applyReporting, Trunk.setArbiter_eq]
  rfl

/-- What a request that is not clamped carries. -/
def ReportingFields.Whole (f : ReportingFields) (s : State) : Prop :=
  GivenWithin 1 32 f.calmBatch ∧ GivenWithin 10 10000 f.calmHold ∧ GivenWithin 1 32 f.surgeBatch ∧
    GivenWithin 10 10000 f.surgeHold ∧ GivenWithin 1 1000 f.surgeOn ∧ GivenWithin 1 1000 f.surgeOff ∧
    (clampedOr 1 1000 s.bcm.surge.off f.surgeOff).value ≤ (clampedOr 1 1000 s.bcm.surge.on f.surgeOn).value ∧
    GivenWithin 1 15 f.weight ∧ (∀ x, f.maxPayload = some x → x = 256 ∨ x = 512 ∨ x = 1024) ∧
    GivenWithin 1 60 f.interval ∧ GivenWithin 0 1000 f.holdoff

theorem ReportingFields.values_changed_iff (f : ReportingFields) (s : State) (a : ArbiterMode) (p : LogPolicy) :
    (f.values s a p).changed = true ↔ ¬f.Whole s := by
  simp (disch := decide) only [ReportingFields.values, ReportingValues.changed, Bool.or_eq_true,
    maxPayloadOr_changed_iff, surgeOffOr_changed_iff, clampedOr_changed_iff, ← not_and_or, ReportingFields.Whole, and_assoc]

theorem doSetReporting_eq {a : ArbiterMode} {p : LogPolicy}
    (ha : f.arbiter = none ∧ a = s.trunk.arbiter ∨ f.arbiter = some (arbiterCode a))
    (hp : f.policy = none ∧ p = s.log.policy ∨ f.policy = some (policyCode p)) :
    doSetReporting f s =
      (s.applyReporting (f.values s a p), Reply.applied (f.values s a p).changed (f.values s a p).bytes) := by
  simp only [doSetReporting, chosenOr_eq arbiterOf_code ha, chosenOr_eq policyOf_code hp]

/-- One code outside its list refuses the whole request. -/
theorem doSetReporting_badCode (h : (∃ x, f.arbiter = some x ∧ 3 ≤ x) ∨ ∃ x, f.policy = some x ∧ 2 ≤ x)
    (s : State) : doSetReporting f s = (s, Reply.refuse .badValue) := by
  unfold doSetReporting
  rcases h with ⟨x, hx, hcode⟩ | ⟨x, hx, hcode⟩
  · simp only [hx, chosenOr, arbiterOf_eq_none hcode]
  · simp only [hx, chosenOr, policyOf_eq_none hcode]
    split
    · next hnone => cases hnone
    · rfl

end Sys2Proof.Machine
end

section
/-! SUPPORT. What Set Event Levels does (R181): the settings applied, the offers of causes that become reportable (R182), and the
release of STANDBY by one that comes below the wake threshold (R159). -/

namespace Sys2Proof.Machine

variable {s : State} {f : LevelFields}

/-! ## The values applied -/

theorem levelsOr_get (now : Vector Nat 12) (v : Vector Byte 12) (i : Fin 12) :
    (levelsOr now (some (v.toList.map BitVec.toNat))).get i = min 7 (v.get i).toNat := by
  rw [levelsOr, Vector.get_ofFn, clamp_zero]
  simp [Vector.get_eq_getElem]

theorem masksOr_get (now : Vector ErrorEntry 14) (n : Nat) (k : Fin 14) :
    (masksOr now (some n)).get k = { now.get k with masked := n.testBit k.val } := Vector.get_ofFn _ _

/-- No level, where levels are given, is above 7. -/
def LevelsWithin (ls : Option (Vector Byte 12)) : Prop := ∀ v, ls = some v → ∀ i, (v.get i).toNat ≤ 7

theorem any_above_iff (v : Vector Byte 12) :
    ((v.toList.map BitVec.toNat).any fun x => decide (7 < x)) = true ↔ ¬LevelsWithin (some v) := by
  simp only [LevelsWithin, Option.some.injEq, forall_eq', not_forall, Nat.not_le, List.any_map, List.any_eq_true,
    Vector.mem_toList_iff, Vector.mem_iff_getElem, Function.comp_apply, decide_eq_true_eq]
  constructor
  · rintro ⟨_, ⟨i, hi, rfl⟩, h⟩
    exact ⟨⟨i, hi⟩, h⟩
  · rintro ⟨i, h⟩
    exact ⟨v.get i, ⟨i.val, i.isLt, rfl⟩, h⟩

theorem LevelFields.changed_iff (ls : Option (Vector Byte 12)) (p w m : Option Nat) (e : Evu) :
    (LevelFields.sent ls p w m).changed e = true ↔
      ¬(LevelsWithin ls ∧ GivenWithin 1 8 p ∧ GivenWithin 0 7 w) := by
  cases ls with
  | none =>
    have hnone : LevelsWithin none := fun v hv => absurd hv (Option.some_ne_none v).symm
    simp (disch := decide) only [LevelFields.sent, LevelFields.changed, Option.map_none, Bool.false_or, Bool.or_eq_true,
      clampedOr_changed_iff, ← not_and_or, hnone, true_and]
  | some v =>
    simp (disch := decide) only [LevelFields.sent, LevelFields.changed, Option.map_some, Bool.or_eq_true, any_above_iff,
      clampedOr_changed_iff, ← not_and_or, and_assoc]

theorem doSetEventLevels_badMask {n : Nat} (hm : f.masks = some n) (h : 16384 ≤ n) (s : State) :
    doSetEventLevels f s = (s, Reply.refuse .badValue) := by
  simp only [doSetEventLevels, hm]
  exact if_pos h

theorem doSetEventLevels_eq (h : ∀ n, f.masks = some n → n < 16384) (s : State) :
    doSetEventLevels f s = (s.setLevels f, Reply.applied (f.changed s.evu) (f.applied s.evu).levelBytes) := by
  unfold doSetEventLevels
  split
  · next n hn => exact if_neg (Nat.not_le.2 (h n hn))
  · rfl

/-! ## The offers (R182) -/

theorem Evu.reportable_iff (e : Evu) (c : Fin 24) :
    e.reportable c = true ↔ e.level c < e.reportThreshold ∧ e.level c ≠ 7 := decide_eq_true_iff

namespace State

theorem eventWaiting_eq_false_iff (s : State) : s.eventWaiting = false ↔ ∀ f ∈ s.trunk.reportQ, f.body ≠ .eventList := by
  simp [State.eventWaiting]

theorem offer_eq (s : State) (c : Fin 24) :
    s.offer c = s.modEvu fun e => { e with wanted := e.wanted || (s.evu.reportable c && !s.eventWaiting) } := by
  unfold State.offer
  cases s.evu.reportable c && !s.eventWaiting with
  | true => simp
  | false => simp [State.modEvu]

/-- The offers in turn ask for the report where one of them does. -/
theorem foldl_offer (p : Fin 24 → Bool) (cs : List (Fin 24)) (s : State) :
    cs.foldl (fun t c => if p c then t.offer c else t) s = s.modEvu fun e =>
      { e with wanted := e.wanted || cs.any fun c => p c && (s.evu.reportable c && !s.eventWaiting) } := by
  induction cs generalizing s with
  | nil => simp [State.modEvu]
  | cons c cs ih =>
    rw [List.foldl_cons, ih, List.any_cons]
    cases p c with
    | false => rfl
    | true =>
      simp only [if_true, offer_eq, State.modEvu, Bool.true_and, ← Bool.or_assoc]
      rfl

/-- The settings applied, with the offers of the pending causes that they make reportable. -/
def levelled (f : LevelFields) (s : State) : State := (s.modEvu f.applied).offerNew s.evu

/-- A pending cause that was not reportable has become it. -/
def newlyReportable (f : LevelFields) (e : Evu) : Bool :=
  (List.finRange 24).any fun c => (e.isPending c && !e.reportable c) && (f.applied e).reportable c

theorem levelled_eq (f : LevelFields) (s : State) : s.levelled f = { s with evu := { f.applied s.evu with
    wanted := s.evu.wanted || (newlyReportable f s.evu && !s.eventWaiting) } } := by
  have hany : ((List.finRange 24).any fun c =>
      (s.evu.isPending c && !s.evu.reportable c) && ((f.applied s.evu).reportable c && !s.eventWaiting)) =
      (newlyReportable f s.evu && !s.eventWaiting) := by
    simp only [newlyReportable, ← Bool.and_assoc]
    cases s.eventWaiting <;> simp
  rw [← hany]
  exact foldl_offer _ _ _

theorem flag_levelled (f : LevelFields) (s : State) : (s.levelled f).flag = s.flag := by
  rw [levelled_eq]
  exact flag_congr rfl rfl rfl rfl rfl rfl rfl

theorem link_levelled (f : LevelFields) (s : State) : (s.levelled f).link = s.link := by rw [levelled_eq]

theorem wanted_levelled_iff (f : LevelFields) (s : State) : (s.levelled f).evu.wanted = true ↔ s.evu.wanted = true ∨
    ((∃ c, (s.evu.causes.get c).pending = true ∧ ¬(s.evu.level c < s.evu.reportThreshold ∧ s.evu.level c ≠ 7) ∧
      (f.applied s.evu).level c < (f.applied s.evu).reportThreshold ∧ (f.applied s.evu).level c ≠ 7) ∧
      ∀ q ∈ s.trunk.reportQ, q.body ≠ .eventList) := by
  rw [levelled_eq, ← eventWaiting_eq_false_iff]
  simp [newlyReportable, Evu.isPending, ← Evu.reportable_iff, and_assoc]

/-! ## The release of STANDBY (R159) -/

/-- A pending cause comes below the wake threshold while the bank is in STANDBY. -/
def WokenBy (f : LevelFields) (s : State) : Prop :=
  s.bcm.mode = .standby ∧ ∃ c, (s.evu.causes.get c).pending = true ∧
    (f.applied s.evu).level c < (f.applied s.evu).wakeThreshold ∧ ¬s.evu.level c < s.evu.wakeThreshold

theorem wokenBy_iff (f : LevelFields) (s : State) :
    s.WokenBy f ↔ s.bcm.mode = .standby ∧ s.evu.wakesNow (s.levelled f).evu = true := by
  simp only [WokenBy, Evu.wakesNow, levelled_eq, Evu.isPending, Evu.below, List.any_eq_true, List.mem_finRange, true_and,
    Bool.and_eq_true, Bool.not_eq_true', decide_eq_true_eq, decide_eq_false_iff_not, and_assoc]
  rfl

theorem setLevels_woken (h : s.WokenBy f) : s.setLevels f = (s.levelled f).releaseStandby :=
  if_pos ((wokenBy_iff f s).1 h)

theorem setLevels_quiet (h : ¬s.WokenBy f) : s.setLevels f = s.levelled f := if_neg (mt (wokenBy_iff f s).2 h)

theorem evu_raiseQuiet (s : State) (c : Cause) (d : Option Nat) : (s.raiseQuiet c d).evu =
    { s.evu with causes := (s.raiseQuiet c d).evu.causes, wanted := (s.raiseQuiet c d).evu.wanted } := by
  unfold State.raiseQuiet
  dsimp only
  split
  · rfl
  · rw [offer_eq]
    rfl

theorem evu_releaseStandby (s : State) : s.releaseStandby.evu =
    { s.evu with causes := s.releaseStandby.evu.causes, wanted := s.releaseStandby.evu.wanted } := by
  rw [State.releaseStandby, evu_raiseQuiet, evu_raiseQuiet ((s.setMode .service).startLink)]
  simp

/-- A raised cause touches the entries and the report; every setting is as the request gave it. -/
theorem evu_setLevels (f : LevelFields) (s : State) : (s.setLevels f).evu =
    { f.applied s.evu with causes := (s.setLevels f).evu.causes, wanted := (s.setLevels f).evu.wanted } := by
  by_cases h : s.WokenBy f
  · rw [setLevels_woken h, evu_releaseStandby, levelled_eq]
  · rw [setLevels_quiet h, levelled_eq]

theorem startLink_running (h : s.link.running = false) (hs : s.link.stopping = false) :
    s.startLink.link.running = true ∧ s.startLink.link.parity = false ∧ s.startLink.link.next = 0 ∧
      s.startLink.link.cycleStart = s.now := by
  have hstart : s.startLink = s.flagging (State.modLink (Link.started s.now)) := by simp [State.startLink, h, hs]
  rw [hstart, flagging_eq]
  exact ⟨rfl, rfl, rfl, rfl⟩

section
variable (h : s.WokenBy f)
include h

theorem WokenBy.levelled_mode : (s.levelled f).bcm.mode = .standby := by
  rw [levelled_eq]
  exact h.1

theorem WokenBy.bcm_setLevels : (s.setLevels f).bcm = { s.bcm with mode := .service } := by
  rw [setLevels_woken h, levelled_eq]
  simp

/-- The settings raise no cause of their own; the release raises WAKE and MODE_CHANGE. -/
theorem WokenBy.causes_setLevels : (s.setLevels f).evu.causes =
    upd (upd s.evu.causes (causeIndex .wake) (CauseEntry.raised none)) (causeIndex .modeChange) (CauseEntry.raised none) := by
  rw [setLevels_woken h, causes_releaseStandby, levelled_eq]
  rfl

theorem WokenBy.pending_modeChange : ((s.setLevels f).evu.causes.get 23).pending = true := by
  simp [h.causes_setLevels, causeIndex, CauseEntry.raised]

theorem WokenBy.pending_wake : ((s.setLevels f).evu.causes.get 18).pending = true := by
  simp [h.causes_setLevels, causeIndex, CauseEntry.raised]

theorem WokenBy.cause_setLevels_other {c : Fin 24} (hm : c ≠ 23) (hw : c ≠ 18) :
    (s.setLevels f).evu.causes.get c = s.evu.causes.get c := by
  simp [h.causes_setLevels, causeIndex, hm, hw]

theorem WokenBy.raisedFrom_setLevels : RaisedFrom s (s.setLevels f) := by
  have hraised := raisedFrom_releaseStandby h.levelled_mode
  have hlevelled := levelled_eq f s
  have hflag := flag_levelled f s
  have hlink := link_levelled f s
  rw [setLevels_woken h]
  generalize s.levelled f = v at hraised hlevelled hflag hlink ⊢
  exact {
    frame := by
      have hframe := hraised.frame
      generalize v.releaseStandby = u at hframe ⊢
      rw [hframe, hlevelled]
    settings := by rw [hraised.settings, hlink]
    awake := fun hn => absurd h.1 hn
    triggers := hraised.triggers.congr hlink hflag rfl rfl
    flags := fun x hx => (hraised.flags x hx).trans (congrFun hflag x) }

/-- The lane link starts its first cycle at once (R136, R159). -/
theorem WokenBy.link_setLevels (hrun : s.link.running = false) (hstop : s.link.stopping = false) :
    (s.setLevels f).link.running = true ∧ (s.setLevels f).link.parity = false ∧ (s.setLevels f).link.next = 0 ∧
      (s.setLevels f).link.cycleStart = s.now := by
  rw [setLevels_woken h, link_releaseStandby h.levelled_mode, levelled_eq]
  exact startLink_running hrun hstop

end

end State
end Sys2Proof.Machine
end

section
namespace Sys2Proof.Machine

/-- Settles O59: each request is served by its own rule, whose values, replies and flags the lemmas above give. -/
theorem settingRequestsTakeEffect : Obligations.SettingRequestsTakeEffect := by
  unfold Obligations.SettingRequestsTakeEffect
  refine ⟨fun f extra => Reader.reporting_be f extra rfl, fun s r extra hm => ?_⟩
  intro t clampOf
  have hflag : s.flag = t.flag := State.flag_congr rfl rfl rfl rfl rfl rfl rfl
  have hclamp {lo hi : Nat} (h : lo ≤ hi) (old : Nat) (f : Option Nat) :
      (clampedOr lo hi old f).value = clampOf lo hi old f := by
    cases f with
    | none => rfl
    | some v => exact clamp_eq lo hi v h
  refine ⟨fun z n hn hr => ?quota, fun a n hn hr ha => ?quotaUnknown, fun a p d q h hp hd hq hh hr hbad => ?peerBad,
    fun n hn hr => ⟨?resetNone, ?reset⟩, fun hr => ?readZones, fun b p d q h hd hq hh hr => ?peer,
    fun fields f hr hf => ⟨?reporting, ?reportingBad⟩, fun ls p w m hp hw hmask hr => ?levels⟩
  case quota =>
    intro x q u raised
    have hzone : (byte z.val).toNat = z.val := toNat_byte _ (by omega)
    refine ⟨?_, (t.triggers_modZone z _).congr rfl hflag.symm rfl rfl, t.modZone_eq z _⟩
    rw [exec_setZoneQuota hn hr hm, hzone, doSetZoneQuota_eq _ z hn, State.setQuota_eq]
    rfl
  case quotaUnknown => rw [exec_setZoneQuota hn hr hm, doSetZoneQuota_unknown ha]
  case peerBad =>
    rw [exec_setPeer hr (Reader.peer_be a rfl hp hd hq hh extra) hm]
    rcases hbad with ha | ⟨v, hv, hcode⟩
    · rw [doSetPeer_unknown ha]
    · rw [doSetPeer_badPresence hv hcode]
  case resetNone =>
    rintro rfl
    rw [exec_resetZoneCounts hn hr hm, doResetZoneCounts_zero]
  case reset =>
    intro h0
    refine ⟨t.resetZones n allZones, ?_, t.resetZones_eq n allZones,
      (t.triggers_resetZones n allZones).congr rfl hflag.symm rfl rfl, fun z => ?_⟩
    · rw [exec_resetZoneCounts hn hr hm, doResetZoneCounts_eq _ h0]
      rfl
    · rw [State.zone_resetZones]
      simp only [allZones, List.mem_finRange, true_and]
      rfl
  case readZones =>
    rw [exec_readZones hr hm, State.zonesBytes_eq]
    rfl
  case peer =>
    have hbank : (bankByte b).toNat = b.val := toNat_byte _ (by omega)
    have hpresence : optFits 1 (p.map fun x => bit (!x)) := by
      rintro v hv
      cases p with
      | none => cases hv
      | some x => cases hv; cases x <;> decide
    have hread := Reader.peer_be (bankByte b) (bs := [p.isSome, d.isSome, q.isSome, h.isSome]) (by simp) hpresence hd hq hh extra
    rw [exec_setPeer hr hread hm, hbank, doSetPeer_eq]
    have htuned : s.flag = (t.modPeers (Peers.tuned d q h)).flag := State.flag_congr rfl rfl rfl rfl rfl rfl rfl
    refine ⟨_, _, rfl, (State.triggers_modPeer (t.modPeers (Peers.tuned d q h)) b _).congr rfl htuned.symm rfl rfl, ?_,
      Reply.applied_status _ _, ?_⟩
    · rw [State.modPeer_eq, Peer.configured_eq, ← hclamp (by decide), ← hclamp (by decide), ← hclamp (by decide)]
      rfl
    · simp (disch := decide) only [Reply.applied_ok_iff, Bool.or_eq_true, clampedOr_changed_iff, ← not_and_or, not_not,
        and_assoc]
      rfl
  case reporting =>
    intro a g ha hg on w changed u within
    have hpayload : (maxPayloadOr t.trunk.maxPayload f.maxPayload).value = u.trunk.maxPayload := by
      simp only [u]
      cases f.maxPayload with
      | none => rfl
      | some v => exact payloadOf_eq v
    have hoff : (surgeOffOr (clampOf 1 1000 t.bcm.surge.on f.surgeOn) t.bcm.surge.off f.surgeOff).value = u.bcm.surge.off := by
      rw [surgeOffOr, hclamp (by decide), Nat.min_comm]
      rfl
    have hreply : (Reply.applied (f.values t a g).changed (f.values t a g).bytes).status = .ok ↔ f.Whole t :=
      (Reply.applied_ok_iff _ _).trans (by rw [f.values_changed_iff t a g, not_not])
    refine ⟨_, ?_, Reply.applied_status (f.values t a g).changed (f.values t a g).bytes, ?_⟩
    · have hu : t.applyReporting (f.values t a g) = u.drainTest := by
        rw [State.applyReporting_eq]
        refine congrArg State.drainTest ?_
        simp (disch := decide) only [ReportingFields.values, hclamp, hpayload, hoff]
        rfl
      rw [exec_setReporting hr hf hm, doSetReporting_eq (s := s.beginRequest) ha hg, ← hu]
    · rw [hreply, ReportingFields.Whole, hclamp (by decide), hclamp (by decide)]
      rfl
  case reportingBad =>
    intro hbad
    rw [exec_setReporting hr hf hm, doSetReporting_badCode hbad]
  case levels =>
    have hasked : s.asked r 28 (be 4 (maskOf [ls.isSome, p.isSome, w.isSome, m.isSome]) ++ levelField ls ++ optField 1 p ++
        optField 1 w ++ optField 2 m ++ extra) := by
      cases ls <;> exact hr
    let f := LevelFields.sent ls p w m
    have hexec := exec_setEventLevels (f := f) hasked (Reader.levels_be rfl hp hw hmask extra) hm
    refine ⟨fun x hx hbig => by rw [hexec, doSetEventLevels_badMask hx hbig], fun hsmall => ?_⟩
    have hevu := State.evu_setLevels f t
    have hwoken : t.WokenBy f ↔ s.bcm.mode = .standby ∧ ∃ c, (s.evu.causes.get c).pending = true ∧
        (t.setLevels f).evu.level c < (t.setLevels f).evu.wakeThreshold ∧ ¬s.evu.level c < s.evu.wakeThreshold := by
      rw [hevu]
      rfl
    refine ⟨_, t.setLevels f, ?_, Reply.applied_status (f.changed t.evu) (f.applied t.evu).levelBytes, ?_, fun i => ?_, ?_, ?_,
      fun k => ?_, fun hquiet => ?quiet, fun hwaking => ?waking⟩
    · rw [hexec, doSetEventLevels_eq (f := f) hsmall]
    · rw [Reply.applied_ok_iff, LevelFields.changed_iff ls p w m, not_not]
      simp [LevelsWithin, GivenWithin]
    · rw [hevu]
      cases ls with
      | none => rfl
      | some v => exact levelsOr_get t.evu.levels v i
    · rw [hevu, ← hclamp (by decide)]
      rfl
    · rw [hevu, ← hclamp (by decide)]
      rfl
    · rw [hevu]
      cases m with
      | none => rfl
      | some n => exact masksOr_get t.evu.errors n k
    case quiet =>
      rw [State.setLevels_quiet (mt hwoken.1 hquiet)]
      refine ⟨by rw [State.levelled_eq], by rw [State.levelled_eq]; rfl, (State.wanted_levelled_iff f t).trans ?_⟩
      rw [State.levelled_eq]
      rfl
    case waking =>
      have hwoke : t.WokenBy f := hwoken.2 hwaking
      have hraised := hwoke.raisedFrom_setLevels
      exact ⟨hwoke.bcm_setLevels, hwoke.pending_modeChange, hwoke.pending_wake, fun c => hwoke.cause_setLevels_other,
        hwoke.link_setLevels, hraised.triggers.congr rfl hflag.symm rfl rfl,
        hraised.frame.trans (by rw [hwoke.bcm_setLevels]; rfl)⟩

end Sys2Proof.Machine
end

section
/-! SUPPORT. The command of a reached slot and its sending (R79, R81, R85, R94, R124 to R127, R195). -/

namespace Sys2Proof.Machine

/-! ## The message (R195) -/

/-- Open bytes are the free values of one draw, site by site (log entry 1). -/
theorem openBytes_eq_map (draw site n : Nat) :
    openBytes draw site n = (List.range n).map fun j => Config.freeByte draw (site + j) := by
  induction n generalizing site with
  | zero => rfl
  | succ n ih =>
    rw [openBytes, ih, List.range_succ_eq_map, List.map_cons, List.map_map]
    simp [Function.comp_def, Nat.add_assoc, Nat.add_comm 1]

namespace State

variable {s : State} {l : LaneNo}

/-! ## The choice of the command (R79, R124) -/

/-- A reached slot sends the command it carries where that is one of the kind asked for. -/
theorem sendIf_slotCommand {c : SlotCommand} {kind : SlotCommand → Bool} (hr : s.slotReached l = true)
    (hc : s.slotCommand l = some c) (hk : kind c = true) : s.sendIf l kind = s.sendSlot l c := by
  simp [State.sendIf, hr, hc, hk]

theorem slotCommand_reset (h : (s.slot l).resetDue = true) : s.slotCommand l = some (.mode none) := by
  simp [State.slotCommand, h]

theorem slotCommand_absent (h : (s.slot l).resetDue = false) (hk : (s.slot l).link = .absent) :
    s.slotCommand l = some (.poll true) := by
  simp [State.slotCommand, h, hk]

theorem slotCommand_joining (h : (s.slot l).resetDue = false) (hk : (s.slot l).link = .joining) :
    s.slotCommand l = some (.poll false) := by
  simp [State.slotCommand, h, hk]

theorem slotCommand_test {x : LinkTest} (h : (s.slot l).resetDue = false) (hk : (s.slot l).link = .active)
    (hx : s.link.test = some x) (hb : x.begun = true) : s.slotCommand l = some (.test x.word) := by
  simp [State.slotCommand, h, hk, Link.testing, hx, hb]

/-- No link test runs before one has begun (R134). -/
theorem testing_eq_none (h : ∀ x, s.link.test = some x → x.begun = false) : s.link.testing = none := by
  unfold Link.testing
  split
  · next x hx => simp [h x hx]
  · rfl

theorem slotCommand_repeat (h : (s.slot l).resetDue = false) (hk : (s.slot l).link = .active)
    (ht : s.link.testing = none) (hd : (s.slot l).repeatDue = true) : s.slotCommand l = some .again := by
  simp [State.slotCommand, h, hk, ht, hd]

theorem slotCommand_due (h : (s.slot l).resetDue = false) (hk : (s.slot l).link = .active)
    (ht : s.link.testing = none) (hd : (s.slot l).repeatDue = false) : s.slotCommand l = some (s.dueCommand l) := by
  simp [State.slotCommand, h, hk, ht, hd]

theorem dueCommand_verdict {v : VerdictCommand} (h : (s.slot l).verdict = some v) : s.dueCommand l = .verdict v := by
  simp [State.dueCommand, h]

theorem dueCommand_parameter {h : ReplyHead} {a : Access} (hv : (s.slot l).verdict = none)
    (hp : (s.slot l).parameterDue = true) (hm : s.mge.phase = .accessing h a) (ha : a.lane = l) :
    s.dueCommand l = .parameter a.number a.write a.value := by
  simp [State.dueCommand, State.parameterOf, hv, hp, hm, ha]

theorem dueCommand_mode (hv : (s.slot l).verdict = none) (hp : (s.slot l).parameterDue = false)
    (hm : (s.slot l).modeDue = true) : s.dueCommand l = .mode (some (s.lane l).control) := by
  simp [State.dueCommand, hv, hp, hm]

theorem dueCommand_lamp {d : Display} (hv : (s.slot l).verdict = none) (hp : (s.slot l).parameterDue = false)
    (hm : (s.slot l).modeDue = false) (hd : (s.slot l).lamp = some d) : s.dueCommand l = .lamp d := by
  simp [State.dueCommand, hv, hp, hm, hd]

theorem dueCommand_poll (hv : (s.slot l).verdict = none) (hp : (s.slot l).parameterDue = false)
    (hm : (s.slot l).modeDue = false) (hd : (s.slot l).lamp = none) : s.dueCommand l = .poll false := by
  simp [State.dueCommand, hv, hp, hm, hd]

/-! ## The sending (R81, R85, R94, R126, R127) -/

/-- The sending of a command counts an access's slots from its Parameter command, and touches the engine in no other way. -/
theorem mge_sendSlot (s : State) (l : LaneNo) (c : SlotCommand) :
    (s.sendSlot l c).mge = match c with
      | .parameter _ _ _ => { s.mge with phase := s.mge.phase.counting }
      | _ => s.mge := by
  cases c <;> rfl

theorem link_sendSlot (s : State) (l : LaneNo) (c : SlotCommand) :
    (s.sendSlot l c).link = { s.link with
      slots := upd s.link.slots l (Slot.sending c), awaiting := true, line := commandBytes s.draws l c } := by
  cases c <;> rfl

theorem slot_sendSlot (s : State) (l m : LaneNo) (c : SlotCommand) :
    (s.sendSlot l c).slot m = if m = l then (s.slot l).sending c else s.slot m := by
  rw [State.slot, link_sendSlot, get_upd]
  rfl

theorem lane_sendSlot (s : State) (l m : LaneNo) (c : SlotCommand) :
    (s.sendSlot l c).lane m = if m = l then (s.lane l).timed s.now c else s.lane m := by
  have h : (s.sendSlot l c).lanes = upd s.lanes l (Lane.timed s.now c) := by cases c <;> rfl
  rw [State.lane, h, get_upd]
  rfl

theorem sendSlot_eq (s : State) (l : LaneNo) (c : SlotCommand) :
    s.sendSlot l c = { s with
      draws := s.draws + 1, lanes := (s.sendSlot l c).lanes, mge := (s.sendSlot l c).mge,
      link := { s.link with
        slots := (s.sendSlot l c).link.slots, awaiting := true, line := (s.sendSlot l c).link.line } } := by
  cases c <;> rfl

end State

theorem Lane.timed_of_not_verdict {c : SlotCommand} (h : ∀ v, c ≠ .verdict v) (now : Nat) (n : Lane) : n.timed now c = n := by
  cases c with
  | verdict v => exact absurd rfl (h v)
  | poll | lamp | mode | parameter | again | test => rfl

/-- The command that a slot sends is the outstanding one where its delivery is kept track of; a Repeat leaves the one that it
repeats (R126, R127). -/
theorem Slot.outstanding_sending (c : SlotCommand) (k : Slot) :
    (k.sending c).outstanding = match c with
      | .again => k.outstanding
      | .verdict _ | .lamp _ | .mode (some _) | .parameter _ _ _ => some c
      | _ => none := by
  cases c with
  | mode i => cases i <;> rfl
  | poll | verdict | lamp | parameter | again | test => rfl

theorem Slot.repeatCount_sending (c : SlotCommand) (k : Slot) :
    (k.sending c).repeatCount = match c with | .again => k.repeatCount + 1 | _ => 0 := rfl

/-- Settles O25: the slot's command by R124's table and R79's order, then the sending field by field. -/
theorem slotCarriesDueCommand : Obligations.SlotCarriesDueCommand := by
  unfold Obligations.SlotCarriesDueCommand
  refine ⟨fun s l hr => ?chosen, fun s l c => ?sent⟩
  case chosen =>
    intro k
    have send {c : SlotCommand} {kind : SlotCommand → Bool} (hc : s.slotCommand l = some c) (hk : kind c = true) :
        (Host.Outcome.next (s.sendIf l kind) : Host.Outcome State Fault Refusal) = .next (s.sendSlot l c) :=
      congrArg Host.Outcome.next (State.sendIf_slotCommand hr hc hk)
    refine ⟨fun h => send (State.slotCommand_reset h) rfl, fun h hk => send (State.slotCommand_absent h hk) rfl,
      fun h hk => send (State.slotCommand_joining h hk) rfl,
      fun h hk => ⟨fun x hx hb => send (State.slotCommand_test h hk hx hb) rfl, fun htest => ?_⟩⟩
    have ht := State.testing_eq_none htest
    refine ⟨fun hd => send (State.slotCommand_repeat h hk ht hd) rfl, fun hd => ?_⟩
    have hdue := State.slotCommand_due h hk ht hd
    refine ⟨fun d w hv => send (hdue.trans (congrArg some (State.dueCommand_verdict hv))) rfl,
      fun d hv => send (hdue.trans (congrArg some (State.dueCommand_verdict hv))) rfl,
      fun d hv => send (hdue.trans (congrArg some (State.dueCommand_verdict hv))) rfl,
      fun hv => ⟨fun h a hp hm ha => send (hdue.trans (congrArg some (State.dueCommand_parameter hv hp hm ha))) rfl,
        fun hp => ⟨fun hm => send (hdue.trans (congrArg some (State.dueCommand_mode hv hp hm))) rfl,
          fun hm => ⟨fun d hl => send (hdue.trans (congrArg some (State.dueCommand_lamp hv hp hm hl))) rfl,
            fun hl => send (hdue.trans (congrArg some (State.dueCommand_poll hv hp hm hl))) rfl⟩⟩⟩⟩
  case sent =>
    intro t k kept counted
    have hslot : t.slot l = k.sending c := (s.slot_sendSlot l l c).trans (if_pos rfl)
    have hlane : t.lane l = (s.lane l).timed s.now c := (s.lane_sendSlot l l c).trans (if_pos rfl)
    have hlink : t.link = { s.link with
      slots := upd s.link.slots l (Slot.sending c), awaiting := true, line := commandBytes s.draws l c } := s.link_sendSlot l c
    have hout := Slot.outstanding_sending c k
    rw [hslot, hlane]
    refine ⟨?_, by rw [hlink], rfl, rfl, ?_, fun h => ?_, ?_, fun h hn => ?_, ?_, ?_, ?_, ?_, ?_, ?_, ?_,
      fun h => Lane.timed_of_not_verdict h _ _, fun m hm => ⟨(s.lane_sendSlot l m c).trans (if_neg hm),
        (s.slot_sendSlot l m c).trans (if_neg hm)⟩, s.sendSlot_eq l c⟩
    · rw [hlink]
      show commandBytes s.draws l c = _
      cases c with
      | verdict v => cases v <;> rfl
      | lamp d => cases d <;> rfl
      | mode i => cases i <;> simp [commandBytes, commandFields, openBytes_eq_map]
      | parameter n w v => cases w <;> simp [commandBytes, commandFields, openBytes_eq_map]
      | poll | again | test => rfl
    · intro h
      rw [show c = .again from h]
      exact ⟨rfl, rfl⟩
    · rw [Slot.repeatCount_sending]
      split
      · exact absurd rfl h
      · rfl
    · rintro (⟨v, h⟩ | ⟨d, h⟩ | ⟨i, h⟩ | ⟨n, w, v, h⟩) <;> rw [hout, h]
    · rw [hout]
      split
      · exact absurd rfl h
      · next v => exact absurd (.inl ⟨v, rfl⟩) hn
      · next d => exact absurd (.inr (.inl ⟨d, rfl⟩)) hn
      · next i => exact absurd (.inr (.inr (.inl ⟨i, rfl⟩))) hn
      · next n w v => exact absurd (.inr (.inr (.inr ⟨n, w, v, rfl⟩))) hn
      · rfl
    · rintro ⟨v, h⟩
      rw [h]
      exact ⟨rfl, rfl⟩
    · rintro ⟨d, h⟩
      rw [h]
      rfl
    · rintro ⟨i, h⟩
      rw [h]
      rfl
    · intro h
      rw [h]
      rfl
    · intro n w v h
      rw [s.mge_sendSlot l c, h]
      refine ⟨rfl, fun _ a hm => ?_⟩
      rw [hm]
      rfl
    · intro d w h ho
      simp [h, Lane.timed, ho, Nat.mul_comm]
    · rintro x (h | h) ho <;> simp [h, Lane.timed, ho, Nat.mul_comm]

end Sys2Proof.Machine
end

section
/-! SUPPORT. A pair's sequencer and its mate mark (R88, R89): which lane a head reports to, when a report comes from the marked head,
and when a further report counts. -/

namespace Sys2Proof.Machine

theorem pairOf_lowerLane (k : Fin 8) : pairOf (lowerLane k) = k := by revert k; decide

theorem pairOf_upperLane (k : Fin 8) : pairOf (upperLane k) = k := by revert k; decide

theorem otherHead_ne (l : LaneNo) : otherHead l ≠ l := by revert l; decide

namespace State

variable {s t : State} {l m : LaneNo}

theorem combined_congr (h : t.pairs = s.pairs) (l : LaneNo) : t.combined l = s.combined l := by
  simp only [State.combined, h]

theorem sequencer_congr (h : t.pairs = s.pairs) (l : LaneNo) : t.sequencer l = s.sequencer l := by
  simp only [State.sequencer, combined_congr h]

/-- A head and its sequencer stand in one pair. -/
@[simp] theorem combined_sequencer (s : State) (l : LaneNo) : s.combined (s.sequencer l) = s.combined l := by
  unfold State.sequencer
  split
  · simp only [State.combined, pairOf_lowerLane]
  · rfl

theorem isMarked_congr (hp : t.pairs = s.pairs) (hm : (t.lane m).mate = (s.lane m).mate) (l : LaneNo) :
    t.isMarked m l = s.isMarked m l := by
  simp only [State.isMarked, combined_congr hp, hm]

theorem isMarked_of_head {x : MateMark} (hc : s.combined l = true) (hm : (s.lane (s.sequencer l)).mate = some x)
    (hh : x.head = l) : s.isMarked (s.sequencer l) l = true := by
  simp [State.isMarked, hc, hm, hh]

theorem not_isMarked_of_none (h : (s.lane m).mate = none) (l : LaneNo) : s.isMarked m l = false := by
  simp [State.isMarked, h]

theorem not_isMarked_of_head (h : s.combined l = false ∨ ∀ x, (s.lane (s.sequencer l)).mate = some x → x.head ≠ l) :
    s.isMarked (s.sequencer l) l = false := by
  unfold State.isMarked
  rw [combined_sequencer]
  rcases h with h | h
  · rw [h, Bool.false_and]
  · split
    · next x hx => rw [decide_eq_false (h x hx), Bool.and_false]
    · rw [Bool.and_false]

/-- A report from a head that is not marked does not count (R89). -/
theorem countMate_of_unmarked (h : s.isMarked (s.sequencer l) l = false) : s.countMate l = s := by
  simp [State.countMate, h]

/-- An update of a lane rests on that lane alone. -/
theorem modLane_eq_const (s : State) (l : LaneNo) (f : Lane → Lane) : s.modLane l f = s.modLane l fun _ => f (s.lane l) := rfl

/-- A further report from the marked head's slot counts (R89). -/
theorem countMate_of_marked {x : MateMark} (hc : s.combined l = true) (hm : (s.lane (s.sequencer l)).mate = some x)
    (hh : x.head = l) :
    s.countMate l = s.modLane (s.sequencer l) fun n => { n with mate := some { head := l, reports := x.reports + 1 } } := by
  rw [State.countMate, if_pos (isMarked_of_head hc hm hh), modLane_eq_const, hm, ← hh]
  rfl

end State
end Sys2Proof.Machine
end

section
/-! SUPPORT. A good report by the link state of its slot (R125 to R129), and what the reports of an Active slot do: a Confirm, a
Parameter Answer and a Hello. -/

namespace Sys2Proof.Machine
namespace State

variable {s : State} {l : LaneNo} {n : Fin 16} {st : SlotLink}

/-! ## By the link state (R128, R129) -/

/-- A good report acts by the slot's link state, counts at a mate mark where it is new, and the slot ends. -/
theorem goodReply_listens (h : s.listens l st) (n : Fin 16) (r : Report) :
    s.goodReply l n r =
      (if (s.slot l).lastNumber = some n then
        (s.modSlot l (Slot.heard n)).byLink l (decide ((s.slot l).lastNumber ≠ some n)) r
      else ((s.modSlot l (Slot.heard n)).byLink l (decide ((s.slot l).lastNumber ≠ some n)) r).countMate l).thenSlotEnds l := by
  obtain ⟨hrun, hwait, hnext, -, -, hreset, -⟩ := h
  have hawaits : s.awaits l = true := by simp [State.awaits, hrun, hwait, hnext]
  have hkept : (s.slot l).discards = false := by simp [Slot.discards, hreset]
  by_cases hn : (s.slot l).lastNumber = some n <;>
    simp [State.goodReply, hawaits, hkept, State.heard, hn, State.thenSlotEnds]

theorem link_heard (h : s.listens l st) (n : Fin 16) : ((s.modSlot l (Slot.heard n)).slot l).link = st := by
  obtain ⟨-, -, -, -, hlink, -, -⟩ := h
  simp [Slot.heard, hlink]

/-- In a slot that carried no Test nothing is judged (R135). -/
theorem judge_heard (h : s.listens l st) (n : Fin 16) (r : Option Report) :
    (s.modSlot l (Slot.heard n)).judge l r = s.modSlot l (Slot.heard n) := by
  obtain ⟨-, -, -, -, -, -, htest⟩ := h
  have hsent (w : BitVec 16) : ((s.modSlot l (Slot.heard n)).slot l).sent ≠ some (.test w) := by
    simpa [Slot.heard] using htest w
  unfold State.judge
  split
  · next w hw => exact absurd hw (hsent w)
  · rfl

/-- A Hello in an Absent or a Joining slot (R128). -/
theorem byLink_hello_joins {u : BitVec 32} {fresh : Bool} (h : (s.slot l).link = .absent ∨ (s.slot l).link = .joining) :
    s.byLink l fresh (.hello u) = s.modSlot l (Slot.greeted u) := by
  rcases h with h | h <;> simp only [State.byLink, h]

theorem byLink_absent {r : Report} {fresh : Bool} (h : (s.slot l).link = .absent) (hr : ∀ u, r ≠ .hello u) :
    s.byLink l fresh r = s := by
  cases r with
  | hello u => exact absurd rfl (hr u)
  | nothing | presentation | passage | reverse | forced | button | fault | confirm | parameterAnswer | testEcho =>
    simp only [State.byLink, h]

theorem byLink_joining {r : Report} {fresh : Bool} (h : (s.slot l).link = .joining) (hr : ∀ u, r ≠ .hello u) :
    s.byLink l fresh r = s.joiningReport l := by
  cases r with
  | hello u => exact absurd rfl (hr u)
  | nothing | presentation | passage | reverse | forced | button | fault | confirm | parameterAnswer | testEcho =>
    simp only [State.byLink, h]

theorem byLink_active_hello {u : BitVec 32} {fresh : Bool} (h : (s.slot l).link = .active) :
    s.byLink l fresh (.hello u) = (s.judge l (some (.hello u))).loseSlot l := by
  simp only [State.byLink, h]

/-! ## Confirms and Parameter Answers (R91, R94) -/

theorem confirm_done {i : ControlImage} (hi : i = (s.lane l).control) (hc : (s.lane l).commanding = true)
    (hn : (s.lane l).confirmed ≠ some i) :
    s.confirm l i = (s.modLane l fun _ => { s.lane l with confirmed := some i, commanding := false }).raise .laneCommandDone
      (some l.val) := by
  simp only [State.confirm, if_pos hi, if_pos (And.intro hc hn)]
  rfl

theorem confirm_quiet {i : ControlImage} (hi : i = (s.lane l).control)
    (h : (s.lane l).commanding = false ∨ (s.lane l).confirmed = some i) :
    s.confirm l i = s.modLane l fun _ => { s.lane l with confirmed := some i, commanding := false } := by
  have hnot : ¬((s.lane l).commanding = true ∧ (s.lane l).confirmed ≠ some i) := by
    rintro ⟨hc, hn⟩
    rcases h with h | h
    · rw [h] at hc
      cases hc
    · exact hn h
  simp only [State.confirm, if_pos hi, if_neg hnot]
  rfl

theorem confirm_unequal {i : ControlImage} (hi : i ≠ (s.lane l).control) :
    s.confirm l i = (s.modLane l fun _ => { s.lane l with confirmed := some i }).modSlot l fun k => { k with modeDue := true } := by
  simp only [State.confirm, if_neg hi]
  rfl

end State

/-- Settles O27: a Confirm by its three cases, and both ends of an access as `State.endAccess`. -/
theorem confirmAndAnswerEndWork : Obligations.ConfirmAndAnswerEndWork := by
  unfold Obligations.ConfirmAndAnswerEndWork
  refine ⟨fun s l n i hl hn => ?confirm, fun s l h a hp ha => ?access⟩
  case confirm =>
    intro u ends x done
    have hexec : exec (.confirmReport l n i) s = .next (ends (u.confirm l i)) :=
      congrArg Host.Outcome.next (s.goodReply_active l n _ hl hn nofun)
    have hx : u.lane l = x := s.lane_modSlot l _ l
    refine ⟨fun hi hc hd => ?_, fun hi hc => ?_, fun hi => ?_⟩
    · rw [hexec, State.confirm_done (by rwa [hx]) (by rwa [hx]) (by rwa [hx]), hx]
    · rw [hexec, State.confirm_quiet (by rwa [hx]) (by rwa [hx]), hx]
    · rw [hexec, State.confirm_unequal (by rwa [hx]), hx]
  case access =>
    intro ended
    refine ⟨fun n v hl hn hs => ?_, fun hs => ?_, fun hs => ?_⟩
    · refine (congrArg Host.Outcome.next (s.goodReply_active l n (.parameterAnswer v) hl hn nofun)).trans ?_
      have hphase : (s.heardReport l n).mge.phase = .accessing h a := hp
      simp only [State.handOn, State.answerAccess, hphase, ha, hs, and_self, if_true]
      rfl
    · show Host.Outcome.next s.accessTimeout = _
      simp only [State.accessTimeout, hp, if_pos hs, ha]
      rfl
    · show Host.Outcome.next s.accessTimeout = _
      simp only [State.accessTimeout, hp, if_neg hs]

/-- Settles O28: every good report in the slot's link state, with the count at a mate mark around it. -/
theorem helloStartsJoining : Obligations.HelloStartsJoining := by
  unfold Obligations.HelloStartsJoining
  intro s l n heard ends
  have hheard (f : Slot → Slot) : (s.modSlot l (Slot.heard n)).modSlot l f = heard f := State.modSlot_modSlot ..
  have hid : s.modSlot l (Slot.heard n) = heard id := rfl
  refine ⟨fun u h => ?hello, fun h p d => ?absent, fun h p => ?joining, fun u h => ?lost⟩
  case hello =>
    have hlink : ((s.modSlot l (Slot.heard n)).slot l).link = .absent ∨ ((s.modSlot l (Slot.heard n)).slot l).link = .joining :=
      h.imp (State.link_heard · n) (State.link_heard · n)
    have hreply := h.elim (State.goodReply_listens · n (.hello u)) (State.goodReply_listens · n (.hello u))
    rw [State.byLink_hello_joins hlink, hheard] at hreply
    exact congrArg Host.Outcome.next hreply
  case absent =>
    have reply {r : Report} (hr : ∀ u, r ≠ .hello u) :
        (Host.Outcome.next (s.goodReply l n r) : Host.Outcome State Fault Refusal) = .next (ends (heard id)) := by
      rw [State.goodReply_listens h n r, State.byLink_absent (State.link_heard h n) hr]
      rfl
    exact ⟨reply nofun, reply nofun, reply nofun⟩
  case joining =>
    have hrun : ((s.modSlot l (Slot.heard n)).slot l).joinRun = (s.slot l).joinRun := by simp [Slot.heard]
    have reply {r : Report} (hr : ∀ u, r ≠ .hello u) :
        (Host.Outcome.next (s.goodReply l n r) : Host.Outcome State Fault Refusal) =
          .next (ends ((s.modSlot l (Slot.heard n)).joiningReport l)) := by
      rw [State.goodReply_listens h n r, State.byLink_joining (State.link_heard h n) hr]
    refine ⟨fun hfew => ?_, fun hlast => ?_⟩
    · have hreport : (s.modSlot l (Slot.heard n)).joiningReport l = heard fun k => { k with joinRun := k.joinRun + 1 } := by
        rw [State.joiningReport, hrun, if_neg (by omega), hheard]
      rw [← hreport]
      exact ⟨reply nofun, reply nofun⟩
    · have hreport : (s.modSlot l (Slot.heard n)).joiningReport l = (((heard fun k => { k with link := .active, joinRun := 0 }).raise
          .presence (some l.val)).modSlot l fun k => { k with modeDue := true }).offerIdle l := by
        rw [State.joiningReport, hrun, if_pos (by omega), State.joined, hheard]
        rfl
      rw [← hreport]
      exact ⟨reply nofun, reply nofun⟩
  case lost =>
    have hreply := State.goodReply_listens h n (.hello u)
    rw [State.byLink_active_hello (State.link_heard h n), State.judge_heard h] at hreply
    exact congrArg Host.Outcome.next hreply

end Sys2Proof.Machine
end

section
/-! SUPPORT. Rotations at a lane (R81 to R86, R89): what they leave of the pairs and the mate marks, and how a Passage or a Forced
report acts on an OPEN lane, on any other, and from the marked head. -/

namespace Sys2Proof.Machine
namespace State

variable {s : State} {l m head : LaneNo} {d : Direction}

/-! ## Neither the pairs nor a mate mark change as an operation ends -/

theorem pairs_exitUpdate (s : State) (l : LaneNo) : (s.exitUpdate l).pairs = s.pairs := by
  simp only [State.exitUpdate, State.exitMatched, State.logUnmatched, State.scanOut]
  (repeat' split) <;> simp

theorem pairs_recordPassage (s : State) (l : LaneNo) (k : Key) (res : DecisionResult) :
    (s.recordPassage l k res).pairs = s.pairs := by
  unfold State.recordPassage
  split <;> simp

theorem pairs_noteReconcile (s : State) (l : LaneNo) (k : Key) (res : DecisionResult) (g : Recorded) :
    (s.noteReconcile l k res g).pairs = s.pairs := by
  unfold State.noteReconcile
  (repeat' split) <;> simp

theorem pairs_endByPassage (s : State) (l : LaneNo) : (s.endByPassage l).pairs = s.pairs := by
  unfold State.endByPassage
  split <;> simp [pairs_noteReconcile, State.notifyEntry, pairs_recordPassage]

theorem pairs_endWithout (s : State) (l : LaneNo) (o : Outcome) : (s.endWithout l o).pairs = s.pairs := by
  simp only [State.endWithout, State.withdrawRemote, State.revertHeld]
  (repeat' split) <;> simp

theorem pairs_endPassed (s : State) (l : LaneNo) : (s.endPassed l).pairs = s.pairs := by
  unfold State.endPassed
  split
  · simp [pairs_exitUpdate]
  · exact s.pairs_endByPassage l

theorem pairs_endUnpassed (s : State) (l : LaneNo) (o : Outcome) : (s.endUnpassed l o).pairs = s.pairs := by
  unfold State.endUnpassed
  split <;> simp [pairs_endWithout]

theorem pairs_ungranted (s : State) (l : LaneNo) (d : Direction) : (s.ungranted l d).pairs = s.pairs := by
  simp only [State.ungranted, State.tailgate, State.logUnmatched, State.freeExit]
  (repeat' split) <;> simp

/-- A rotation without a grant leaves the mate mark (R84, R89). -/
theorem mate_ungranted (s : State) (l m : LaneNo) (d : Direction) : ((s.ungranted l d).lane m).mate = (s.lane m).mate := by
  have htail : ((s.tailgate l).lane m).mate = (s.lane m).mate := by
    by_cases h : m = l <;> simp [State.tailgate, State.lane, h]
  have hfree : ((s.freeExit l).lane m).mate = (s.lane m).mate := by
    by_cases h : m = l <;> simp [State.freeExit, h]
  have hlog : ((s.logUnmatched l none none).lane m).mate = (s.lane m).mate := by simp [State.logUnmatched]
  unfold State.ungranted
  split <;> try split
  all_goals first | exact htail | exact hfree | exact hlog | rfl

/-! ## A rotation by the state of its lane (R81 to R86, R89) -/

theorem rotation_marked (h : s.isMarked l head = true) (d : Direction) :
    s.rotation l head d = s.modLane l fun n => { n with mate := none } := if_pos h

theorem rotation_granted (h : s.isMarked l head = false) (ho : (s.lane l).state = .opened) (hd : d = (s.lane l).granted) :
    s.rotation l head d = (s.endPassed l).setMate l head := by
  simp [State.rotation, h, ho, hd]

theorem rotation_opposed (h : s.isMarked l head = false) (ho : (s.lane l).state = .opened) (hd : d ≠ (s.lane l).granted) :
    s.rotation l head d = (s.endUnpassed l .backedOut).setMate l head := by
  simp [State.rotation, h, ho, hd]

theorem rotation_ungranted (h : s.isMarked l head = false) (ho : (s.lane l).state ≠ .opened) (d : Direction) :
    s.rotation l head d = s.ungranted l d := by
  simp [State.rotation, h, ho]

/-- An operation that ends by a rotation marks the other head of a wide lane, so this head's report is none of those that
count (R89). -/
theorem countMate_setMate (hm : s.sequencer l = m) : (s.setMate m l).countMate l = s.setMate m l := by
  subst hm
  have hpairs : (s.setMate (s.sequencer l) l).pairs = s.pairs := by unfold State.setMate; split <;> rfl
  refine countMate_of_unmarked (not_isMarked_of_head ?_)
  rw [combined_congr hpairs, sequencer_congr hpairs]
  cases hc : s.combined l with
  | false => exact .inl rfl
  | true =>
    refine .inr fun x hx => ?_
    simp only [State.setMate, combined_sequencer, hc, if_true, State.lane_modLane, Option.some.injEq] at hx
    rw [← hx]
    exact otherHead_ne l

/-- Passage and Forced reports reach the sequencer as one rotation (R81). -/
theorem goodReply_rotation {n : Fin 16} (hl : s.listens l .active) (hn : (s.slot l).lastNumber ≠ some n) (d : Direction)
    {t : State} (ht : ((s.heardReport l n).rotation (s.sequencer l) l d).countMate l = t) :
    s.goodReply l n (.passage d) = t.thenSlotEnds l ∧ s.goodReply l n (.forced d) = t.thenSlotEnds l := by
  subst ht
  exact ⟨s.goodReply_active l n _ hl hn nofun, s.goodReply_active l n _ hl hn nofun⟩

/-- A tailgate raises, writes and counts (R84). -/
theorem tailgate_eq (s : State) (l : LaneNo) :
    s.tailgate l = ((s.raise .tailgate (some l.val)).writeLog {
        time := s.bcm.clock, bank := s.ownBank, lane := l, outcome := .tailgate, reason := none, cls := none, key := none,
        zone := none, used := none, provisional := false }).modLane l
      fun y => { y with counts := { y.counts with tailgates := min 65535 (y.counts.tailgates + 1) } } := by
  simp only [State.tailgate, sat16_eq]
  rfl

theorem freeExit_eq (s : State) (l : LaneNo) :
    s.freeExit l = s.modLane l fun y => { y with counts := { y.counts with freeExits := min 65535 (y.counts.freeExits + 1) } } := by
  simp only [State.freeExit, sat16_eq]

end State

/-- Settles O31: the rotation of the marked head, of the granted direction and of the other, and a Reverse. -/
theorem passageEndsOperation : Obligations.PassageEndsOperation := by
  unfold Obligations.PassageEndsOperation
  refine ⟨fun s l n x hl hn hc hm hh d => ?marked, fun s l n k res d hl hn hopen => ?opened⟩
  case marked =>
    intro t
    have hmark : (s.heardReport l n).isMarked (s.sequencer l) l = true := State.isMarked_of_head hc hm hh
    have hclear : ((s.heardReport l n).modLane (s.sequencer l) fun y => { y with mate := none }).isMarked (s.sequencer l) l =
        false := State.not_isMarked_of_none (by rw [State.lane_modLane, if_pos rfl]) l
    have hrot := State.goodReply_rotation hl hn d
      (t := (s.heardReport l n).modLane (s.sequencer l) fun y => { y with mate := none })
      (by rw [State.rotation_marked hmark d]; exact State.countMate_of_unmarked hclear)
    exact ⟨congrArg Host.Outcome.next hrot.1, congrArg Host.Outcome.next hrot.2⟩
  case opened =>
    obtain ⟨hstate, -, -, hgranted⟩ := hopen
    intro u m mark passed backed
    have hlane : u.lane m = s.lane m := s.lane_modSlot l _ m
    have ho : (u.lane m).state = .opened := by rw [hlane, hstate]
    have hg : (u.lane m).granted = d := by rw [hlane, hgranted]
    have hseq {v : State} (hv : v.pairs = s.pairs) : v.sequencer l = m := State.sequencer_congr hv l
    have hmark {v : State} (hv : v.pairs = s.pairs) : v.setMate m l = mark v := by
      simp only [State.setMate, State.combined_congr hv, otherHead, isUpper, decide_eq_true_eq]
      rfl
    have hpassed : u.endPassed m = passed := by simp only [State.endPassed, hg]; rfl
    have hbacked : u.endUnpassed m .backedOut = backed := by simp only [State.endUnpassed, hg]; rfl
    refine ⟨fun hunmarked => ⟨fun e he => ?_, fun e he => ?_⟩, ?_⟩
    · have hpairs : passed.pairs = s.pairs := by rw [← hpassed]; exact u.pairs_endPassed m
      have hends : (u.rotation m l e).countMate l = mark passed := by
        rw [State.rotation_granted (s := u) hunmarked ho (he.trans hg.symm), hpassed, State.countMate_setMate (hseq hpairs),
          hmark hpairs]
      have hrot := State.goodReply_rotation hl hn e hends
      exact ⟨congrArg Host.Outcome.next hrot.1, congrArg Host.Outcome.next hrot.2⟩
    · have hpairs : backed.pairs = s.pairs := by rw [← hbacked]; exact u.pairs_endUnpassed m _
      have hends : (u.rotation m l e).countMate l = mark backed := by
        rw [State.rotation_opposed (s := u) hunmarked ho (by rwa [hg]), hbacked, State.countMate_setMate (hseq hpairs),
          hmark hpairs]
      have hrot := State.goodReply_rotation hl hn e hends
      exact ⟨congrArg Host.Outcome.next hrot.1, congrArg Host.Outcome.next hrot.2⟩
    · have hreverse : u.handOn l .reverse = backed := by rw [← hbacked]; exact if_pos ho
      rw [← hreverse]
      exact congrArg Host.Outcome.next (s.goodReply_active l n .reverse hl hn nofun)

/-- Settles O35: the table of R84 and R86, case by case, at a lane whose head is not marked. -/
theorem ungrantedRotation : Obligations.UngrantedRotation := by
  unfold Obligations.UngrantedRotation
  intro s l n hl hn hunmarked m u x logged tailgated sends
  have hlane : u.lane m = x := s.lane_modSlot l _ m
  have htail : u.tailgate m = tailgated := u.tailgate_eq m
  have hfree := u.freeExit_eq m
  have send (hs : x.state ≠ .opened) (d : Direction) {v : State} (hv : u.ungranted m d = v) : sends d v := by
    have hpairs : (u.ungranted m d).pairs = s.pairs := u.pairs_ungranted m d
    have hcount : (u.ungranted m d).isMarked (s.sequencer l) l = false := by
      rw [State.isMarked_congr (s := u) hpairs (u.mate_ungranted m _ d)]
      exact hunmarked
    have hends : (u.rotation m l d).countMate l = v := by
      rw [State.rotation_ungranted (s := u) hunmarked (by rwa [hlane]), ← hv]
      exact State.countMate_of_unmarked (by rwa [State.sequencer_congr hpairs])
    have hrot := State.goodReply_rotation hl hn d hends
    exact ⟨congrArg Host.Outcome.next hrot.2, congrArg Host.Outcome.next hrot.1⟩
  refine ⟨fun hc => ?closed, fun hs hd => ?directed, fun hi hd => ?freeExit⟩
  case closed =>
    have hno : x.state ≠ .opened := by simp [hc]
    refine ⟨fun hm => send hno _ ?_, fun ho hcl => send hno _ ?_, send hno _ ?_⟩
    · rw [← htail]
      simp only [State.ungranted, hlane, hc]
      exact if_pos hm
    · simp only [State.ungranted, hlane, hc]
      exact if_neg (not_or.2 ⟨ho, hcl⟩)
    · simp only [State.ungranted, hlane, hc]
  case directed =>
    have hno : x.state ≠ .opened := by rcases hs with h | h | h <;> simp [h]
    refine ⟨send hno _ ?_, send hno _ ?_⟩
    · rw [← htail]
      rcases hs with h | h | h <;> rcases hd with h' | h' <;> simp only [State.ungranted, hlane, h, h']
    · rcases hs with h | h | h <;> rcases hd with h' | h' <;> simp only [State.ungranted, hlane, h, h'] <;> rfl
  case freeExit =>
    have hno : x.state ≠ .opened := by simp [hi]
    refine ⟨send hno _ ?_, send hno _ ?_⟩
    · rw [← htail]
      simp only [State.ungranted, hlane, hi, hd]
    · rw [← hfree]
      simp only [State.ungranted, hlane, hi, hd]

end Sys2Proof.Machine
end

section
/-! SUPPORT. An entry lane's operation ends, by passage and without one (R81, R82): the record as found before and after it is
written, and each step on it. -/

namespace Sys2Proof.Machine

/-! ## A record replaced where a lookup found it (R21) -/

/-- A lookup finds the record that replaces the one it found, where the key stays. -/
theorem Table.lookup_put_found {t : Table} {k : Key} {i : Nat} {r q : Record} (h : t.lookup k = some (i, r)) (hq : q.key = k) :
    (t.put i q).lookup k = some (i, q) := by
  have hsweep : (t.put i q).sweeping = t.sweeping := rfl
  have hslots : (t.put i q).probeSlots k = t.probeSlots k := rfl
  unfold Table.lookup at h ⊢
  rw [hsweep, hslots]
  split at h
  · cases h
  · next hs =>
    rw [if_neg hs]
    generalize t.probeSlots k = ns at h
    induction ns with
    | nil => cases h
    | cons n ns ih =>
      rw [List.findSome?_cons] at h ⊢
      by_cases hn : n = i
      · subst hn
        simp [hq]
      · rw [Table.slotAt_put, if_neg hn]
        split at h
        · next x hx =>
          cases h
          split at hx
          · split at hx
            · cases hx
              exact absurd rfl hn
            · cases hx
          · cases hx
        · exact ih h

namespace State

variable {s : State} {l : LaneNo} {k : Key} {res : DecisionResult} {i : Nat} {r q : Record}

theorem lookup_putRecord_found (h : s.lookup k = some (i, r)) (hq : q.key = r.key) :
    (s.putRecord i q).lookup k = some (i, q) :=
  Table.lookup_put_found h (hq.trans (Table.lookup_some h).2.1)

theorem lookup_congr {s t : State} (h : t.table = s.table) (k : Key) : t.lookup k = s.lookup k := by
  rw [State.lookup, h, State.lookup]

end State

/-! ## What happens to the record (R33 to R35) -/

theorem Record.usedUp_eq (r : Record) :
    r.usedUp = if r.cls = .staff then min 255 (r.used + 1) else min r.allowance (r.used + 1) := by
  unfold Record.usedUp
  split
  · next h => rw [if_pos h, sat8_eq]
  · next h => rw [if_neg h]

theorem Record.key_passed (time : Option Nat) (bank : BankNo) (l : LaneNo) (res : DecisionResult) (r : Record) :
    (r.passed time bank l res).key = r.key ∧ (r.passed time bank l res).cls = r.cls ∧
      (r.passed time bank l res).home = r.home := by
  unfold Record.passed Record.commit Record.unheldEntry
  (repeat' split) <;> exact ⟨rfl, rfl, rfl⟩

/-- A record that this lane holds is committed at its passage (R33). -/
theorem Record.passed_held {time : Option Nat} {bank : BankNo} {l : LaneNo} {res : DecisionResult} {r : Record} {h : Hold}
    {z : Option ZoneNo} (hres : res.held = true) (hs : r.state = .held h) (hh : h.holder = .lane l z) :
    r.passed time bank l res = { r with
      used := if r.cls = .staff then min 255 (r.used + 1) else min r.allowance (r.used + 1),
      last := some ⟨time, bank, l, res.zone⟩, provisional := res.provisional,
      state := match h.revokePending with | some e => .revoked e | none => .resting .inside } := by
  rw [Record.passed, if_pos hres, if_pos (Record.heldByLane_iff.2 ⟨h, z, hs, hh⟩), Record.commit, Record.usedUp_eq, hs]
  simp only [Hold.ended] <;> rfl

theorem Record.passed_other {time : Option Nat} {bank : BankNo} {l : LaneNo} {res : DecisionResult} {r : Record}
    (hres : res.held = true) (hn : ¬∃ h z, r.state = .held h ∧ h.holder = .lane l z) : r.passed time bank l res = r := by
  rw [Record.passed, if_pos hres, if_neg (by rwa [Record.heldByLane_iff])]

/-- A STAFF passage without a hold is an unheld entry (R35). -/
theorem Record.passed_unheld {time : Option Nat} {bank : BankNo} {l : LaneNo} {res : DecisionResult} {r : Record}
    (hres : res.held = false) :
    r.passed time bank l res = { r with
      used := if r.cls = .staff then min 255 (r.used + 1) else min r.allowance (r.used + 1),
      last := some ⟨time, bank, l, none⟩, provisional := false,
      state := match r.state with | .resting _ => .resting .inside | st => st } := by
  rw [Record.passed, if_neg (by simp [hres]), Record.unheldEntry, Record.usedUp_eq] <;> rfl

namespace State

variable {s : State} {l : LaneNo} {k : Key} {res : DecisionResult} {i : Nat} {r q : Record}

/-! ## The end by passage (R81) -/

/-- Steps 2 and 3 of R81 after a table update: the zone is committed and ENTRY is written with what step 1 recorded. -/
def loggedEntry (l : LaneNo) (k : Key) (res : DecisionResult) (g : Recorded) (s : State) : State :=
  (s.commitZone l).writeLog {
    time := s.bcm.clock, bank := s.ownBank, lane := l, outcome := .entry, reason := none, cls := g.cls, key := some k,
    zone := res.zone, used := g.used, provisional := g.provisional }

theorem notifyEntry_loggedEntry (s : State) (l : LaneNo) (k : Key) (res : DecisionResult) (g : Recorded) :
    (s.loggedEntry l k res g).notifyEntry l k res g = ((s.loggedEntry l k res g).offerPeer {
      dst := 32, kind := .entryNotice, tag := 0, body := .bytes
        (entryPayload k s.ownBank l s.bcm.clock (usedByte s.draws g.used) g.provisional res.zone) }).drawn := by
  simp [State.notifyEntry, State.sendEntryNotice, State.loggedEntry, State.ownBank, State.eventTime]

theorem peer_notified (s : State) (l : LaneNo) (k : Key) (res : DecisionResult) (g : Recorded) (b : BankNo) :
    ((s.loggedEntry l k res g).notifyEntry l k res g).peer b = s.peer b := by
  simp [State.notifyEntry, State.loggedEntry, State.peer]

theorem clock_notified (s : State) (l : LaneNo) (k : Key) (res : DecisionResult) (g : Recorded) :
    ((s.loggedEntry l k res g).notifyEntry l k res g).bcm.clock = s.bcm.clock := by
  simp [State.notifyEntry, State.loggedEntry]

theorem endByPassage_of_key (hk : (s.lane l).key = some k) (hr : (s.lane l).result = some res) :
    let t := s.recordPassage l k res
    let g := recordedOf res ((t.lookup k).map (·.2))
    s.endByPassage l = (((t.loggedEntry l k res g).notifyEntry l k res g).noteReconcile l k res g).rest l := by
  have hbank : (s.recordPassage l k res).ownBank = s.ownBank := by
    unfold State.recordPassage State.ownBank
    split <;> simp
  have hclock : (s.recordPassage l k res).bcm.clock = s.bcm.clock := by
    unfold State.recordPassage
    split <;> simp
  simp only [State.endByPassage, hk, hr, State.loggedEntry, hbank, hclock]
  rfl

/-- The ticket is not found at its passage: class and provisional flag are the grant's (R81, log entries 1, 11). -/
theorem endByPassage_absent (hk : (s.lane l).key = some k) (hr : (s.lane l).result = some res) (hf : s.lookup k = none) :
    s.endByPassage l = (((s.loggedEntry l k res ⟨res.cls, none, res.provisional, none⟩).offerPeer {
      dst := 32, kind := .entryNotice, tag := 0, body := .bytes
        (entryPayload k s.ownBank l s.bcm.clock (Config.freeByte s.draws 0) res.provisional res.zone) }).drawn).rest l := by
  have hrec : s.recordPassage l k res = s := by simp only [State.recordPassage, hf]
  have h := endByPassage_of_key hk hr
  simp only [hrec, hf, Option.map_none, recordedOf, notifyEntry_loggedEntry] at h
  exact h

/-- The ticket is found at its passage: everything is written from the record as step 1 leaves it (R81). -/
theorem endByPassage_found (hk : (s.lane l).key = some k) (hr : (s.lane l).result = some res) (hf : s.lookup k = some (i, r))
    (hq : r.passed s.bcm.clock s.ownBank l res = q) {p : Bool} (hp : (if res.held then res.provisional else false) = p) :
    let u := (((s.putRecord i q).loggedEntry l k res ⟨some r.cls, some q.used, p, some r.home⟩).offerPeer {
      dst := 32, kind := .entryNotice, tag := 0, body := .bytes
        (entryPayload k s.ownBank l s.bcm.clock (byte q.used) p res.zone) }).drawn
    s.endByPassage l = (if res.authority = some .degraded ∧ (s.peer r.home).state ≠ .up then
      u.addReconcile { key := k, home := r.home, time := s.bcm.clock, lane := l, used := q.used, zone := res.zone } else u).rest l := by
  obtain ⟨hkey, hcls, hhome⟩ := r.key_passed s.bcm.clock s.ownBank l res
  rw [hq] at hkey hcls hhome
  have hrec : s.recordPassage l k res = s.putRecord i q := by
    simp only [State.recordPassage, hf, ← hq]
    rfl
  have hg : recordedOf res (some q) = ⟨some r.cls, some q.used, p, some r.home⟩ := by
    simp only [recordedOf, hcls, hhome, hp]
  have h := endByPassage_of_key hk hr
  simp only [hrec, lookup_putRecord_found hf hkey, Option.map_some, hg] at h
  rw [h]
  simp only [State.noteReconcile, peer_notified, State.eventTime, clock_notified]
  simp [notifyEntry_loggedEntry, State.ownBank, State.peer, usedByte]
  rfl

/-! ## The end without an entry (R82) -/

/-- The reservation is released and the record of an operation without an entry is written (R82, log entry 43). -/
def loggedWithout (l : LaneNo) (k : Key) (o : Outcome) (cls : Option TicketClass) (used : Option Nat) (s : State) : State :=
  (s.release l).writeLog {
    time := s.bcm.clock, bank := s.ownBank, lane := l, outcome := o, reason := none, cls := cls, key := some k, zone := none,
    used := used, provisional := false }

theorem lookup_release (s : State) (l : LaneNo) (k : Key) : (s.release l).lookup k = s.lookup k := lookup_congr (by simp) k

theorem lookup_loggedWithout (s : State) (l : LaneNo) (k : Key) (o : Outcome) (cls : Option TicketClass) (used : Option Nat) :
    (s.loggedWithout l k o cls used).lookup k = s.lookup k := lookup_congr (by simp [loggedWithout]) k

theorem withoutRecord_release (s : State) (l : LaneNo) (k : Key) (res : DecisionResult) (o : Outcome) :
    (s.release l).writeLog ((s.release l).withoutRecord l k res o) = s.loggedWithout l k o
      (match s.lookup k with | some (_, r) => some r.cls | none => res.cls) ((s.lookup k).map fun x => x.2.used) := by
  simp only [State.withoutRecord, loggedWithout, lookup_release, State.eventTime, State.ownBank]
  simp <;> rfl

/-- The record that the operation leaves to be released and written is looked up as `u` finds it. -/
theorem endWithout_of_key {o : Outcome} (hk : (s.lane l).key = some k) (hr : (s.lane l).result = some res) {u : State}
    (hu : (if res.held then s.revertHeld l k else s) = u) :
    s.endWithout l o = (u.loggedWithout l k o (match u.lookup k with | some (_, r) => some r.cls | none => res.cls)
      ((u.lookup k).map fun x => x.2.used)).withdrawRemote l k res := by
  subst hu
  simp only [State.endWithout, hr, hk, withoutRecord_release]

theorem withdrawRemote_absent (hf : s.lookup k = none) : s.withdrawRemote l k res = s := by
  simp [State.withdrawRemote, hf]

theorem withdrawRemote_found (hf : s.lookup k = some (i, r)) :
    s.withdrawRemote l k res = if res.authority = some .remote then s.sendWithdrawNotice r.home k l else s := by
  simp [State.withdrawRemote, hf]

theorem revertHeld_absent (hf : s.lookup k = none) : s.revertHeld l k = s := by simp [State.revertHeld, hf]

theorem revertHeld_other (hf : s.lookup k = some (i, r)) (hn : r.heldByLane l = false) : s.revertHeld l k = s := by
  simp [State.revertHeld, hf, hn]

theorem revertHeld_held (hf : s.lookup k = some (i, r)) (hh : r.heldByLane l = true) :
    s.revertHeld l k = s.putRecord i r.revert := by
  simp [State.revertHeld, hf, hh]

theorem endWithout_absent {o : Outcome} (hk : (s.lane l).key = some k) (hr : (s.lane l).result = some res)
    (hf : s.lookup k = none) : s.endWithout l o = s.loggedWithout l k o res.cls none := by
  have hu : (if res.held then s.revertHeld l k else s) = s := by rw [revertHeld_absent hf, ite_self]
  rw [endWithout_of_key hk hr hu, hf, withdrawRemote_absent (by rw [lookup_loggedWithout, hf])]
  rfl

/-- The record found is `r`, and `q` once a hold of this lane has reverted. -/
theorem endWithout_found {o : Outcome} {u : State} (hk : (s.lane l).key = some k) (hr : (s.lane l).result = some res)
    (hu : (if res.held then s.revertHeld l k else s) = u) (hf : u.lookup k = some (i, q)) (hcls : q.cls = r.cls)
    (hused : q.used = r.used) (hhome : q.home = r.home) :
    s.endWithout l o = if res.authority = some .remote then
        (u.loggedWithout l k o (some r.cls) (some r.used)).sendWithdrawNotice r.home k l
      else u.loggedWithout l k o (some r.cls) (some r.used) := by
  rw [endWithout_of_key hk hr hu, withdrawRemote_found (by rw [lookup_loggedWithout, hf]), hf, hhome, ← hcls, ← hused]
  rfl

/-! ## The timers (R82, R83, R85) -/

theorem passExpiry_opened {t : Nat} (ho : (s.lane l).state = .opened) (ht : (s.lane l).passTimer = some t) :
    s.passExpiry l = (s.reach t).endUnpassed l .withdrawn := by
  simp only [State.passExpiry, ht, if_pos ho]

theorem passExpiry_stopped (ht : (s.lane l).passTimer = none) : s.passExpiry l = s := by
  simp only [State.passExpiry, ht]

theorem displayExpiry_refusing {t : Nat} (hs : (s.lane l).state = .refusing) (ht : (s.lane l).displayTimer = some t) :
    s.displayExpiry l = (s.reach t).rest l := by
  simp only [State.displayExpiry, ht, if_pos hs]

theorem endUnpassed_entry {o : Outcome} (h : (s.lane l).granted = .entry) :
    s.endUnpassed l o = (s.endWithout l o).rest l := by
  simp [State.endUnpassed, h]

theorem endUnpassed_exit {o : Outcome} (h : (s.lane l).granted = .exit) : s.endUnpassed l o = s.rest l := if_pos h

end State

/-- Settles O32: the record found or not, and step 1 by its three cases. -/
theorem passageRecordsEntry : Obligations.PassageRecordsEntry := by
  unfold Obligations.PassageRecordsEntry
  intro s l k res hk hr last up logged noticed
  refine ⟨fun hf => State.endByPassage_absent hk hr hf, fun i r hf => ?_⟩
  intro held reconciled written
  have write {q : Record} {p : Bool} (hq : r.passed s.bcm.clock s.ownBank l res = q)
      (hp : (if res.held then res.provisional else false) = p) : s.endByPassage l = written q p :=
    State.endByPassage_found hk hr hf hq hp
  exact ⟨fun h z hres hs hh => write (Record.passed_held hres hs hh) (if_pos hres),
    fun hres hn => write (Record.passed_other hres hn) (if_pos hres),
    fun hres => write (Record.passed_unheld hres) (by rw [hres]; rfl)⟩

/-- Settles O34: the expiries by the lane's state and direction, and the end without an entry by the record found. -/
theorem operationEndsWithoutEntry : Obligations.OperationEndsWithoutEntry := by
  unfold Obligations.OperationEndsWithoutEntry
  intro s l
  refine ⟨fun t => rfl, fun home k => rfl, fun k res d t hopen ht => ?window, fun ht => ?stopped, fun t hs ht => ?display,
    fun k res o hk hr => ?without⟩
  case window =>
    obtain ⟨ho, -, -, hg⟩ := hopen
    have expire {u : State} (hu : (s.reach t).endUnpassed l .withdrawn = u) :
        exec (.passWindowExpiry l) s = .next u.settle := by
      rw [← hu, ← State.passExpiry_opened ho ht]
      rfl
    exact ⟨fun hd => expire (State.endUnpassed_entry (hg.trans hd)), fun hd => expire (State.endUnpassed_exit (hg.trans hd))⟩
  case stopped =>
    show Host.Outcome.next (s.passExpiry l).settle = _
    rw [State.passExpiry_stopped ht]
  case display =>
    show Host.Outcome.next (s.displayExpiry l).settle = _
    rw [State.displayExpiry_refusing hs ht]
  case without =>
    intro written told
    refine ⟨State.endWithout_absent hk hr, fun i r hf => ⟨fun h z hres hs hh => ?_, fun hn => ?_⟩⟩
    · have hrev := Record.revert_of_held hs
      have hu : (if res.held then s.revertHeld l k else s) = s.putRecord i r.revert := by
        rw [if_pos hres, State.revertHeld_held hf (Record.heldByLane_iff.2 ⟨h, z, hs, hh⟩)]
      rw [hrev] at hu
      exact State.endWithout_found hk hr hu (State.lookup_putRecord_found hf rfl) rfl rfl rfl
    · have hu : (if res.held then s.revertHeld l k else s) = s := by
        rcases hn with hres | hn
        · rw [hres]
          rfl
        · rw [State.revertHeld_other hf (Bool.eq_false_iff.2 fun he => ?_), ite_self]
          obtain ⟨h, z, hs, hh⟩ := Record.heldByLane_iff.1 he
          exact hn h z hs hh
      exact State.endWithout_found hk hr hu hf rfl rfl rfl

end Sys2Proof.Machine
end

section
/-! SUPPORT. The conditions of IDLE, and a lane that comes to rest, adopts, or is offered IDLE (R74, R77, R78). -/

namespace Sys2Proof.Machine
namespace State

variable {s : State} {l : LaneNo}

/-- The conditions under which a lane is IDLE rather than CLOSED (R78). -/
theorem mayIdle_iff (s : State) (l : LaneNo) :
    s.mayIdle l = true ↔ (s.slot l).link = .active ∧ (s.lane l).inForce.isSome = true ∧ (s.lane l).direction ≠ .closed ∧
      ¬(s.combined l = true ∧ l.val % 2 = 1) ∧ s.bcm.mode = .opened := by
  cases hc : s.combined l <;> simp [State.mayIdle, isUpper, and_assoc, hc]

theorem rest_idle (h : (s.adopt l).mayIdle l = true) : s.rest l = (s.adopt l).enterIdle l := if_pos h

theorem rest_closed (h : ¬(s.adopt l).mayIdle l = true) : s.rest l = (s.adopt l).enterClosed l := if_neg h

theorem tryIdle_idle (hc : (s.lane l).state = .closed) (h : (s.adopt l).mayIdle l = true) : s.tryIdle l = s.rest l := by
  rw [rest_idle h, State.tryIdle, if_pos hc]
  exact if_pos h

theorem tryIdle_adopts (hc : (s.lane l).state = .closed) (h : ¬(s.adopt l).mayIdle l = true) : s.tryIdle l = s.adopt l := by
  rw [State.tryIdle, if_pos hc]
  exact if_neg h

theorem tryIdle_busy (hc : (s.lane l).state ≠ .closed) : s.tryIdle l = s := if_neg hc

theorem offerIdle_ready (h : s.mayIdle l = true) : s.offerIdle l = s.tryIdle l := if_pos h

theorem offerIdle_unready (h : ¬s.mayIdle l = true) : s.offerIdle l = s := if_neg h

theorem closeLane_idle (h : (s.lane l).state = .idle ∨ (s.lane l).state = .refusing) :
    s.closeLane l = (s.adopt l).enterClosed l := by
  unfold State.closeLane
  rcases h with h | h <;> rw [h]

theorem closeLane_busy (hi : (s.lane l).state ≠ .idle) (hr : (s.lane l).state ≠ .refusing) : s.closeLane l = s := by
  unfold State.closeLane
  split
  · next h => exact absurd h hi
  · next h => exact absurd h hr
  · rfl

/-- The state of a lane that has come to rest. -/
theorem state_rest (s : State) (l : LaneNo) :
    ((s.rest l).lane l).state = if (s.adopt l).mayIdle l then .idle else .closed := by
  rw [State.lane_rest, if_pos rfl]
  rfl

theorem lamp_rest (s : State) (l : LaneNo) :
    ((s.rest l).slot l).lamp = some (if (s.adopt l).mayIdle l then .ready else .closed) := by
  rw [State.slot_rest, if_pos (s.self_mem_slotsOf l)]
  rfl

end State

/-- An undelivered verdict that ends is discarded; no other part of the slot changes (R126). -/
theorem Slot.endVerdict_eq (k : Slot) :
    k.endVerdict = { k with verdict := if k.undelivered then none else k.verdict, undelivered := false } := by
  obtain ⟨link, failures, joins, repeats, again, last, identity, reset, verdict, undelivered⟩ := k
  cases undelivered <;> rfl

/-! ## The effective direction (R74) -/

theorem Lane.direction_unpowered {n : Lane} (h : n.power = false) : n.direction = .closed := by simp [Lane.direction, h]

theorem Lane.direction_powered {n : Lane} (h : n.power = true) : n.direction = match n.override with
    | .none => match n.inForce with | some a => a.profile.direction | none => .closed
    | .entry => .entry | .exit => .exit | .freeExit => .freeExit | .closed => .closed := by
  simp only [Lane.direction, h, Bool.not_true, Bool.false_eq_true, if_false] <;> rfl

end Sys2Proof.Machine
end

section
/-! SUPPORT. What settling the pairs does (R88): each pair settles by itself, from what its two lanes and slots are. -/

namespace Sys2Proof.Machine
namespace State

/-! ## Pairs side by side -/

/-- Pair `k` finds in `t` what it finds in `s`: its setting, its lanes and slots, the store, and whether the bank is OPEN. -/
structure PairAlike (k : Fin 8) (s t : State) : Prop where
  pair : t.pairs.get k = s.pairs.get k
  lane : ∀ m, pairOf m = k → t.lane m = s.lane m
  slot : ∀ m, pairOf m = k → t.slot m = s.slot m
  policy : t.policy = s.policy
  mode : t.bcm.mode = s.bcm.mode

namespace PairAlike

variable {k : Fin 8} {s t u : State} {l : LaneNo}

theorem refl (k : Fin 8) (s : State) : PairAlike k s s := ⟨rfl, fun _ _ => rfl, fun _ _ => rfl, rfl, rfl⟩

theorem trans (h : PairAlike k s t) (g : PairAlike k t u) : PairAlike k s u :=
  ⟨g.pair.trans h.pair, fun m hm => (g.lane m hm).trans (h.lane m hm), fun m hm => (g.slot m hm).trans (h.slot m hm),
    g.policy.trans h.policy, g.mode.trans h.mode⟩

theorem combined (h : PairAlike k s t) (hl : pairOf l = k) : t.combined l = s.combined l := by
  rw [State.combined, State.combined, hl, h.pair]

theorem slotsOf (h : PairAlike k s t) (hl : pairOf l = k) : t.slotsOf l = s.slotsOf l := by
  rw [State.slotsOf, State.slotsOf, h.combined hl]

theorem mayIdle (h : PairAlike k s t) (hl : pairOf l = k) : t.mayIdle l = s.mayIdle l := by
  rw [State.mayIdle, State.mayIdle, h.slot l hl, h.lane l hl, h.combined hl, h.mode]

end PairAlike

/-- What `f` does stays in pair `j`, and depends on what `PairAlike` names. -/
structure PairLocal (j : Fin 8) (f : State → State) : Prop where
  others : ∀ k, k ≠ j → ∀ s, PairAlike k s (f s)
  alike : ∀ s t, PairAlike j s t → PairAlike j (f s) (f t)

namespace PairLocal

variable {j : Fin 8} {f g : State → State} {l : LaneNo}

theorem id (j : Fin 8) : PairLocal j fun s => s := ⟨fun k _ s => .refl k s, fun _ _ h => h⟩

theorem comp (hf : PairLocal j f) (hg : PairLocal j g) : PairLocal j fun s => g (f s) :=
  ⟨fun k hk s => (hf.others k hk s).trans (hg.others k hk (f s)), fun s t h => hg.alike _ _ (hf.alike s t h)⟩

theorem ite {c : State → Prop} {dec : DecidablePred c} (hc : ∀ s t, PairAlike j s t → (c t ↔ c s)) (hf : PairLocal j f)
    (hg : PairLocal j g) : PairLocal j fun s => if c s then f s else g s where
  others k hk s := iteInduction (fun _ => hf.others k hk s) fun _ => hg.others k hk s
  alike s t h := by
    by_cases hs : c s
    · rw [if_pos hs, if_pos ((hc s t h).2 hs)]
      exact hf.alike s t h
    · rw [if_neg hs, if_neg (mt (hc s t h).1 hs)]
      exact hg.alike s t h

/-- A change of a lane that rests on the Policy Store. -/
theorem modLane (hl : pairOf l = j) (f : Policy → Lane → Lane) : PairLocal j fun s => s.modLane l (f s.policy) where
  others k hk s := by
    refine ⟨rfl, fun m hm => ?_, fun _ _ => rfl, rfl, rfl⟩
    rw [State.lane_modLane, if_neg]
    rintro rfl
    exact hk (hm.symm.trans hl)
  alike s t h := by
    refine ⟨h.pair, fun m hm => ?_, h.slot, h.policy, h.mode⟩
    rw [State.lane_modLane, State.lane_modLane, h.policy, h.lane l hl, h.lane m hm]

/-- A change of the slots of a lane. -/
theorem modSlots (hl : pairOf l = j) (f : Slot → Slot) :
    PairLocal j fun s => (s.slotsOf l).foldl (fun t x => t.modSlot x f) s where
  others k hk s := by
    have hframe := State.foldl_modSlot s f (s.slotsOf l)
    refine ⟨by rw [hframe], fun m _ => by rw [hframe]; rfl, fun m hm => ?_, by rw [hframe], by rw [hframe]⟩
    rw [State.slot_foldl_modSlot, if_neg]
    intro hmem
    refine hk (hm.symm.trans (Eq.trans ?_ hl))
    rcases s.slotsOf_cases l with h | ⟨-, -, h, -⟩
    · rw [h, List.mem_singleton] at hmem
      rw [hmem]
    · rw [h, List.mem_pair] at hmem
      rcases hmem with rfl | rfl
      · rfl
      · exact pairOf_upperLane _
  alike s t h := by
    have hs := State.foldl_modSlot s f (s.slotsOf l)
    have ht := State.foldl_modSlot t f (t.slotsOf l)
    refine ⟨?_, fun m hm => ?_, fun m hm => ?_, ?_, ?_⟩
    · rw [hs, ht]
      exact h.pair
    · rw [hs, ht]
      exact h.lane m hm
    · rw [State.slot_foldl_modSlot, State.slot_foldl_modSlot, h.slotsOf hl, h.slot m hm]
    · rw [hs, ht]
      exact h.policy
    · rw [hs, ht]
      exact h.mode

/-- A combine setting taken into force. -/
theorem settled (j : Fin 8) :
    PairLocal j fun s => { s with pairs := upd s.pairs j fun q => { q with inForce := q.requested } } where
  others k hk s := ⟨by rw [get_upd, if_neg hk], fun _ _ => rfl, fun _ _ => rfl, rfl, rfl⟩
  alike s t h := ⟨by simp only [get_upd, if_true, h.pair], h.lane, h.slot, h.policy, h.mode⟩

theorem adopt (hl : pairOf l = j) : PairLocal j fun s => s.adopt l := modLane hl Lane.adopted

theorem enterIdle (hl : pairOf l = j) : PairLocal j fun s => s.enterIdle l :=
  ((modLane hl fun _ => Lane.cleared .idle).comp (modSlots hl Slot.endVerdict)).comp (modSlots hl (Slot.queueLamp .ready))

theorem enterClosed (hl : pairOf l = j) : PairLocal j fun s => s.enterClosed l :=
  ((modLane hl fun _ => Lane.cleared .closed).comp (modSlots hl Slot.endVerdict)).comp (modSlots hl (Slot.queueLamp .closed))

theorem rest (hl : pairOf l = j) : PairLocal j fun s => s.rest l :=
  (adopt hl).comp (ite (c := fun s => s.mayIdle l = true) (fun _ _ h => by rw [h.mayIdle hl]) (enterIdle hl) (enterClosed hl))

theorem tryIdle (hl : pairOf l = j) : PairLocal j fun s => s.tryIdle l :=
  ite (c := fun s => (s.lane l).state = .closed) (fun _ _ h => by rw [h.lane l hl])
    ((adopt hl).comp (ite (c := fun s => s.mayIdle l = true) (fun _ _ h => by rw [h.mayIdle hl]) (enterIdle hl) (id j))) (id j)

theorem readoptIdle (hl : pairOf l = j) : PairLocal j fun s => s.readoptIdle l :=
  ite (c := fun s => (s.lane l).state = .idle) (fun _ _ h => by rw [h.lane l hl]) (rest hl) (id j)

theorem closeLane (hl : pairOf l = j) : PairLocal j fun s => s.closeLane l := by
  have hclose : (fun s : State => s.closeLane l) = fun s =>
      if (s.lane l).state = .idle ∨ (s.lane l).state = .refusing then (s.adopt l).enterClosed l else s := by
    funext s
    split
    · next h => exact closeLane_idle h
    · next h => exact closeLane_busy (fun hi => h (.inl hi)) fun hr => h (.inr hr)
  rw [hclose]
  exact ite (fun _ _ h => by rw [h.lane l hl]) ((adopt hl).comp (enterClosed hl)) (id j)

end PairLocal

/-! ## One pair (R88) -/

/-- The lane is IDLE or CLOSED. -/
def Quiet (s : State) (l : LaneNo) : Prop := (s.lane l).state = .idle ∨ (s.lane l).state = .closed

/-- The requested combine setting of the pair comes into force: it differs, and both lanes are IDLE or CLOSED (R88). -/
def Settles (s : State) (k : Fin 8) : Prop :=
  (s.pairs.get k).requested ≠ (s.pairs.get k).inForce ∧ s.Quiet (lowerLane k) ∧ s.Quiet (upperLane k)

/-- The bank with the requested setting of pair `k` in force. -/
def pairTaken (s : State) (k : Fin 8) : State :=
  { s with pairs := upd s.pairs k fun q => { q with inForce := q.requested } }

variable {s : State} {k : Fin 8}

theorem settlePair_of_not (h : ¬s.Settles k) : s.settlePair k = s := by
  simp only [State.settlePair, decide_eq_true_eq]
  exact if_neg h

theorem settlePair_combine (h : s.Settles k) (hr : (s.pairs.get k).requested = true) :
    s.settlePair k = (s.pairTaken k).closeLane (upperLane k) := by
  simp only [State.settlePair, decide_eq_true_eq]
  exact (if_pos h).trans (if_pos hr)

theorem settlePair_separate (h : s.Settles k) (hr : (s.pairs.get k).requested = false) :
    s.settlePair k = (((s.pairTaken k).modLane (lowerLane k) fun n => { n with mate := none }).tryIdle
      (upperLane k)).readoptIdle (lowerLane k) := by
  simp only [State.settlePair, decide_eq_true_eq]
  exact (if_pos h).trans (if_neg (by simp [hr]))

theorem pairLocal_settlePair (k : Fin 8) : PairLocal k fun s => s.settlePair k := by
  have hlow := pairOf_lowerLane k
  have hup := pairOf_upperLane k
  have htake := PairLocal.settled k
  have hquiet {s t : State} (h : PairAlike k s t) {m : LaneNo} (hm : pairOf m = k) : t.Quiet m ↔ s.Quiet m := by
    rw [Quiet, Quiet, h.lane m hm]
  have hsettle : (fun s : State => s.settlePair k) = fun s =>
      @ite _ (s.Settles k) (Classical.propDecidable _)
        (if (s.pairs.get k).requested = true then (s.pairTaken k).closeLane (upperLane k)
        else (((s.pairTaken k).modLane (lowerLane k) fun n => { n with mate := none }).tryIdle
          (upperLane k)).readoptIdle (lowerLane k)) s := by
    funext s
    by_cases h : s.Settles k
    · rw [if_pos h]
      by_cases hr : (s.pairs.get k).requested = true
      · rw [if_pos hr, settlePair_combine h hr]
      · rw [if_neg hr, settlePair_separate h (by simpa using hr)]
    · rw [if_neg h, settlePair_of_not h]
  rw [hsettle]
  refine @PairLocal.ite k _ _ _ _ (fun s t h => ?_) (PairLocal.ite (fun s t h => by rw [h.pair])
    (htake.comp (.closeLane hup)) (((htake.comp (.modLane hlow fun _ n => { n with mate := none })).comp (.tryIdle hup)).comp
      (.readoptIdle hlow))) (.id k)
  rw [Settles, Settles, h.pair, hquiet h hlow, hquiet h hup]

/-! ## All pairs -/

theorem pairAlike_foldl_of_notMem {ks : List (Fin 8)} (h : k ∉ ks) (s : State) :
    PairAlike k s (ks.foldl (fun t j => t.settlePair j) s) := by
  induction ks generalizing s with
  | nil => exact .refl k s
  | cons j js ih =>
    obtain ⟨hj, hjs⟩ : k ≠ j ∧ k ∉ js := by rwa [List.mem_cons, not_or] at h
    exact ((pairLocal_settlePair j).others k hj s).trans (ih hjs _)

theorem pairAlike_foldl_of_mem {ks : List (Fin 8)} (hd : ks.Nodup) (h : k ∈ ks) (s : State) :
    PairAlike k (s.settlePair k) (ks.foldl (fun t j => t.settlePair j) s) := by
  induction ks generalizing s with
  | nil => cases h
  | cons j js ih =>
    obtain ⟨hj, hd⟩ := List.nodup_cons.1 hd
    by_cases he : k = j
    · subst he
      exact pairAlike_foldl_of_notMem hj _
    · exact ((pairLocal_settlePair k).alike _ _ ((pairLocal_settlePair j).others k he s)).trans
        (ih hd ((List.mem_cons.1 h).resolve_left he) _)

/-- Each pair comes out of settling as though it alone had settled (R88). -/
theorem pairAlike_settlePairs (s : State) (k : Fin 8) : PairAlike k (s.settlePair k) s.settlePairs :=
  pairAlike_foldl_of_mem (List.nodup_finRange 8) (List.mem_finRange k) s

theorem pair_pairTaken (s : State) (k : Fin 8) :
    (s.pairTaken k).pairs.get k = { requested := (s.pairs.get k).requested, inForce := (s.pairs.get k).requested } := by
  rw [pairTaken, get_upd, if_pos rfl]

/-- A requested setting comes into force where both lanes are IDLE or CLOSED (R88). -/
theorem pair_settlePair (hlow : s.Quiet (lowerLane k)) (hup : s.Quiet (upperLane k)) :
    (s.settlePair k).pairs.get k = (s.pairTaken k).pairs.get k := by
  by_cases hd : (s.pairs.get k).requested = (s.pairs.get k).inForce
  · rw [settlePair_of_not fun h => h.1 hd, pair_pairTaken]
    cases hq : s.pairs.get k
    simp_all
  · cases hr : (s.pairs.get k).requested with
    | true => rw [settlePair_combine ⟨hd, hlow, hup⟩ hr]; simp
    | false =>
      rw [settlePair_separate ⟨hd, hlow, hup⟩ hr, State.readoptIdle]
      split <;> simp [pairTaken]

end State

open State in
/-- Settles O36: a lane at rest by its two cases, the effective direction, and the settling of one pair, which the other pairs
leave alone. -/
theorem laneRestsIdleOrClosed : Obligations.LaneRestsIdleOrClosed := by
  unfold Obligations.LaneRestsIdleOrClosed
  intro s l t n x idle taken
  have hx : x = Lane.cleared (if (s.adopt l).mayIdle l then .idle else .closed) (Lane.adopted s.policy n) := by
    rw [show x = (s.rest l).lane l from rfl, State.lane_rest, if_pos rfl]
  have hidle : idle ↔ (s.adopt l).mayIdle l = true := by
    have hforce : x.inForce = ((s.adopt l).lane l).inForce := by rw [hx, State.lane_adopt, if_pos rfl]; rfl
    have hdirection : x.direction = ((s.adopt l).lane l).direction := by rw [hx, State.lane_adopt, if_pos rfl]; rfl
    rw [mayIdle_iff, ← hforce, ← hdirection]
    exact Iff.rfl
  have hadopt : s.modLane l taken = s.adopt l := by
    rw [modLane_eq_const]
    exact (modLane_eq_const s l (Lane.adopted s.policy)).symm
  refine ⟨?lane, fun hi => ⟨?_, ?_⟩, fun hi => ⟨?_, ?_⟩, fun m hm => lane_rest_of_ne hm, fun m => ?slot,
    (LanesOnly.rest s l).frame, fun hc => ⟨fun hi => tryIdle_idle hc (hidle.1 hi), fun hi => ?_⟩, tryIdle_busy, ?offered,
    fun y => ⟨Lane.direction_unpowered, fun hp => ?direction⟩, fun k => ⟨fun hlow hup => ?taken, fun hbusy => ?kept, ?pair⟩⟩
  case lane =>
    rw [hx]
    rfl
  · exact (s.state_rest l).trans (if_pos (hidle.1 hi))
  · exact (s.lamp_rest l).trans (congrArg some (if_pos (hidle.1 hi)))
  · exact (s.state_rest l).trans (if_neg (mt hidle.2 hi))
  · exact (s.lamp_rest l).trans (congrArg some (if_neg (mt hidle.2 hi)))
  case slot =>
    rw [show (t.slot l).lamp = _ from s.lamp_rest l, show t.slot m = _ from s.slot_rest l m, Slot.endVerdict_eq]
    rfl
  · rw [hadopt, tryIdle_adopts hc (mt hidle.2 hi)]
  case offered =>
    intro ready
    have hready : s.mayIdle l = true ↔ ready := s.mayIdle_iff l
    refine ⟨fun _ hr => offerIdle_ready (hready.2 hr), fun h => ?_⟩
    by_cases hr : ready
    · rw [offerIdle_ready (hready.2 hr), tryIdle_busy (h.resolve_right (not_not_intro hr))]
    · exact offerIdle_unready (mt hready.1 hr)
  case direction =>
    have hd := Lane.direction_powered hp
    exact ⟨fun ho => by rw [hd, ho] <;> rfl, fun ho => by rw [hd, ho], fun ho => by rw [hd, ho], fun ho => by rw [hd, ho],
      fun ho => by rw [hd, ho]⟩
  case taken =>
    rw [(s.pairAlike_settlePairs k).pair, pair_settlePair hlow hup, pair_pairTaken]
  case kept =>
    rw [(s.pairAlike_settlePairs k).pair, settlePair_of_not fun h => hbusy.elim (· h.2.1) (· h.2.2)]
  case pair =>
    intro low up p u v changes
    have hlane (m : LaneNo) (hm : pairOf m = k) : u.lane m = (s.settlePair k).lane m := (s.pairAlike_settlePairs k).lane m hm
    have hlow : u.lane low = (s.settlePair k).lane low := hlane low (pairOf_lowerLane k)
    have hup : u.lane up = (s.settlePair k).lane up := hlane up (pairOf_upperLane k)
    have hslot : u.slot up = (s.settlePair k).slot up := (s.pairAlike_settlePairs k).slot up (pairOf_upperLane k)
    have hne : low ≠ up := fun h => absurd (congrArg isUpper h) (by simp [low, up, isUpper])
    rw [hlow, hup, hslot]
    refine ⟨fun hn => by rw [settlePair_of_not hn]; exact ⟨rfl, rfl⟩, fun hs hr => ?combine, fun hs hr => ?separate⟩
    case combine =>
      rw [settlePair_combine hs hr]
      show ((s.pairTaken k).closeLane up).lane low = _ ∧ (_ → ((s.pairTaken k).closeLane up).lane up = _) ∧
        (_ → (((s.pairTaken k).closeLane up).lane up).state = _ ∧ (((s.pairTaken k).closeLane up).slot up).lamp = _)
      have hclosed (h : (s.lane up).state = .closed) : (s.pairTaken k).closeLane up = s.pairTaken k :=
        closeLane_busy (s := s.pairTaken k) (fun hi => nomatch h.symm.trans hi) fun hi => nomatch h.symm.trans hi
      have hidle (h : (s.lane up).state = .idle) : (s.pairTaken k).closeLane up = ((s.pairTaken k).adopt up).enterClosed up :=
        closeLane_idle (.inl h)
      refine ⟨?_, fun h => by rw [hclosed h]; rfl, fun h => ?_⟩
      · obtain ⟨-, -, h | h⟩ := hs
        · rw [hidle h, State.lane_enterClosed, if_neg hne, State.lane_adopt, if_neg hne]
          rfl
        · rw [hclosed h]
          rfl
      · rw [hidle h, State.lane_enterClosed, if_pos rfl, State.slot_enterClosed, if_pos (State.self_mem_slotsOf _ _)]
        exact ⟨rfl, rfl⟩
    case separate =>
      have hv : (s.pairTaken k).modLane low (fun n => { n with mate := none }) = v := rfl
      rw [settlePair_separate hs hr]
      show ((((s.pairTaken k).modLane low fun n => { n with mate := none }).tryIdle up).readoptIdle low).lane up = _ ∧
        (_ → ((((s.pairTaken k).modLane low fun n => { n with mate := none }).tryIdle up).readoptIdle low).lane low = _) ∧
        (_ → ((((s.pairTaken k).modLane low fun n => { n with mate := none }).tryIdle up).readoptIdle low).lane low = _)
      rw [hv]
      have htry : (v.tryIdle up).lane low = v.lane low := lane_tryIdle_of_ne hne
      have hstate : (v.lane low).state = (s.lane low).state := by
        show (((s.pairTaken k).modLane low fun n => { n with mate := none }).lane low).state = _
        rw [State.lane_modLane, if_pos rfl]
        rfl
      refine ⟨?_, fun h => ?_, fun h => ?_⟩
      · unfold State.readoptIdle
        split
        · exact lane_rest_of_ne hne.symm
        · rfl
      · rw [State.readoptIdle, if_neg (by rw [htry, hstate, h]; exact nofun), htry]
      · rw [State.readoptIdle, if_pos (by rw [htry, hstate, h])]
        exact (AlikeAt.of_lanesOnly (.tryIdle v up) htry).rest

end Sys2Proof.Machine
end

section
/-! SUPPORT. The fields of the lane requests as they are read (R193). -/

namespace Sys2Proof.Machine

/-- An optional run of numbers of `n` bytes each, as it is sent. -/
def numberField (n : Nat) (xs : Option (List Nat)) : List Byte := xs.elim [] (List.flatMap (be n))

theorem Reader.given_numbers (bs : List Bool) {xs : Option (List Nat)} (m n k : Nat) (hm : bs.getD m false = xs.isSome)
    (hlen : ∀ v, xs = some v → v.length = k) (hfit : ∀ v, xs = some v → ∀ x ∈ v, x < 256 ^ n) (rest : List Byte) :
    Reader.given (maskOf bs) m (Reader.many (Reader.nat n) k) (numberField n xs ++ rest) = some (xs, rest) := by
  have hbit : (maskOf bs).testBit m = xs.isSome := (maskOf_testBit bs m).trans hm
  cases xs with
  | none => exact Reader.given_none _ m _ _ hbit
  | some v =>
    have hv := Reader.many_map (Reader.nat n) (be n) v rest fun x hx tail => Reader.nat_be n x tail (hfit v rfl x hx)
    rw [hlen v rfl] at hv
    rw [Reader.given, hbit]
    simp [numberField, Reader.map_apply, hv]

theorem Reader.control_be (a : Byte) {ls : Option (List Nat)} {d p c x : Option Nat} {bs : List Bool}
    (hbs : bs = [ls.isSome, d.isSome, p.isSome, c.isSome, x.isSome]) (hlen : ∀ v, ls = some v → v.length = 3)
    (hfit : ∀ v, ls = some v → ∀ n ∈ v, n < 256 ^ 1) (hd : optFits 1 d) (hp : optFits 1 p) (hc : optFits 1 c)
    (hx : optFits 1 x) (extra : List Byte) :
    Reader.control (a :: be 4 (maskOf bs) ++ numberField 1 ls ++ optField 1 d ++ optField 1 p ++ optField 1 c ++
      optField 1 x ++ extra) = some (⟨a.toNat, ls, d, p, c, x⟩, extra) := by
  simp only [Reader.control, Reader.bind_apply, List.cons_append, List.append_assoc, Reader.nat_cons,
    Reader.mask_be (bs := bs) (by simp [hbs]), Reader.given_numbers bs 0 1 3 (hbs ▸ rfl) hlen hfit,
    Reader.given_masked bs 1 1 (hbs ▸ rfl) hd, Reader.given_masked bs 2 1 (hbs ▸ rfl) hp,
    Reader.given_masked bs 3 1 (hbs ▸ rfl) hc, Reader.given_masked bs 4 1 (hbs ▸ rfl) hx, Reader.pure_apply]

theorem Reader.header_be {n b a c o p : Option Nat} {ws fs : Option (List Nat)} {bs : List Bool}
    (hbs : bs = [n.isSome, ws.isSome, b.isSome, fs.isSome, a.isSome, c.isSome, o.isSome, p.isSome])
    (hwl : ∀ v, ws = some v → v.length = 7) (hwf : ∀ v, ws = some v → ∀ x ∈ v, x < 256 ^ 2)
    (hfl : ∀ v, fs = some v → v.length = 8) (hff : ∀ v, fs = some v → ∀ x ∈ v, x < 256 ^ 1)
    (hn : optFits 1 n) (hb : optFits 1 b) (ha : optFits 1 a) (hc : optFits 1 c) (ho : optFits 1 o) (hp : optFits 1 p)
    (extra : List Byte) :
    Reader.header (be 4 (maskOf bs) ++ optField 1 n ++ numberField 2 ws ++ optField 1 b ++ numberField 1 fs ++ optField 1 a ++
      optField 1 c ++ optField 1 o ++ optField 1 p ++ extra) = some (⟨n, ws, b, fs, a, c, o, p⟩, extra) := by
  simp only [Reader.header, Reader.bind_apply, List.append_assoc, Reader.mask_be (bs := bs) (by simp [hbs]),
    Reader.given_masked bs 0 1 (hbs ▸ rfl) hn, Reader.given_numbers bs 1 2 7 (hbs ▸ rfl) hwl hwf,
    Reader.given_masked bs 2 1 (hbs ▸ rfl) hb, Reader.given_numbers bs 3 1 8 (hbs ▸ rfl) hfl hff,
    Reader.given_masked bs 4 1 (hbs ▸ rfl) ha, Reader.given_masked bs 5 1 (hbs ▸ rfl) hc,
    Reader.given_masked bs 6 1 (hbs ▸ rfl) ho, Reader.given_masked bs 7 1 (hbs ▸ rfl) hp, Reader.pure_apply]

/-- A Lane Parameter Access carries a value only where it writes (R193). -/
theorem Reader.access_read (a n w : Byte) (rest : List Byte) (hw : w ≠ 1) :
    Reader.access (a :: n :: w :: rest) = some (⟨a.toNat, n.toNat, w.toNat, 0⟩, rest) := by
  have hne : w.toNat ≠ 1 := fun h => hw (BitVec.eq_of_toNat_eq h)
  simp [Reader.access, Reader.bind_apply, Reader.nat_cons, Reader.pure_apply, hne]

theorem Reader.access_write (a n : Byte) {v : Nat} (hv : v < 65536) (rest : List Byte) :
    Reader.access (a :: n :: 1 :: (be 2 v ++ rest)) = some (⟨a.toNat, n.toNat, 1, v⟩, rest) := by
  simp [Reader.access, Reader.bind_apply, Reader.nat_cons, Reader.map_apply, Reader.nat_be 2 v rest hv]

/-- A request with its value in full is read, whatever its codes are. -/
theorem Reader.access_cons (a n w : Byte) (rest : List Byte) (h : w = 1 → 2 ≤ rest.length) :
    ∃ v tail, Reader.access (a :: n :: w :: rest) = some (⟨a.toNat, n.toNat, w.toNat, v⟩, tail) := by
  by_cases hw : w = 1
  · subst hw
    have hvalue : Reader.nat 2 rest = some (ofBytes (rest.take 2), rest.drop 2) := by
      simp [Reader.nat, Reader.map_apply, Reader.bytes, h rfl]
    exact ⟨_, _, by simp [Reader.access, Reader.bind_apply, Reader.nat_cons, Reader.map_apply, hvalue]; exact ⟨rfl, rfl⟩⟩
  · exact ⟨0, rest, Reader.access_read a n w rest hw⟩

theorem Reader.test_be {n w : Nat} (hn : n < 65536) (hw : w < 65536) (extra : List Byte) :
    Reader.test (be 2 n ++ be 2 w ++ extra) = some (⟨n, w⟩, extra) := by
  simp only [Reader.test, Reader.bind_apply, List.append_assoc, Reader.nat_be 2 n _ hn, Reader.nat_be 2 w _ hw,
    Reader.pure_apply]

/-! ## Codes (R190, R195) -/

theorem lampOf_code (a : LampOverride) : lampOf (lampCode a) = some a := by cases a <;> rfl

theorem lampOf_eq_none {n : Nat} (h : 2 < n) : lampOf n = none := by
  unfold lampOf
  split <;> first | omega | rfl

theorem overrideOf_code (d : DirOverride) : overrideOf (overrideCode d) = some d := by cases d <;> rfl

theorem overrideOf_eq_none {n : Nat} (h : 4 < n) : overrideOf n = none := by
  unfold overrideOf
  split <;> first | omega | rfl

theorem flagOf_code (f : FlagSource) : flagOf (flagCode f) = some f := by cases f <;> rfl

theorem flagOf_eq_none {n : Nat} (h : 8 < n) : flagOf n = none := by
  unfold flagOf
  split <;> first | omega | rfl

/-- A choice sent by its code is taken, and one that is not given keeps the value in force (R193). -/
theorem chosenOr_map {α : Type} {codes : Nat → Option α} {code : α → Nat} (hc : ∀ a, codes (code a) = some a) (now : α)
    (o : Option α) : chosenOr codes now (o.map code) = some (o.getD now) := by
  cases o with
  | none => rfl
  | some a => exact hc a

/-- A choice given by a code outside its list is not taken (R196). -/
theorem chosenOr_eq_none {α : Type} {codes : Nat → Option α} {now : α} {f : Option Nat} {v : Nat} (hf : f = some v)
    (h : codes v = none) : chosenOr codes now f = none := by
  subst hf
  exact h

theorem optFits_code {α : Type} {code : α → Nat} (h : ∀ a, code a < 256) (o : Option α) : optFits 1 (o.map code) := by
  rintro v hv
  obtain ⟨a, -, rfl⟩ := Option.map_eq_some_iff.1 hv
  exact h a

theorem bit_lt (b : Bool) : bit b < 256 := by cases b <;> decide

theorem overrideCode_lt (d : DirOverride) : overrideCode d < 256 := by cases d <;> decide

/-- Words of `w` bits fit their bytes. -/
theorem words_fit {w n k : Nat} (h : 2 ^ w ≤ 256 ^ k) (o : Option (Vector (BitVec w) n)) :
    ∀ v, (o.map fun x => x.toList.map BitVec.toNat) = some v → ∀ x ∈ v, x < 256 ^ k := by
  rintro v hv x hx
  obtain ⟨y, -, rfl⟩ := Option.map_eq_some_iff.1 hv
  obtain ⟨b, -, rfl⟩ := List.mem_map.1 hx
  exact b.isLt.trans_le h

theorem flags_fit {n : Nat} (o : Option (Vector FlagSource n)) :
    ∀ v, (o.map fun x => x.toList.map flagCode) = some v → ∀ x ∈ v, x < 256 ^ 1 := by
  have hcode (f : FlagSource) : flagCode f < 256 := by cases f <;> decide
  rintro v hv x hx
  obtain ⟨y, -, rfl⟩ := Option.map_eq_some_iff.1 hv
  obtain ⟨f, -, rfl⟩ := List.mem_map.1 hx
  exact hcode f

/-- A table given in full replaces the one in force. -/
theorem tableOf_toList {α : Type} {n : Nat} (now v : Vector α n) : tableOf now v.toList = v := by
  ext i hi
  simp [tableOf]

theorem flatMap_be_one {α : Type} (f : α → Nat) (xs : List α) :
    xs.flatMap (fun a => be 1 (f a)) = xs.map fun a => byte (f a) := by
  simp only [be_one, ← List.map_eq_flatMap]

end Sys2Proof.Machine
end

section
/-! SUPPORT. What the lane requests do (R90 to R95, R130, R134). -/

namespace Sys2Proof.Machine

variable {s : State} {r : Request} {extra fields : List Byte}

/-! ## Serving each request (R173 to R175) -/

theorem exec_setLaneControl {f : ControlFields} (h : s.asked r 19 fields) (hf : Reader.control fields = some (f, extra))
    (hm : s.bcm.mode ≠ .deep) :
    exec .setLaneControl s = .next (r.answered 19 (doSetLaneControl f s.beginRequest).2 (doSetLaneControl f s.beginRequest).1) :=
  congrArg Host.Outcome.next (State.serve_asked h hf (Taken.active_holds hm))

theorem exec_laneParameterAccess {f : AccessFields} (h : s.asked r 20 fields) (hf : Reader.access fields = some (f, extra))
    (hm : s.bcm.mode ≠ .deep) :
    exec .laneParameterAccess s = .next (actLaneParameterAccess (r.head 20) f s.beginRequest) :=
  congrArg Host.Outcome.next (State.serveWith_asked h hf (Taken.active_holds hm))

theorem exec_laneLinkTest {f : TestFields} (h : s.asked r 21 fields) (hf : Reader.test fields = some (f, extra))
    (hm : s.bcm.mode = .service) :
    exec .laneLinkTest s = .next (r.answered 21 (doLaneLinkTest f s.beginRequest).2 (doLaneLinkTest f s.beginRequest).1) :=
  congrArg Host.Outcome.next (State.serve_asked h hf (by rw [hm]; rfl))

theorem exec_setLinkHeader {f : HeaderFields} (h : s.asked r 22 fields) (hf : Reader.header fields = some (f, extra))
    (hm : s.bcm.mode ≠ .deep) :
    exec .setLinkHeader s = .next (r.answered 22 (doSetLinkHeader f s.beginRequest).2 (doSetLinkHeader f s.beginRequest).1) :=
  congrArg Host.Outcome.next (State.serve_asked h hf (Taken.active_holds hm))

theorem exec_clearCounts {n : Nat} (hn : n < 65536) (h : s.asked r 35 (be 2 n ++ extra)) (hm : s.bcm.mode ≠ .deep) :
    exec .clearCounts s = .next (r.answered 35 (doClearCounts n s.beginRequest).2 (doClearCounts n s.beginRequest).1) :=
  congrArg Host.Outcome.next (State.serve_asked h (Reader.nat_be 2 n extra hn) (Taken.active_holds hm))

/-! ## Set Lane Control (R90 to R92) -/

/-- The three lamp overrides as they are sent. -/
def lampCodes (y : LampOverride × LampOverride × LampOverride) : List Nat := [lampCode y.1, lampCode y.2.1, lampCode y.2.2]

theorem lampCodes_fit (o : Option (LampOverride × LampOverride × LampOverride)) :
    ∀ v, o.map lampCodes = some v → ∀ n ∈ v, n < 256 ^ 1 := by
  have hcode (a : LampOverride) : lampCode a < 256 := by cases a <;> decide
  rintro v hv n hn
  obtain ⟨y, -, rfl⟩ := Option.map_eq_some_iff.1 hv
  simp only [lampCodes, List.mem_cons, List.not_mem_nil, or_false] at hn
  rcases hn with rfl | rfl | rfl <;> exact hcode _

/-- The control image with the values given in the place of those in force. -/
def givenImage (lamps : Option (LampOverride × LampOverride × LampOverride)) (d : Option DirOverride) (p c : Option Bool)
    (old : ControlImage) : ControlImage := {
  green := (lamps.map fun y => y.1).getD old.green, red := (lamps.map fun y => y.2.1).getD old.red,
  amber := (lamps.map fun y => y.2.2).getD old.amber, override := d.getD old.override, power := p.getD old.power,
  combine := c.getD old.combine }

theorem ControlFields.image_given (a : Nat) (lamps : Option (LampOverride × LampOverride × LampOverride)) (d : Option DirOverride)
    (p c : Option Bool) (x : Option Nat) (old : ControlImage) :
    (⟨a, lamps.map lampCodes, d.map overrideCode, p.map bit, c.map bit, x⟩ : ControlFields).image old =
      some (givenImage lamps d p c old) := by
  have hlamps : (⟨a, lamps.map lampCodes, d.map overrideCode, p.map bit, c.map bit, x⟩ : ControlFields).lampsOr old = some
      ((lamps.map fun y => y.1).getD old.green, (lamps.map fun y => y.2.1).getD old.red,
        (lamps.map fun y => y.2.2).getD old.amber) := by
    cases lamps with
    | none => rfl
    | some y => simp [ControlFields.lampsOr, lampCodes, lampOf_code]
  simp only [ControlFields.image, hlamps, chosenOr_map overrideOf_code, chosenOr_map indicationOf_bit]
  rfl

/-- A value outside its list leaves no image to take (R90, R196). -/
theorem ControlFields.image_eq_none {f : ControlFields} {c : ControlImage} (h : f.lampsOr c = none ∨
    chosenOr overrideOf c.override f.override = none ∨ chosenOr indicationOf c.power f.power = none ∨
    chosenOr indicationOf c.combine f.combine = none) : f.image c = none := by
  unfold ControlFields.image
  split
  · next hlamps hoverride hpower hcombine =>
    rcases h with h | h | h | h
    · exact nomatch hlamps.symm.trans h
    · exact nomatch hoverride.symm.trans h
    · exact nomatch hpower.symm.trans h
    · exact nomatch hcombine.symm.trans h
  · rfl

theorem ControlFields.lampsOr_eq_none {f : ControlFields} {c : ControlImage} {g r a : Nat} (hf : f.lamps = some [g, r, a])
    (h : 2 < g ∨ 2 < r ∨ 2 < a) : f.lampsOr c = none := by
  unfold ControlFields.lampsOr
  rw [hf]
  rcases h with h | h | h <;> simp [lampOf_eq_none h]

theorem doSetLaneControl_unknown {f : ControlFields} (h : 16 ≤ f.lane) (s : State) :
    doSetLaneControl f s = (s, Reply.refuse .badValue) := by
  simp only [doSetLaneControl, toLane_eq_none h]

/-- A value outside its list refuses the request (R90, R196). -/
theorem doSetLaneControl_bad {f : ControlFields} (h : ∀ c, f.image c = none ∨ chosenOr indicationOf false f.reset = none)
    (s : State) : doSetLaneControl f s = (s, Reply.refuse .badValue) := by
  unfold doSetLaneControl
  split
  · rfl
  · next l _ =>
    split
    · next hc hx =>
      rcases h (s.lane l).control with hn | hn
      · exact nomatch hc.symm.trans hn
      · exact nomatch hx.symm.trans hn
    · rfl

/-- A lane above 15, or a code outside its list, refuses the request (R90, R196). -/
theorem doSetLaneControl_refused {a : Byte} {lamps : Option (Byte × Byte × Byte)} {d p c x : Option Nat} {t : State}
    (hbad : 15 < a.toNat ∨ (∃ g e b, lamps = some (g, e, b) ∧ (2 < g.toNat ∨ 2 < e.toNat ∨ 2 < b.toNat)) ∨
      (∃ v, d = some v ∧ 4 < v) ∨ (∃ v, p = some v ∧ 1 < v) ∨ (∃ v, c = some v ∧ 1 < v) ∨ (∃ v, x = some v ∧ 1 < v)) :
    doSetLaneControl ⟨a.toNat, lamps.map fun y => [y.1.toNat, y.2.1.toNat, y.2.2.toNat], d, p, c, x⟩ t =
      (t, Reply.refuse .badValue) := by
  rcases hbad with h | ⟨g, e, b, hl, h⟩ | ⟨v, hv, h⟩ | ⟨v, hv, h⟩ | ⟨v, hv, h⟩ | ⟨v, hv, h⟩
  · exact doSetLaneControl_unknown (Nat.succ_le_of_lt h) t
  · refine doSetLaneControl_bad (fun _ => .inl (ControlFields.image_eq_none (.inl (ControlFields.lampsOr_eq_none ?_ h)))) t
    exact congrArg (Option.map fun y : Byte × Byte × Byte => [y.1.toNat, y.2.1.toNat, y.2.2.toNat]) hl
  · exact doSetLaneControl_bad (fun _ => .inl (ControlFields.image_eq_none
      (.inr (.inl (chosenOr_eq_none hv (overrideOf_eq_none h)))))) t
  · exact doSetLaneControl_bad (fun _ => .inl (ControlFields.image_eq_none
      (.inr (.inr (.inl (chosenOr_eq_none hv (indicationOf_eq_none h))))))) t
  · exact doSetLaneControl_bad (fun _ => .inl (ControlFields.image_eq_none
      (.inr (.inr (.inr (chosenOr_eq_none hv (indicationOf_eq_none h))))))) t
  · exact doSetLaneControl_bad (fun _ => .inr (chosenOr_eq_none hv (indicationOf_eq_none h))) t

theorem doSetLaneControl_eq (l : LaneNo) (lamps : Option (LampOverride × LampOverride × LampOverride)) (d : Option DirOverride)
    (p c x : Option Bool) (s : State) :
    let f : ControlFields := ⟨l.val, lamps.map lampCodes, d.map overrideCode, p.map bit, c.map bit, x.map bit⟩
    let t := s.controlLane l f (givenImage lamps d p c (s.lane l).control) (x.getD false)
    doSetLaneControl f s = (t, Reply.ok [byte (slotLinkCode (t.slot l).link)]) := by
  simp only [doSetLaneControl, toLane_val, ControlFields.image_given, chosenOr_map indicationOf_bit]

/-! ## Lane Parameter Access (R94) -/

theorem actLaneParameterAccess_bad {h : ReplyHead} {f : AccessFields} (hbad : 15 < f.lane ∨ 63 < f.number ∨ 1 < f.write)
    (s : State) : actLaneParameterAccess h f s = s.sendReply h (Reply.refuse .badValue) := by
  unfold actLaneParameterAccess
  split
  · next l w hl hw =>
    rcases hbad with hb | hb | hb
    · exact nomatch hl.symm.trans (toLane_eq_none hb)
    · exact if_pos hb
    · exact nomatch hw.symm.trans (indicationOf_eq_none hb)
  · rfl

theorem actLaneParameterAccess_eq {h : ReplyHead} (l : LaneNo) {n : Nat} (hn : n ≤ 63) (w : Bool) (v : Nat) (s : State) :
    actLaneParameterAccess h ⟨l.val, n, bit w, v⟩ s = s.beginAccess h ⟨l, n, w, BitVec.ofNat 16 v, none⟩ := by
  simp only [actLaneParameterAccess, toLane_val, indicationOf_bit]
  exact if_neg (by omega)

/-! ## Lane Link Test (R134) -/

theorem doLaneLinkTest_busy {s : State} {x : LinkTest} (h : s.link.test = some x) (f : TestFields) :
    doLaneLinkTest f s = (s, Reply.busy) := if_pos (by rw [h]; rfl)

theorem doLaneLinkTest_eq {s : State} (h : s.link.test = none) {n : Nat} (hn : n < 65536) (w : BitVec 16) :
    doLaneLinkTest ⟨n, w.toNat⟩ s = (s.setUpTest (max 1 n) w,
      if n = 0 then { status := .clamped, cause := .none, contents := be 2 1 } else Reply.ok []) := by
  have hclamp : clamp 1 65535 n = max 1 n := by rw [clamp_eq 1 65535 n (by decide)]; omega
  have hreply : Reply.applied (clamped 1 65535 n).changed (be 2 (max 1 n)) = if n = 0 then
      { status := .clamped, cause := .none, contents := be 2 1 } else Reply.ok [] := by
    rw [Reply.applied_eq (whole := n ≠ 0) (by rw [clamped_changed_iff, hclamp]; omega)]
    by_cases h0 : n = 0
    · subst h0
      rfl
    · rw [if_pos h0, if_neg h0]
  rw [doLaneLinkTest, if_neg (by rw [h]; exact nofun), ← hreply]
  simp only [clamped, hclamp, BitVec.ofNat_toNat, BitVec.setWidth_eq]

/-! ## Set Link Header (R123, R130) -/

/-- A given value outside its list refuses the request (R130, R196). -/
theorem doSetLinkHeader_bad {f : HeaderFields} (h : ∀ k : HeaderSettings,
    chosenOr indicationOf k.bankWord f.bankWord = none ∨ f.selectOr k = none) (s : State) :
    doSetLinkHeader f s = (s, Reply.refuse .badValue) := by
  simp only [doSetLinkHeader]
  split
  · next hb hs =>
    rcases h (s.link.pendingSettings.getD s.link.settings) with hn | hn
    · exact nomatch hb.symm.trans hn
    · exact nomatch hs.symm.trans hn
  · rfl

theorem doSetLinkHeader_eq {f : HeaderFields} {s : State} {k : HeaderSettings} {bw : Bool} {sel : Vector FlagSource 8}
    (hb : chosenOr indicationOf (s.link.pendingSettings.getD s.link.settings).bankWord f.bankWord = some bw)
    (hs : f.selectOr (s.link.pendingSettings.getD s.link.settings) = some sel)
    (hk : f.applied (s.link.pendingSettings.getD s.link.settings) bw sel = k) :
    doSetLinkHeader f s = (s.modLink fun x => { x with
        pendingSettings := if f.any then some k else x.pendingSettings, period := (clampedOr 2 20 s.link.period f.period).value },
      Reply.applied (f.changed (s.link.pendingSettings.getD s.link.settings) bw s.link.period)
        (k.bytes ++ be 1 (clampedOr 2 20 s.link.period f.period).value)) := by
  simp only [doSetLinkHeader, hb, hs, hk]

theorem mapM_flagOf_eq_none {xs : List Nat} {n : Nat} (hn : n ∈ xs) (h : 8 < n) : xs.mapM flagOf = none := by
  induction xs with
  | nil => cases hn
  | cons x xs ih =>
    rw [List.mapM_cons]
    rcases List.mem_cons.1 hn with rfl | hn
    · rw [flagOf_eq_none h]
      rfl
    · rw [ih hn]
      cases flagOf x <;> rfl

theorem mapM_flagOf_codes (fs : List FlagSource) : (fs.map flagCode).mapM flagOf = some fs := by
  induction fs with
  | nil => rfl
  | cons f fs ih =>
    rw [List.map_cons, List.mapM_cons, ih, flagOf_code]
    rfl

theorem HeaderFields.selectOr_eq_none {f : HeaderFields} {k : HeaderSettings} {xs : List Nat} {n : Nat} (hf : f.select = some xs)
    (hn : n ∈ xs) (h : 8 < n) : f.selectOr k = none := by
  simp only [HeaderFields.selectOr, hf, mapM_flagOf_eq_none hn h, Option.map_none]

theorem HeaderFields.selectOr_given {f : HeaderFields} {k : HeaderSettings} {fs : Option (Vector FlagSource 8)}
    (hf : f.select = fs.map fun v => v.toList.map flagCode) : f.selectOr k = some (fs.getD k.select) := by
  cases fs with
  | none => simp only [HeaderFields.selectOr, hf, Option.map_none, Option.getD_none]
  | some v => simp only [HeaderFields.selectOr, hf, Option.map_some, mapM_flagOf_codes, tableOf_toList, Option.getD_some]

/-- A Bank Word choice or a flag source outside its list refuses the request (R130, R196). -/
theorem doSetLinkHeader_refused {n b a c o p : Option Nat} {ws : Option (List Nat)} {fs : Option (Vector Byte 8)} {t : State}
    (hbad : (∃ v, b = some v ∧ 1 < v) ∨ ∃ v, fs = some v ∧ ∃ i, 8 < (v.get i).toNat) :
    doSetLinkHeader ⟨n, ws, b, fs.map fun v => v.toList.map BitVec.toNat, a, c, o, p⟩ t = (t, Reply.refuse .badValue) := by
  rcases hbad with ⟨v, hv, h⟩ | ⟨v, hv, i, h⟩
  · exact doSetLinkHeader_bad (fun k => .inl (chosenOr_eq_none hv (indicationOf_eq_none h))) t
  · subst hv
    refine doSetLinkHeader_bad (fun k => .inr (HeaderFields.selectOr_eq_none rfl (List.mem_map_of_mem (a := v.get i) ?_) h)) t
    exact Vector.mem_toList_iff.2 (Vector.getElem_mem i.isLt)

/-- The word count applied (R130). -/
theorem HeaderFields.countOf_eq (f : HeaderFields) (k : HeaderSettings) (bw : Bool) : f.countOf k bw =
    if (if f.count.isSome then min 7 (f.count.getD k.count) else k.count) = 0 ∧ bw = false then 1
    else if f.count.isSome then min 7 (f.count.getD k.count) else k.count := by
  have hvalue : (clampedOr 0 7 k.count f.count).value = if f.count.isSome then min 7 (f.count.getD k.count) else k.count := by
    cases f.count with
    | none => rfl
    | some v => exact clamp_zero 7 v
  simp only [HeaderFields.countOf, hvalue, Bool.not_eq_true']

/-- The header settings with the values given in the place of those in force (R130). -/
theorem HeaderFields.applied_given {f : HeaderFields} {ws : Option (Vector (BitVec 16) 7)}
    (hf : f.words = ws.map fun v => v.toList.map BitVec.toNat) (k : HeaderSettings) (bw : Bool) (sel : Vector FlagSource 8) :
    f.applied k bw sel = {
      count := f.countOf k bw, words := ws.getD k.words, bankWord := bw, select := sel,
      rising := (f.rising.map (BitVec.ofNat 8)).getD k.rising, falling := (f.falling.map (BitVec.ofNat 8)).getD k.falling,
      offset := match f.offset with | some x => min 15 x | none => k.offset } := by
  have hwords : (match f.words with | some xs => tableOf k.words (xs.map (BitVec.ofNat 16)) | none => k.words) =
      ws.getD k.words := by
    rw [hf]
    cases ws with
    | none => rfl
    | some v =>
      have hid : (v.toList.map BitVec.toNat).map (BitVec.ofNat 16) = v.toList := by
        rw [List.map_map]
        exact List.map_id'' (fun w => by simp) _
      simp only [Option.map_some, hid, tableOf_toList, Option.getD_some]
  have hoffset : (clampedOr 0 15 k.offset f.offset).value = match f.offset with | some x => min 15 x | none => k.offset := by
    cases f.offset with
    | none => rfl
    | some v => exact clamp_zero 15 v
  have hbyte (o : Option Nat) (old : BitVec 8) : (match o with | some n => BitVec.ofNat 8 n | none => old) =
      (o.map (BitVec.ofNat 8)).getD old := by cases o <;> rfl
  have hrising := hbyte f.rising k.rising
  have hfalling := hbyte f.falling k.falling
  unfold HeaderFields.applied
  congr 1

theorem HeaderFields.any_iff (f : HeaderFields) : f.any = true ↔ f.count.isSome ∨ f.words.isSome ∨ f.bankWord.isSome ∨
    f.select.isSome ∨ f.rising.isSome ∨ f.falling.isSome ∨ f.offset.isSome := by
  simp only [HeaderFields.any, Bool.or_eq_true, or_assoc]

/-- The request changed a value where a given one left its range, or where the header would have been empty (R130, R174). -/
theorem HeaderFields.changed_iff (f : HeaderFields) (k : HeaderSettings) (bw : Bool) (period : Nat) :
    f.changed k bw period = true ↔ ¬((∀ x, f.count = some x → x = f.countOf k bw) ∧ (f.count = none → k.count = f.countOf k bw) ∧
      (∀ x, f.offset = some x → x ≤ 15) ∧ ∀ x, f.period = some x → 2 ≤ x ∧ x ≤ 20) := by
  have hcount : ((clampedOr 0 7 k.count f.count).changed = true ∨ f.countOf k bw ≠ (clampedOr 0 7 k.count f.count).value) ↔
      ¬((∀ x, f.count = some x → x = f.countOf k bw) ∧ (f.count = none → k.count = f.countOf k bw)) := by
    simp only [HeaderFields.countOf]
    cases hn : f.count with
    | none => simp [clampedOr, eq_comm (a := k.count)]
    | some x =>
      have hvalue : (clampedOr 0 7 k.count (some x)).value = min 7 x := clamp_zero 7 x
      have hchanged : (clampedOr 0 7 k.count (some x)).changed = true ↔ min 7 x ≠ x := by
        rw [clampedOr, clamped_changed_iff, clamp_zero]
      rw [hvalue, hchanged]
      simp only [Option.some.injEq, forall_eq', reduceCtorEq, false_imp_iff, and_true]
      split_ifs <;> omega
  have hoffset : (clampedOr 0 15 k.offset f.offset).changed = true ↔ ¬∀ x, f.offset = some x → x ≤ 15 := by
    simp [clampedOr_changed_iff, GivenWithin]
  have hperiod := clampedOr_changed_iff (by decide : 2 ≤ 20) period f.period
  rw [GivenWithin] at hperiod
  rw [HeaderFields.changed, Bool.or_eq_true, Bool.or_eq_true, Bool.or_eq_true, decide_eq_true_eq, hcount, hoffset, hperiod]
  tauto

theorem clampedOr_period (now : Nat) (p : Option Nat) :
    (clampedOr 2 20 now p).value = match p with | some x => max 2 (min 20 x) | none => now := by
  cases p with
  | none => rfl
  | some x => exact clamp_eq 2 20 x (by decide)

theorem Reply.applied_cases (c : Bool) (values : List Byte) : Reply.applied c values = Reply.ok [] ∨
    ((Reply.applied c values).status = .clamped ∧ (Reply.applied c values).contents = values) := by
  cases c
  · exact .inl rfl
  · exact .inr ⟨rfl, rfl⟩

theorem Reply.applied_eq_ok_iff (c : Bool) (values : List Byte) : Reply.applied c values = Reply.ok [] ↔ ¬c = true := by
  cases c <;> simp [Reply.applied, Reply.ok]

/-! ## Clear Counts (R95) -/

theorem clearLaneCounts_eq (n : Nat) (l : LaneNo) (s : State) : s.clearLaneCounts n l =
    s.modLane l fun x => if n.testBit l.val then { x with counts := LaneCounts.zero } else x := by
  unfold State.clearLaneCounts
  split
  · rfl
  · rw [State.modLane, upd_same _ _ _ rfl]

/-- Clearing counts changes lanes alone. -/
theorem clearCounts_frame (n : Nat) (s : State) : s.eachLane (State.clearLaneCounts n) =
    { s with lanes := (s.eachLane (State.clearLaneCounts n)).lanes } := by
  have hfold (ls : List LaneNo) (s : State) : (ls.foldl (fun t l => t.clearLaneCounts n l) s) =
      { s with lanes := (ls.foldl (fun t l => t.clearLaneCounts n l) s).lanes } := by
    induction ls generalizing s with
    | nil => rfl
    | cons l ls ih => rw [List.foldl_cons, ih, clearLaneCounts_eq]; rfl
  exact hfold allLanes s

theorem laneLocal_clearLaneCounts (n : Nat) : State.LaneLocal (State.clearLaneCounts n) where
  lanesOnly k s := by
    rw [clearLaneCounts_eq]
    exact .modLane s k _
  others k l s hne := by rw [clearLaneCounts_eq, State.lane_modLane, if_neg hne]
  alike l s t h := by rw [clearLaneCounts_eq, clearLaneCounts_eq, State.lane_modLane, State.lane_modLane, h.lane]

end Sys2Proof.Machine
end

section
/-! The lane requests together (O58). -/

namespace Sys2Proof.Machine

/-- Settles O58, request by request: the fields are read, and the request's rule gives the next state. -/
theorem laneRequestsTakeEffect : Obligations.LaneRequestsTakeEffect := by
  unfold Obligations.LaneRequestsTakeEffect
  refine ⟨fun s l => ⟨State.readopt_of_closed, State.readopt_of_idle, State.readopt_of_busy⟩, fun s r extra hm => ?_⟩
  intro t
  refine ⟨?control, ?badControl, fun a n w rest h hrest hbad => ?badAccess, fun n hn h => ⟨fun h0 => ?zero, fun h0 => ?clear⟩,
    fun l n w h => ?access, fun n w hn h hs => ⟨fun ht => ?setUp, fun x ht => ?busy⟩, ?badHeader, ?header⟩
  case control =>
    intro l d p c x lamps code old image h one two three four five
    have hf := Reader.control_be (laneByte l) (ls := lamps.map lampCodes) (d := d.map overrideCode) (p := p.map bit)
      (c := c.map bit) (x := x.map bit) rfl (by cases lamps <;> simp [lampCodes]) (lampCodes_fit lamps)
      (optFits_code overrideCode_lt d) (optFits_code bit_lt p) (optFits_code bit_lt c) (optFits_code bit_lt x) extra
    have hlane : (laneByte l).toNat = l.val := toNat_byte _ (by omega)
    have hstate : t.controlLane l ⟨l.val, lamps.map lampCodes, d.map overrideCode, p.map bit, c.map bit, x.map bit⟩ image
        (x.getD false) = five := by
      cases c <;> rcases x with _ | _ | _ <;> rfl
    rw [hlane] at hf
    rw [← hstate, exec_setLaneControl (fields := _) ?_ hf hm, doSetLaneControl_eq]
    · rfl
    · cases lamps <;> simpa [numberField, lampCodes, be_one] using h
  case badControl =>
    intro a lamps d p c x hd hp hc hx h hbad
    have hf := Reader.control_be a (ls := lamps.map fun y => [y.1.toNat, y.2.1.toNat, y.2.2.toNat]) (d := d) (p := p)
      (c := c) (x := x) rfl (by cases lamps <;> simp) (by cases lamps <;> simp <;> omega) hd hp hc hx extra
    rw [exec_setLaneControl (r := r) ?_ hf hm]
    · have hrefused := doSetLaneControl_refused (t := t) hbad
      rw [hrefused]
    · cases lamps <;> simpa [numberField, be_one] using h
  case badAccess =>
    obtain ⟨v, tail, hf⟩ := Reader.access_cons a n w rest hrest
    rw [exec_laneParameterAccess h hf hm, actLaneParameterAccess_bad]
    · rfl
    · exact hbad.imp_right fun hb => hb.imp_right fun hw => hw
  case zero =>
    subst h0
    rw [exec_clearCounts hn h hm]
    rfl
  case clear =>
    refine ⟨_, (exec_clearCounts hn h hm).trans (by rw [doClearCounts, if_neg h0]), clearCounts_frame n t, fun l => ?_⟩
    rw [(laneLocal_clearLaneCounts n).lane_eachLane, clearLaneCounts_eq, State.lane_modLane, if_pos rfl]
    rfl
  case access =>
    have hlane : (laneByte l).toNat = l.val := toNat_byte _ (by omega)
    have hf : Reader.access (laneByte l :: n :: (match (generalizing := false) w with | some v => 1 :: be 2 v.toNat | none => [0]) ++ extra) =
        some (⟨l.val, n.toNat, bit w.isSome, (w.getD 0).toNat⟩, extra) := by
      rw [← hlane]
      cases w with
      | none => exact Reader.access_read _ n 0 extra (by decide)
      | some v => exact Reader.access_write _ n v.isLt extra
    have hexec := exec_laneParameterAccess h hf hm
    have hact (hn : n.toNat ≤ 63) := actLaneParameterAccess_eq (h := r.head 20) l hn w.isSome (w.getD 0).toNat s.beginRequest
    refine ⟨fun hn => ?_, fun hn ha ht => ?_, fun hn hbad => ?_⟩
    · rw [hexec, actLaneParameterAccess_bad (.inr (.inl hn))]
      rfl
    · rw [hexec, hact hn, State.beginAccess, if_neg]
      · simp only [BitVec.ofNat_toNat, BitVec.setWidth_eq]
        rfl
      · rintro (hl | hl)
        · exact hl ha
        · exact nomatch (congrArg Option.isSome ht).symm.trans hl
    · rw [hexec, hact hn, State.beginAccess, if_pos]
      · rfl
      · exact hbad.imp_right fun hn => Option.isSome_iff_ne_none.2 hn
  case setUp =>
    rw [exec_laneLinkTest h (Reader.test_be hn w.isLt extra) hs, doLaneLinkTest_eq (s := t) ht hn w]
    rfl
  case busy =>
    rw [exec_laneLinkTest h (Reader.test_be hn w.isLt extra) hs, doLaneLinkTest_busy (s := t) ht]
  case badHeader =>
    intro n b a c o p ws fs hn hb ha hc ho hp h hbad
    have hf := Reader.header_be (ws := ws.map fun v => v.toList.map BitVec.toNat) (fs := fs.map fun v => v.toList.map BitVec.toNat)
      rfl (by cases ws <;> simp) (words_fit (by decide) ws) (by cases fs <;> simp) (words_fit (by decide) fs) hn hb ha hc ho hp extra
    rw [exec_setLinkHeader (r := r) ?_ hf hm]
    · have hrefused := doSetLinkHeader_refused (t := t) (n := n) (ws := ws.map fun v => v.toList.map BitVec.toNat) (a := a)
        (c := c) (o := o) (p := p) hbad
      rw [hrefused]
    · cases ws <;> cases fs <;> simpa [numberField, flatMap_be_one, List.flatMap_map] using h
  case header =>
    intro n b a c o p ws fs hn hb ha hc ho hp h old
    have hf := Reader.header_be (ws := ws.map fun v => v.toList.map BitVec.toNat) (fs := fs.map fun v => v.toList.map flagCode)
      rfl (by cases ws <;> simp) (words_fit (by decide) ws) (by cases fs <;> simp) (flags_fit fs) hn hb ha hc ho hp extra
    have hexec := exec_setLinkHeader (r := r) (s := s) (by
      cases ws <;> cases fs <;> simpa [numberField, flatMap_be_one, List.flatMap_map] using h) hf hm
    rw [hexec]
    refine ⟨fun x hx hge => ?_, fun bw hbw => ?_⟩
    · rw [doSetLinkHeader_bad fun k => .inl (chosenOr_eq_none hx (indicationOf_eq_none hge))]
    · intro count k period header
      set f : HeaderFields := ⟨n, ws.map fun v => v.toList.map BitVec.toNat, b, fs.map fun v => v.toList.map flagCode, a, c, o, p⟩
        with hfields
      have hword : chosenOr indicationOf old.bankWord f.bankWord = some bw := chosenOr_eq indicationOf_bit hbw
      have hselect : f.selectOr old = some (fs.getD old.select) := HeaderFields.selectOr_given rfl
      have hcount : f.countOf old bw = k.count := f.countOf_eq old bw
      have happlied : f.applied old bw (fs.getD old.select) = k := by
        rw [HeaderFields.applied_given rfl, hcount] <;> rfl
      have hperiod : (clampedOr 2 20 s.link.period f.period).value = period := clampedOr_period _ _
      have hany : f.any = true ↔ header := by
        rw [f.any_iff]
        simp only [hfields, Option.isSome_map]
        rfl
      have hdo : doSetLinkHeader f t = (t.modLink fun x => { x with
          pendingSettings := if f.any then some k else x.pendingSettings, period := period },
          Reply.applied (f.changed old bw s.link.period) (k.bytes ++ [byte period])) := by
        rw [← be_one, ← hperiod]
        exact doSetLinkHeader_eq (s := t) hword hselect happlied
      refine ⟨_, ?_, Reply.applied_cases (f.changed old bw s.link.period) (k.bytes ++ [byte period]), ?_⟩
      · rw [hdo]
        simp only [if_congr hany rfl rfl]
        rfl
      · rw [Reply.applied_eq_ok_iff, HeaderFields.changed_iff, not_not, hcount]

end Sys2Proof.Machine
end

section
/-! SUPPORT. What the abort of a sequencer may change beside the lanes and slots (R92): what an abort raises, and how it leaves
the link and the mode. -/

namespace Sys2Proof.Machine

theorem causeIndex_injective {c e : Cause} (h : causeIndex c = causeIndex e) : c = e := by
  revert h
  cases c <;> cases e <;> decide

namespace State

/-- From `s` to `t` operations may have ended and causes of `A` have been raised: the requests, the store, the pairs and the
trunk port but for its Peer Queue are as they were; no cause has been cleared; the link and the mode are as they were but for slots
and a further trigger, unless the bank was in STANDBY and might be released from it (R159). -/
structure Unwinds (A : List Cause) (s t : State) : Prop where
  frame : t = { s with
    trunk := { s.trunk with peerQ := t.trunk.peerQ }, table := t.table, zones := t.zones, lanes := t.lanes, link := t.link,
    peers := t.peers, log := t.log, evu := t.evu, bcm := { s.bcm with mode := t.bcm.mode } }
  pending : ∀ i, (s.evu.causes.get i).pending = true → (t.evu.causes.get i).pending = true
  others : ∀ c, c ∉ A → c ≠ .wake → c ≠ .modeChange → t.evu.causes.get (causeIndex c) = s.evu.causes.get (causeIndex c)
  calm : s.bcm.mode ≠ .standby ∨ s.bcm.entering = true → t.bcm.mode = s.bcm.mode ∧
    t.link = { s.link with slots := t.link.slots, trigger := t.link.trigger } ∧ (s.link.trigger = true → t.link.trigger = true)
  woken : t.bcm.mode = s.bcm.mode ∨ (s.bcm.mode = .standby ∧ t.bcm.mode = .service ∧
    (t.evu.causes.get 18).pending = true ∧ (t.evu.causes.get 23).pending = true)

namespace Unwinds

variable {A B : List Cause} {s t u : State} {c : Cause} {d : Option Nat}

theorem refl (A : List Cause) (s : State) : Unwinds A s s :=
  ⟨rfl, fun _ h => h, fun _ _ _ _ => rfl, fun _ => ⟨rfl, rfl, fun h => h⟩, .inl rfl⟩

theorem mge (h : Unwinds A s t) : t.mge = s.mge := by rw [h.frame]

theorem policy (h : Unwinds A s t) : t.policy = s.policy := by rw [h.frame]

theorem bank (h : Unwinds A s t) : t.bank = s.bank := by rw [h.frame]

theorem pairs (h : Unwinds A s t) : t.pairs = s.pairs := by rw [h.frame]

theorem now (h : Unwinds A s t) : t.now = s.now := by rw [h.frame]

theorem replyQ (h : Unwinds A s t) : t.trunk.replyQ = s.trunk.replyQ := by rw [h.frame]

theorem reportQ (h : Unwinds A s t) : t.trunk.reportQ = s.trunk.reportQ := by rw [h.frame]

theorem maxPayload (h : Unwinds A s t) : t.trunk.maxPayload = s.trunk.maxPayload := by rw [h.frame]

theorem bcm (h : Unwinds A s t) : t.bcm = { s.bcm with mode := t.bcm.mode } := by rw [h.frame]

theorem mode_ne (h : Unwinds A s t) (hs : s.bcm.mode ≠ .standby ∨ s.bcm.entering = true) :
    t.bcm.mode ≠ .standby ∨ t.bcm.entering = true := by
  rw [(h.calm hs).1, show t.bcm.entering = s.bcm.entering by rw [h.frame]]
  exact hs

theorem trans (h : Unwinds A s t) (g : Unwinds A t u) : Unwinds A s u where
  frame := by rw [g.frame, h.frame]
  pending i hi := g.pending i (h.pending i hi)
  others c hc hw hm := (g.others c hc hw hm).trans (h.others c hc hw hm)
  calm hs := by
    obtain ⟨hm, hl, ht⟩ := h.calm hs
    obtain ⟨gm, gl, gt⟩ := g.calm (h.mode_ne hs)
    exact ⟨gm.trans hm, by rw [gl, hl], fun hx => gt (ht hx)⟩
  woken := by
    rcases h.woken with hm | ⟨hs, hm, h18, h23⟩
    · rcases g.woken with gm | ⟨gs, gm⟩
      · exact .inl (gm.trans hm)
      · exact .inr ⟨hm.symm.trans gs, gm⟩
    · have gm : u.bcm.mode = t.bcm.mode := (g.calm (.inl (by rw [hm]; exact nofun))).1
      exact .inr ⟨hs, gm.trans hm, g.pending 18 h18, g.pending 23 h23⟩

theorem mono (h : Unwinds A s t) (hAB : A ⊆ B) : Unwinds B s t :=
  ⟨h.frame, h.pending, fun c hc => h.others c fun hA => hc (hAB hA), h.calm, h.woken⟩

theorem ite {p : Prop} [Decidable p] (ha : Unwinds A s t) (hb : Unwinds A s u) : Unwinds A s (if p then t else u) :=
  iteInduction (fun _ => ha) fun _ => hb

/-- An operation that raises nothing. -/
theorem quiet (hframe : t = { s with
      trunk := { s.trunk with peerQ := t.trunk.peerQ }, table := t.table, zones := t.zones, lanes := t.lanes, link := t.link,
      peers := t.peers, log := t.log, evu := t.evu })
    (hcauses : t.evu.causes = s.evu.causes)
    (hlink : t.link = { s.link with slots := t.link.slots, trigger := s.link.trigger || t.link.trigger }) :
    Unwinds A s t where
  frame := by rw [hframe]
  pending i hi := by rwa [hcauses]
  others c _ _ _ := by rw [hcauses]
  calm _ := by
    have htrigger : t.link.trigger = (s.link.trigger || t.link.trigger) := by
      conv_lhs => rw [hlink]
    refine ⟨by rw [hframe], ?_, fun hx => by rw [htrigger, hx]; rfl⟩
    rw [htrigger]
    exact hlink
  woken := .inl (by rw [hframe])

theorem lanesOnly (h : LanesOnly s t) : Unwinds A s t :=
  quiet (by rw [h.frame]) (by rw [h.evu]) (by rw [h.frame]; simp)

theorem modSlot (s : State) (l : LaneNo) (f : Slot → Slot) : Unwinds A s (s.modSlot l f) :=
  quiet rfl rfl (by simp [State.modSlot])

/-! ## Events and errors -/

theorem of_raiseQuiet (s : State) (hc : c ∈ A) : Unwinds A s (s.raiseQuiet c d) where
  frame := by
    rw [(s.raisedFrom_raiseQuiet c d).frame]
  pending i hi := by
    rw [causes_raiseQuiet, get_upd]
    split
    · rfl
    · exact hi
  others e he _ _ := by
    rw [causes_raiseQuiet, get_upd, if_neg]
    exact fun h => he (causeIndex_injective h ▸ hc)
  calm _ := by simp
  woken := .inl (by simp)

theorem of_releaseStandby (hs : s.bcm.mode = .standby) (he : s.bcm.entering = false) : Unwinds A s s.releaseStandby where
  frame := by
    rw [(raisedFrom_releaseStandby hs).frame]
  pending i hi := by
    rw [causes_releaseStandby, get_upd]
    split
    · rfl
    · rw [get_upd]
      split
      · rfl
      · exact hi
  others e _ hw hm := by
    rw [causes_releaseStandby, get_upd, if_neg fun h => hm (causeIndex_injective h), get_upd,
      if_neg fun h => hw (causeIndex_injective h)]
  calm h := by
    rcases h with h | h
    · exact absurd hs h
    · exact nomatch he.symm.trans h
  woken := .inr ⟨hs, by simp, by rw [causes_releaseStandby]; simp [causeIndex, get_upd, CauseEntry.raised],
    by rw [causes_releaseStandby]; simp [causeIndex, get_upd, CauseEntry.raised]⟩

theorem raise (h : Unwinds A s t) (hc : c ∈ A) : Unwinds A s (t.raise c d) := by
  refine h.trans ?_
  unfold State.raise
  split
  · next hr =>
    simp only [State.releasedBy, Bool.and_eq_true, decide_eq_true_eq, Bool.not_eq_true'] at hr
    obtain ⟨⟨⟨hmode, hentering⟩, -⟩, -⟩ := hr
    exact (of_raiseQuiet t hc).trans (of_releaseStandby (by simpa using hmode) (by simpa using hentering))
  · exact of_raiseQuiet t hc

theorem modEvu {f : Evu → Evu} (h : Unwinds A s t) (hf : (f t.evu).causes = t.evu.causes) : Unwinds A s (t.modEvu f) :=
  h.trans (quiet rfl hf (by simp))

theorem capture (h : Unwinds A s t) (k : ErrorKind) (l : Option LaneNo) : Unwinds A s (t.capture k l) :=
  h.modEvu (by split <;> rfl)

theorem logHeader (h : Unwinds A s t) (k : ErrorKind) (bs : List Byte) : Unwinds A s (t.logHeader k bs) :=
  h.modEvu (by split <;> rfl)

theorem errorOccurs (h : Unwinds A s t) (k : ErrorKind) (l : Option LaneNo) (bs : List Byte) (hk : k.cause ∈ A) :
    Unwinds A s (t.errorOccurs k l bs) := by
  have h1 := h.modEvu (f := fun e => { e with errors := upd e.errors (errorIndex k) ErrorEntry.occurred }) rfl
  have h2 := ite (p := (t.evu.errors.get (errorIndex k)).masked) h1 (h1.raise (d := some (errorIndex k).val) hk)
  have h3 := ite (p := k.serious && !(t.evu.errors.get (errorIndex k)).masked) (h2.capture k l) h2
  exact ite (h3.logHeader k bs) h3

/-! ## The end of an operation -/

/-- The causes that the end of an operation may raise: those of a record written, and those of an error. -/
def endCauses : List Cause := [.logHigh, .logFull, .errorSerious, .errorAdvisory]

theorem cause_mem_endCauses (k : ErrorKind) : k.cause ∈ endCauses := by cases k <;> decide

theorem flagging {f : State → State} (h : Unwinds A s (f t)) : Unwinds A s (t.flagging f) := by
  refine h.trans ?_
  rw [State.flagging, State.noteFlags_eq]
  exact quiet rfl rfl (by simp)

theorem modLog (h : Unwinds A s t) (f : Log → Log) : Unwinds A s (t.modLog f) := h.trans (quiet rfl rfl (by simp))

theorem reportLevel (h : Unwinds endCauses s t) (n : Nat) : Unwinds endCauses s (t.reportLevel n) :=
  ite (h.raise (by decide)) (ite (h.raise (by decide)) h)

theorem writeLog (h : Unwinds endCauses s t) (a : Admission) : Unwinds endCauses s (t.writeLog a) := by
  unfold State.writeLog
  refine ite (((h.modLog _).flagging.reportLevel _).modLog _) ?_
  split
  · exact (h.modLog _).errorOccurs _ _ _ (cause_mem_endCauses _)
  · exact ((h.modLog _).errorOccurs _ _ _ (cause_mem_endCauses _)).modLog _

theorem modZone (h : Unwinds A s t) (z : ZoneNo) (f : Zone → Zone) : Unwinds A s (t.modZone z f) :=
  flagging (h.trans (quiet rfl rfl (by simp)))

theorem release (h : Unwinds A s t) (l : LaneNo) : Unwinds A s (t.release l) := by
  unfold State.release
  split
  · next z _ => exact (h.modZone z Zone.released).trans (lanesOnly (.modLane _ l _))
  · exact h

theorem revertHeld (h : Unwinds A s t) (l : LaneNo) (k : Key) : Unwinds A s (t.revertHeld l k) := by
  refine h.trans ?_
  unfold State.revertHeld
  split
  · exact ite (quiet rfl rfl (by simp)) (refl A t)
  · exact refl A t

theorem offerPeer (h : Unwinds endCauses s t) (f : TxFrame) : Unwinds endCauses s (t.offerPeer f) :=
  ite (h.trans (quiet rfl rfl (by simp))) (h.errorOccurs _ _ _ (cause_mem_endCauses _))

theorem withdrawRemote (h : Unwinds endCauses s t) (l : LaneNo) (k : Key) (res : DecisionResult) :
    Unwinds endCauses s (t.withdrawRemote l k res) := by
  unfold State.withdrawRemote
  refine ite ?_ h
  split
  · exact h.offerPeer _
  · exact h

theorem endWithout (h : Unwinds endCauses s t) (l : LaneNo) (o : Outcome) : Unwinds endCauses s (t.endWithout l o) := by
  unfold State.endWithout
  split
  · exact (((ite (h.revertHeld l _) h).release l).writeLog _).withdrawRemote l _ _
  · exact h.release l

theorem abortQuery (h : Unwinds A s t) (l : LaneNo) : Unwinds A s (t.abortQuery l) := by
  refine h.trans ?_
  unfold State.abortQuery
  split
  · exact quiet rfl rfl (by simp)
  · exact refl A t

theorem abortOperation (h : Unwinds endCauses s t) (l : LaneNo) (o : Outcome) :
    Unwinds endCauses s (t.abortOperation l o) := by
  unfold State.abortOperation
  split
  · exact ite h (h.endWithout l o)
  · exact (h.abortQuery l).release l
  · exact h

theorem abortLane (h : Unwinds endCauses s t) (l : LaneNo) (o : Outcome) : Unwinds endCauses s (t.abortLane l o) :=
  have ha := (h.abortOperation l o).trans (lanesOnly (.modLane _ l fun n => { n with mate := none }))
  ite ha (ha.trans (lanesOnly (.enterClosed _ l)))

theorem loseLane (h : Unwinds endCauses s t) (l : LaneNo) : Unwinds endCauses s (t.loseLane l) :=
  have ha := (h.trans (lanesOnly (.modLane t l Lane.unconfirmed))).abortLane l .laneLost
  ite (ha.errorOccurs _ _ _ (cause_mem_endCauses _)) ha

end Unwinds
end State
end Sys2Proof.Machine
end

section
/-! SUPPORT. The lanes and slots under an abort (R92, R137), and what it does outside them, which rests on the operation and on
what lies outside the lanes alone. -/

namespace Sys2Proof.Machine
namespace State

variable {s t : State} {l m : LaneNo} {o : Outcome}

/-! ## Lanes and slots -/

@[simp] theorem slots_withdrawRemote (s : State) (l : LaneNo) (k : Key) (res : DecisionResult) :
    (s.withdrawRemote l k res).link.slots = s.link.slots := by
  unfold State.withdrawRemote
  (repeat' split) <;> simp

@[simp] theorem slots_revertHeld (s : State) (l : LaneNo) (k : Key) : (s.revertHeld l k).link.slots = s.link.slots := by
  unfold State.revertHeld
  (repeat' split) <;> simp

theorem slots_endWithout (s : State) (l : LaneNo) (o : Outcome) : (s.endWithout l o).link.slots = s.link.slots := by
  unfold State.endWithout
  split
  · simp only [slots_withdrawRemote, State.writeLog_frame, State.release_frame]
    split <;> simp
  · simp

theorem slots_abortOperation (s : State) (l : LaneNo) (o : Outcome) : (s.abortOperation l o).link.slots = s.link.slots := by
  unfold State.abortOperation
  split
  · split
    · rfl
    · exact s.slots_endWithout l o
  · unfold State.abortQuery
    split <;> simp
  · rfl

theorem pairs_abortOperation (s : State) (l : LaneNo) (o : Outcome) : (s.abortOperation l o).pairs = s.pairs := by
  rw [((Unwinds.refl _ s).abortOperation l o).frame]

/-- An abort gives the lane's reservation up and changes nothing else in it. -/
theorem lane_abortOperation (s : State) (l : LaneNo) (o : Outcome) :
    ∃ z, (s.abortOperation l o).lane l = { s.lane l with reservation := z } := by
  unfold State.abortOperation State.endWithout
  split
  · split
    · exact ⟨_, rfl⟩
    · refine ⟨none, ?_⟩
      split
      · rw [lane_withdrawRemote, lane_writeLog, State.lane_release, if_pos rfl]
        split <;> simp
      · rw [State.lane_release, if_pos rfl]
  · refine ⟨none, ?_⟩
    rw [State.lane_release, if_pos rfl]
    unfold State.abortQuery State.lane
    split <;> simp
  · exact ⟨_, rfl⟩

theorem abortOperation_closed (h : (s.lane l).state = .closed) : s.abortOperation l o = s := by
  unfold State.abortOperation
  rw [h]

/-- An aborted lane is CLOSED with its operation and its mark gone (R92). -/
theorem lane_abortLane (s : State) (l : LaneNo) (o : Outcome) : (s.abortLane l o).lane l =
    if (s.lane l).state = .closed then { s.lane l with mate := none }
    else Lane.cleared .closed { s.lane l with mate := none } := by
  obtain ⟨z, hz⟩ := s.lane_abortOperation l o
  unfold State.abortLane
  split
  · next h => rw [abortOperation_closed h, State.lane_modLane, if_pos rfl]
  · rw [State.lane_enterClosed, if_pos rfl, State.lane_modLane, if_pos rfl, hz]
    rfl

/-- A lane that was not CLOSED queues its Closed display, an undelivered verdict discarded (R78, R126). -/
theorem slot_abortLane (s : State) (l : LaneNo) (o : Outcome) (k : LaneNo) : (s.abortLane l o).slot k =
    if (s.lane l).state ≠ .closed ∧ k ∈ s.slotsOf l then Slot.queueLamp .closed (s.slot k).endVerdict else s.slot k := by
  have hslot : ((s.abortOperation l o).modLane l fun n => { n with mate := none }).slot k = s.slot k := by
    simp only [State.slot, State.modLane_link, slots_abortOperation]
  unfold State.abortLane
  split
  · next h => rw [if_neg fun hn => hn.1 h, hslot]
  · next h =>
    rw [State.slot_enterClosed, slotsOf_congr (t := (s.abortOperation l o).modLane l fun n => { n with mate := none })
      (s.pairs_abortOperation l o), hslot]
    simp [h]

/-! ## Outside the lanes -/

/-- What lies outside the lanes and what the end of an operation reads or changes of it. -/
structure Core where
  table : Table
  zones : Vector Zone 16
  log : Log
  peerQ : List TxFrame
  maxPayload : Nat
  peers : Peers
  now : Nat
  clock : Option Nat
  surge : Surge
  bank : Option BankNo

def core (s : State) : Core :=
  ⟨s.table, s.zones, s.log, s.trunk.peerQ, s.trunk.maxPayload, s.peers, s.now, s.bcm.clock, s.bcm.surge, s.bank⟩

theorem core_iff : t.core = s.core ↔ t.table = s.table ∧ t.zones = s.zones ∧ t.log = s.log ∧ t.trunk.peerQ = s.trunk.peerQ ∧
    t.trunk.maxPayload = s.trunk.maxPayload ∧ t.peers = s.peers ∧ t.now = s.now ∧ t.bcm.clock = s.bcm.clock ∧
    t.bcm.surge = s.bcm.surge ∧ t.bank = s.bank := by
  simp only [core, Core.mk.injEq]

@[simp] theorem core_raise (s : State) (c : Cause) (d : Option Nat) : (s.raise c d).core = s.core := by simp [core]

@[simp] theorem core_errorOccurs (s : State) (k : ErrorKind) (l : Option LaneNo) (bs : List Byte) :
    (s.errorOccurs k l bs).core = s.core := by simp [core]

theorem core_lanesOnly (h : LanesOnly s t) : t.core = s.core := by rw [h.frame]; rfl

theorem lookup_core (h : t.core = s.core) (k : Key) : t.lookup k = s.lookup k := lookup_congr (core_iff.1 h).1 k

theorem withoutRecord_core (h : t.core = s.core) (l : LaneNo) (k : Key) (res : DecisionResult) (o : Outcome) :
    t.withoutRecord l k res o = s.withoutRecord l k res o := by
  have hclock : t.bcm.clock = s.bcm.clock := congrArg Core.clock h
  have hbank : t.bank = s.bank := congrArg Core.bank h
  simp only [State.withoutRecord, lookup_core h, State.eventTime, State.ownBank, hclock, hbank]

theorem core_release (h : t.core = s.core) (hr : (t.lane l).reservation = (s.lane l).reservation) :
    (t.release l).core = (s.release l).core := by
  have hzones := (core_iff.1 h).2.1
  rw [core_iff] at h ⊢
  unfold State.release
  rw [hr]
  split
  · simpa [hzones] using h
  · exact h

theorem core_revertHeld (h : t.core = s.core) (l : LaneNo) (k : Key) : (t.revertHeld l k).core = (s.revertHeld l k).core := by
  unfold State.revertHeld
  rw [lookup_core h]
  rw [core_iff] at h
  obtain ⟨htable, h⟩ := h
  (repeat' split) <;> simp [core_iff, State.putRecord, State.modTable, htable, h]

/-- The drain test reads the log, the set in use, the time and the frame size (R144, R145). -/
theorem tallyDue_congr (hl : t.log = s.log) (hm : t.trunk.maxPayload = s.trunk.maxPayload) (hn : t.now = s.now)
    (hg : t.bcm.surge = s.bcm.surge) : t.tallyDue = s.tallyDue := by
  simp only [State.tallyDue, State.effectiveBatch, State.setInUse, hl, hm, hn, hg] <;> rfl

theorem core_drainTest (h : t.core = s.core) : t.drainTest.core = s.drainTest.core := by
  rw [core_iff] at h ⊢
  obtain ⟨htable, hzones, hlog, hpeerQ, hpayload, hpeers, hnow, hclock, hsurge, hbank⟩ := h
  have hdue := tallyDue_congr hlog hpayload hnow hsurge
  simp [State.drainTest, State.modLog, htable, hzones, hlog, hpeerQ, hpayload, hpeers, hnow, hclock, hsurge, hbank, hdue]

theorem core_modLog {f g : Log → Log} (h : t.core = s.core) (hfg : f t.log = g s.log) : (t.modLog f).core = (s.modLog g).core := by
  rw [core_iff] at h ⊢
  obtain ⟨htable, hzones, -, h⟩ := h
  exact ⟨htable, hzones, hfg, h⟩

theorem core_flagging (s : State) (f : State → State) : (s.flagging f).core = (f s).core := by
  rw [flagging_eq]
  rfl

theorem core_reportLevel (s : State) (n : Nat) : (s.reportLevel n).core = s.core := by simp [core]

theorem core_writeLog (h : t.core = s.core) (a : Admission) : (t.writeLog a).core = (s.writeLog a).core := by
  obtain ⟨-, -, hlog, -, -, -, hnow, -⟩ := core_iff.1 h
  unfold State.writeLog
  simp only [hlog, hnow]
  split
  · refine core_drainTest ?_
    rw [core_reportLevel, core_reportLevel, core_flagging, core_flagging]
    exact core_modLog h (by rw [hlog])
  · split
    · rw [core_errorOccurs, core_errorOccurs]
      exact core_modLog h (by rw [hlog])
    · refine core_drainTest ?_
      rw [core_errorOccurs, core_errorOccurs]
      exact core_modLog h (by rw [hlog])

theorem core_offerPeer (h : t.core = s.core) (f : TxFrame) : (t.offerPeer f).core = (s.offerPeer f).core := by
  have hcore := h
  rw [core_iff] at h
  obtain ⟨htable, hzones, hlog, hpeerQ, hpayload, h⟩ := h
  unfold State.offerPeer State.peerRoom
  rw [hpeerQ]
  split
  · simp [core_iff, State.pushPeer, State.modTrunk, htable, hzones, hlog, hpeerQ, hpayload, h]
  · rw [core_errorOccurs, core_errorOccurs, hcore]

theorem core_withdrawRemote (h : t.core = s.core) (l : LaneNo) (k : Key) (res : DecisionResult) :
    (t.withdrawRemote l k res).core = (s.withdrawRemote l k res).core := by
  have hbank : t.bank = s.bank := congrArg Core.bank h
  unfold State.withdrawRemote State.sendWithdrawNotice State.ownBank
  rw [lookup_core h, hbank]
  split
  · split
    · exact core_offerPeer h _
    · exact h
  · exact h

end State

/-- The operation in progress at a lane, as an abort finds it (R92): none where there is nothing to abort. -/
def Lane.operation (n : Lane) : Option (LaneState × Direction × Option Key × Option DecisionResult × Option ZoneNo) :=
  if n.state = .opened ∨ n.state = .querying then some (n.state, n.granted, n.key, n.result, n.reservation) else none

namespace State

variable {s t : State} {l m : LaneNo} {o : Outcome}

theorem abortOperation_none (h : (s.lane l).operation = none) (o : Outcome) : s.abortOperation l o = s := by
  unfold Lane.operation at h
  unfold State.abortOperation
  split
  · next hs => simp [hs] at h
  · next hs => simp [hs] at h
  · rfl

theorem core_endWithout (h : t.core = s.core) (hkey : (t.lane l).key = (s.lane l).key)
    (hresult : (t.lane l).result = (s.lane l).result) (hres : (t.lane l).reservation = (s.lane l).reservation) (o : Outcome) :
    (t.endWithout l o).core = (s.endWithout l o).core := by
  unfold State.endWithout
  rw [hkey, hresult]
  split
  · next res k _ _ =>
    have hheld : (if res.held = true then t.revertHeld l k else t).core = (if res.held = true then s.revertHeld l k else s).core := by
      split
      · exact core_revertHeld h l k
      · exact h
    have hu := core_release hheld (l := l) (by split <;> simpa using hres)
    have hrecord := withoutRecord_core hu l k res o
    dsimp only
    rw [hrecord]
    exact core_withdrawRemote (core_writeLog hu _) l k res
  · exact core_release h hres

theorem core_abortQuery (h : t.core = s.core) (l : LaneNo) : (t.abortQuery l).core = (s.abortQuery l).core := by
  have hpeers : t.peers = s.peers := congrArg Core.peers h
  have hnow : t.now = s.now := congrArg Core.now h
  unfold State.abortQuery
  rw [hpeers]
  rw [core_iff] at h
  obtain ⟨htable, hzones, hlog, hpeerQ, hpayload, -, -, h⟩ := h
  split
  · simp [core_iff, State.dropQuery, State.addLapsed, State.modPeers, htable, hzones, hlog, hpeerQ, hpayload, hpeers, hnow, h]
  · simp [core_iff, htable, hzones, hlog, hpeerQ, hpayload, hpeers, hnow, h]

/-- What an abort does outside the lanes rests on the operation and on what lies there (R92). -/
theorem core_abortOperation (h : t.core = s.core) (hl : (t.lane l).operation = (s.lane l).operation) (o : Outcome) :
    (t.abortOperation l o).core = (s.abortOperation l o).core := by
  cases hs : (s.lane l).operation with
  | none => rw [abortOperation_none hs, abortOperation_none (hl.trans hs), h]
  | some x =>
    have ht := hl.trans hs
    unfold Lane.operation at hs ht
    split at hs
    · split at ht
      · obtain ⟨hstate, hgranted, hkey, hresult, hres⟩ : (t.lane l).state = (s.lane l).state ∧
            (t.lane l).granted = (s.lane l).granted ∧ (t.lane l).key = (s.lane l).key ∧
            (t.lane l).result = (s.lane l).result ∧ (t.lane l).reservation = (s.lane l).reservation := by
          have := ht.trans hs.symm
          simpa using this
        unfold State.abortOperation
        rw [hstate, hgranted]
        split
        · split
          · exact h
          · exact core_endWithout h hkey hresult hres o
        · refine core_release (core_abortQuery h l) ?_
          rw [lane_abortQuery, lane_abortQuery, hres]
        · exact h
      · cases ht
    · cases hs

/-- Aborting lanes in turn, each with the operation that it has at the start (R92). -/
theorem core_foldl_abort {ls : List LaneNo} (hd : ls.Nodup) (h : t.core = s.core)
    (hl : ∀ l ∈ ls, (t.lane l).operation = (s.lane l).operation) (o : Outcome) :
    (ls.foldl (fun u l => u.abortOperation l o) t).core = (ls.foldl (fun u l => u.abortOperation l o) s).core := by
  induction ls generalizing s t with
  | nil => exact h
  | cons l ls ih =>
    obtain ⟨hn, hd⟩ := List.nodup_cons.1 hd
    refine ih hd (core_abortOperation h (hl l List.mem_cons_self) o) fun m hm => ?_
    have hne : m ≠ l := fun he => hn (he ▸ hm)
    rw [lane_abortOperation_of_ne hne, lane_abortOperation_of_ne hne]
    exact hl m (List.mem_cons_of_mem l hm)

theorem core_abortLane (s : State) (l : LaneNo) (o : Outcome) : (s.abortLane l o).core = (s.abortOperation l o).core := by
  unfold State.abortLane
  split
  · rfl
  · exact (core_lanesOnly (.enterClosed _ l)).trans rfl

/-- The loss of a unit aborts its sequencer and does nothing else outside the lanes (R93). -/
theorem core_loseLane (h : t.core = s.core) (hl : (t.lane l).operation = (s.lane l).operation) :
    (t.loseLane l).core = (s.abortOperation l .laneLost).core := by
  have habort : ((t.modLane l Lane.unconfirmed).abortLane l .laneLost).core = (s.abortOperation l .laneLost).core := by
    rw [core_abortLane]
    refine core_abortOperation (t := t.modLane l Lane.unconfirmed) h ?_ _
    rw [State.lane_modLane, if_pos rfl]
    exact hl
  simp only [State.loseLane]
  split
  · rw [core_errorOccurs, habort]
  · exact habort

/-- The statements speak of the core of a state (R92). -/
theorem abortedFor_of_core {ls : List LaneNo} (h : t.core = (ls.foldl (fun u l => u.abortOperation l o) s).core) :
    s.abortedFor t ls o := by
  obtain ⟨htable, hzones, hlog, hpeerQ, -, hpeers, -⟩ := core_iff.1 h
  exact ⟨htable, hzones, hlog, hpeerQ, hpeers⟩

end State
end Sys2Proof.Machine
end

section
/-! SUPPORT. The loss of a unit and the lane reset (R92, R93, R129, R137): the lane and the slots that they leave. -/

namespace Sys2Proof.Machine
namespace State

variable {s t : State} {l m : LaneNo} {o : Outcome}

theorem entryOpen_iff (s : State) (l : LaneNo) :
    s.entryOpen l = true ↔ (s.lane l).state = .opened ∧ (s.lane l).direction ≠ .exit := by
  simp only [State.entryOpen, Lane.granted, Bool.and_eq_true, decide_eq_true_eq]
  refine and_congr_right fun _ => ?_
  split <;> simp_all

theorem granted_eq_exit_iff (n : Lane) : n.granted = .exit ↔ n.direction = .exit := by
  unfold Lane.granted
  split <;> simp_all

theorem lane_loseLane (s : State) (l : LaneNo) : (s.loseLane l).lane l =
    if (s.lane l).state = .closed then { (s.lane l).unconfirmed with mate := none }
    else Lane.cleared .closed { (s.lane l).unconfirmed with mate := none } := by
  have habort : ((s.modLane l Lane.unconfirmed).abortLane l .laneLost).lane l =
      if (s.lane l).state = .closed then { (s.lane l).unconfirmed with mate := none }
      else Lane.cleared .closed { (s.lane l).unconfirmed with mate := none } := by
    rw [lane_abortLane, State.lane_modLane, if_pos rfl]
    rfl
  simp only [State.loseLane]
  split
  · rw [← habort]
    simp [State.lane]
  · exact habort

theorem lane_loseLane_of_ne (h : m ≠ l) : (s.loseLane l).lane m = s.lane m := by
  have habort : ((s.modLane l Lane.unconfirmed).abortLane l .laneLost).lane m = s.lane m := by
    rw [lane_abortLane_of_ne h, State.lane_modLane, if_neg h]
  simp only [State.loseLane]
  split
  · rw [← habort]
    simp [State.lane]
  · exact habort

theorem slot_loseLane (s : State) (l k : LaneNo) : (s.loseLane l).slot k =
    if (s.lane l).state ≠ .closed ∧ k ∈ s.slotsOf l then Slot.queueLamp .closed (s.slot k).endVerdict else s.slot k := by
  have habort : ((s.modLane l Lane.unconfirmed).abortLane l .laneLost).slot k =
      if (s.lane l).state ≠ .closed ∧ k ∈ s.slotsOf l then Slot.queueLamp .closed (s.slot k).endVerdict else s.slot k := by
    rw [slot_abortLane, State.lane_modLane, if_pos rfl]
    rfl
  simp only [State.loseLane]
  split
  · rw [← habort]
    simp [State.slot]
  · exact habort

theorem loseLane_detected (h : (s.lane l).state = .opened) (hd : (s.lane l).direction ≠ .exit) :
    ((s.loseLane l).evu.errors.get 12).detected = true := by
  simp only [State.loseLane, (s.entryOpen_iff l).2 ⟨h, hd⟩, if_true]
  exact errorOccurs_detected .laneLostInPassage (some l) [] _

/-! ## The loss of a slot (R129) -/

/-- The slot, PRESENCE and the sequencer, before the access at the lane ends. -/
def lostUnit (s : State) (l : LaneNo) : State := ((s.modSlot l (Slot.left .lost)).raise .presence (some l.val)).loseLane l

theorem unwinds_lostUnit (s : State) (l : LaneNo) : Unwinds (.presence :: Unwinds.endCauses) s (s.lostUnit l) :=
  ((Unwinds.modSlot s l _).raise (by decide)).trans (((Unwinds.refl _ _).loseLane l).mono (List.subset_cons_self _ _))

theorem lane_raise (s : State) (c : Cause) (d : Option Nat) (m : LaneNo) : (s.raise c d).lane m = s.lane m := by simp [State.lane]

theorem slot_raise (s : State) (c : Cause) (d : Option Nat) (m : LaneNo) : (s.raise c d).slot m = s.slot m := by simp [State.slot]

theorem core_lostUnit (s : State) (l : LaneNo) : (s.lostUnit l).core = (s.abortOperation l .laneLost).core := by
  refine core_loseLane ?_ (by rw [lane_raise]; rfl)
  rw [core_raise]
  rfl

theorem lane_lostUnit (s : State) (l : LaneNo) : (s.lostUnit l).lane l =
    if (s.lane l).state = .closed then { (s.lane l).unconfirmed with mate := none }
    else Lane.cleared .closed { (s.lane l).unconfirmed with mate := none } := by
  rw [lostUnit, lane_loseLane, lane_raise]
  rfl

theorem lane_lostUnit_of_ne (h : m ≠ l) : (s.lostUnit l).lane m = s.lane m := by
  rw [lostUnit, lane_loseLane_of_ne h, lane_raise]
  rfl

/-- The lost slot keeps the Closed display that its lane queues, and nothing else (R129). -/
theorem slot_lostUnit (s : State) (l : LaneNo) : (s.lostUnit l).slot l = { (s.slot l).left .lost with
    lamp := if (s.lane l).state = .closed then none else some .closed } := by
  have hslots : ((s.modSlot l (Slot.left .lost)).raise .presence (some l.val)).slotsOf l = s.slotsOf l :=
    slotsOf_congr (by simp) l
  rw [lostUnit, slot_loseLane, lane_raise, slot_raise, hslots, State.slot_modSlot, if_pos rfl]
  by_cases h : (s.lane l).state = .closed
  · rw [if_neg fun hn => hn.1 h, if_pos h]
    rfl
  · rw [if_pos ⟨h, s.self_mem_slotsOf l⟩, if_neg h]
    rfl

/-- The end of an access leaves every lane as it was and drops its Parameter command alone (R94). -/
theorem slot_failAccess (s : State) (l : LaneNo) (h : (s.slot l).parameterDue = false) : (s.failAccess l).slot l = s.slot l := by
  have hdue : { s.slot l with parameterDue := false } = s.slot l := by rw [← h]
  unfold State.failAccess State.endAccess
  split
  · split
    · next he =>
      simp only [State.slot, State.sendReply_frame, State.raise_frame]
      subst he
      exact (State.slot_modSlot _ _ _ _).trans ((if_pos rfl).trans hdue)
    · rfl
  · rfl

theorem Retains.failAccess (h : Retains s t) (l : LaneNo) : Retains s (t.failAccess l) := by
  unfold State.failAccess
  split
  · next x a _ =>
    split
    · exact ((h.modSlot l fun k => { k with parameterDue := false }).raise .laneAccessDone (some l.val)).of_evu
        (u := t.endAccess x l none) (by simp [State.endAccess]) (by simp [State.endAccess])
    · exact h
  · exact h

theorem failAccess_accessing {h : ReplyHead} {a : Access} (hp : s.mge.phase = .accessing h a) (ha : a.lane = l) :
    s.failAccess l = s.endAccess h l none := by
  simp only [State.failAccess, hp, ha, if_true]

theorem failAccess_other (hp : ∀ h a, s.mge.phase = .accessing h a → a.lane ≠ l) : s.failAccess l = s := by
  unfold State.failAccess
  split
  · next h a he => exact if_neg (hp h a he)
  · rfl

theorem pending_failAccess (s : State) (l : LaneNo) (i : Fin 24) (h : (s.evu.causes.get i).pending = true) :
    ((s.failAccess l).evu.causes.get i).pending = true := by
  unfold State.failAccess State.endAccess
  split
  · split
    · simp only [State.sendReply_frame]
      exact ((Unwinds.modSlot s _ _).raise (A := [.laneAccessDone]) (by decide)).pending i h
    · exact h
  · exact h

/-! ## Replies placed (R174) -/

/-- Placing the parts of a reply touches the Reply Queue and the engine's phase alone. -/
theorem placeParts_trunk (n : Nat) (r : ReplyRest) (s : State) : (s.placeParts n r).trunk = { s.trunk with
    replyQ := (s.placeParts n r).trunk.replyQ } ∧ (s.placeParts n r).mge = { s.mge with phase := (s.placeParts n r).mge.phase } := by
  induction n generalizing r s with
  | zero => exact ⟨rfl, rfl⟩
  | succ n ih =>
    simp only [State.placeParts]
    split
    · split
      · exact ⟨rfl, rfl⟩
      · obtain ⟨htrunk, hmge⟩ := ih { r with part := r.part + 1, rest := _ } (s.pushReply _)
        exact ⟨by rw [htrunk]; rfl, by rw [hmge]; rfl⟩
    · exact ⟨rfl, rfl⟩

/-- How a reply is placed rests on the Reply Queue and the frame size alone (R174). -/
theorem placeParts_congr (n : Nat) (r : ReplyRest) (hq : t.trunk.replyQ = s.trunk.replyQ)
    (hp : t.trunk.maxPayload = s.trunk.maxPayload) : (t.placeParts n r).mge.phase = (s.placeParts n r).mge.phase ∧
      (t.placeParts n r).trunk.replyQ = (s.placeParts n r).trunk.replyQ := by
  induction n generalizing r s t with
  | zero => exact ⟨rfl, hq⟩
  | succ n ih =>
    simp only [State.placeParts, hq, hp]
    split
    · have hpushed (f : TxFrame) : t.trunk.replyQ ++ [f] = s.trunk.replyQ ++ [f] := congrArg (· ++ [f]) hq
      split
      · exact ⟨rfl, hpushed _⟩
      · exact ih _ (hpushed _) hp
    · exact ⟨rfl, hq⟩

theorem core_sendReply (s : State) (h : ReplyHead) (r : Reply) : (s.sendReply h r).core = s.core := by
  obtain ⟨htrunk, -⟩ := placeParts_trunk (Config.replyQueueSize + 1) ⟨h, r.status, r.cause, 0, r.contents⟩ s
  have hpeerQ := congrArg Trunk.peerQ htrunk
  have hpayload := congrArg Trunk.maxPayload htrunk
  simp [core, State.sendReply, hpeerQ, hpayload]

theorem core_failAccess (s : State) (l : LaneNo) : (s.failAccess l).core = s.core := by
  unfold State.failAccess State.endAccess
  split
  · split
    · rw [core_sendReply, core_raise]
      rfl
    · rfl
  · rfl

end State
end Sys2Proof.Machine
end

section
/-! The loss of a slot, a lane reset, the abort of an operation, and the steps due between slots (O30). -/

namespace Sys2Proof.Machine
namespace State

variable {s : State} {l : LaneNo}

/-- The slot left, PRESENCE where it was Active, and the lane command ended, before the sequencer is aborted. -/
def resetUnit (s : State) (l : LaneNo) : State :=
  (if (s.slot l).link = .active then (s.modSlot l fun k => { k.left .absent with resetDue := true }).raise .presence (some l.val)
    else s.modSlot l fun k => { k.left .absent with resetDue := true }).modLane l Lane.unconfirmed

theorem resetLane_eq (s : State) (l : LaneNo) : s.resetLane l = (s.resetUnit l).abortLane l .withdrawn := rfl

theorem unwinds_resetUnit (s : State) (l : LaneNo) : Unwinds [.presence] s (s.resetUnit l) :=
  (Unwinds.ite ((Unwinds.modSlot s l _).raise (by decide)) (Unwinds.modSlot s l _)).trans (Unwinds.lanesOnly (.modLane _ l _))

theorem unwinds_resetUnit_idle (h : (s.slot l).link ≠ .active) : Unwinds [] s (s.resetUnit l) := by
  rw [resetUnit, if_neg h]
  exact (Unwinds.modSlot s l _).trans (Unwinds.lanesOnly (.modLane _ l _))

theorem lane_resetUnit (s : State) (l m : LaneNo) :
    (s.resetUnit l).lane m = if m = l then (s.lane l).unconfirmed else s.lane m := by
  have hlanes : (if (s.slot l).link = .active then
      (s.modSlot l fun k => { k.left .absent with resetDue := true }).raise .presence (some l.val)
      else s.modSlot l fun k => { k.left .absent with resetDue := true }).lane = s.lane := by
    funext k
    split
    · exact lane_raise _ _ _ k
    · rfl
  rw [resetUnit, State.lane_modLane, hlanes]

theorem slot_resetUnit (s : State) (l k : LaneNo) :
    (s.resetUnit l).slot k = if k = l then { (s.slot l).left .absent with resetDue := true } else s.slot k := by
  have hslot : (s.resetUnit l).slot k = (s.modSlot l fun k => { k.left .absent with resetDue := true }).slot k := by
    unfold resetUnit
    split
    · exact slot_raise _ _ _ k
    · rfl
  rw [hslot, State.slot_modSlot]

theorem core_resetUnit (s : State) (l : LaneNo) : (s.resetUnit l).core = s.core := by
  unfold resetUnit
  split
  · exact core_raise _ _ _
  · rfl

theorem core_resetLane (s : State) (l : LaneNo) : (s.resetLane l).core = (s.abortOperation l .withdrawn).core := by
  rw [resetLane_eq, core_abortLane]
  refine core_abortOperation (s.core_resetUnit l) ?_ _
  rw [lane_resetUnit, if_pos rfl]
  rfl

theorem lane_resetLane (s : State) (l : LaneNo) : (s.resetLane l).lane l =
    if (s.lane l).state = .closed then { (s.lane l).unconfirmed with mate := none }
    else Lane.cleared .closed { (s.lane l).unconfirmed with mate := none } := by
  rw [resetLane_eq, lane_abortLane, lane_resetUnit, if_pos rfl]
  rfl

theorem slot_resetLane (s : State) (l k : LaneNo) : (s.resetLane l).slot k =
    let x := if k = l then { (s.slot l).left .absent with resetDue := true } else s.slot k
    if (s.lane l).state ≠ .closed ∧ k ∈ s.slotsOf l then Slot.queueLamp .closed x.endVerdict else x := by
  rw [resetLane_eq, slot_abortLane, slot_resetUnit, lane_resetUnit, if_pos rfl,
    slotsOf_congr (s.unwinds_resetUnit l).pairs]
  rfl

theorem unwinds_resetLane (s : State) (l : LaneNo) : Unwinds (.presence :: Unwinds.endCauses) s (s.resetLane l) :=
  ((s.unwinds_resetUnit l).mono (by decide)).trans (((Unwinds.refl _ _).abortLane l _).mono (List.subset_cons_self _ _))

theorem unwinds_resetLane_idle (h : (s.slot l).link ≠ .active) : Unwinds Unwinds.endCauses s (s.resetLane l) :=
  ((unwinds_resetUnit_idle h).mono (by decide)).trans ((Unwinds.refl _ _).abortLane l _)

/-- PRESENCE stands with the lane after the reset of an Active one (R92). -/
theorem presence_resetLane (h : (s.slot l).link = .active) :
    ((s.resetLane l).evu.causes.get 0).pending = true ∧ ((s.resetLane l).evu.causes.get 0).detail = some l.val := by
  have habort : (s.resetLane l).evu.causes.get 0 = (s.resetUnit l).evu.causes.get 0 :=
    ((Unwinds.refl _ (s.resetUnit l)).abortLane l .withdrawn).others .presence (by decide) (by decide) (by decide)
  have hraise : (s.resetUnit l).evu.causes.get 0 =
      ((s.modSlot l fun k => { k.left .absent with resetDue := true }).raise .presence (some l.val)).evu.causes.get
        (causeIndex .presence) := by
    rw [resetUnit, if_pos h]
    rfl
  rw [habort, hraise, cause_raise _ _ (by decide) (by decide)]
  exact ⟨rfl, rfl⟩

/-- The query of an aborted lane goes to the Lapsed List (R92, R104). -/
theorem peers_abort_querying {q : Query} (h : (s.lane l).state = .querying)
    (hq : (s.peers.queries.find? fun y => decide (y.lane = l)) = some q) (o : Outcome) :
    (s.abortOperation l o).peers.queries = (s.peers.queries.filter fun y => decide (y.lane ≠ l)) ∧
      ∃ e, (s.abortOperation l o).peers.lapsed.getLast? = some e ∧ e.tag = q.tag ∧ e.key = q.key ∧ e.home = q.home ∧
        e.verdict = .aborted := by
  have hquery : s.peers.queryOf l = some q := hq
  have hpeers : (s.abortOperation l o).peers = ((s.dropQuery l).addLapsed q .aborted).peers := by
    simp [State.abortOperation, h, State.abortQuery, hquery]
  rw [hpeers]
  exact ⟨rfl, _, List.getLast?_concat, rfl, rfl, rfl, rfl⟩

theorem testEnded_eq {x : LinkTest} (h : s.link.test = some x) (hb : x.begun = true) : s.testEnded =
    if x.count ≤ s.link.cyclesRun then ({ s with link := { s.link with test := none } } : State).raise .testDone none else s := by
  simp [State.testEnded, Link.testDone, State.endTest, h, hb]
  rfl

theorem testEnded_idle (h : s.link.test = none ∨ ∃ x, s.link.test = some x ∧ x.begun = false) : s.testEnded = s := by
  rcases h with h | ⟨x, h, hb⟩
  · simp [State.testEnded, Link.testDone, h]
  · simp [State.testEnded, Link.testDone, h, hb]

end State

open State in
/-- Settles O30: the lane and slot that a loss and a reset leave, what the abort rests on, and the steps between slots. -/
theorem lossMarkAndTestEnd : Obligations.LossMarkAndTestEnd := by
  unfold Obligations.LossMarkAndTestEnd
  refine ⟨fun s l hlink hrun => ?loss, fun s l hn => ?noLoss, fun s l => ?reset, fun s l o => ?abort, fun s => ?steps⟩
  case loss =>
    intro t
    have ht : t = (s.lostUnit l).failAccess l := rfl
    have hunwound := s.unwinds_lostUnit l
    have hpresence : ((s.lostUnit l).evu.causes.get 0).pending = true :=
      ((Unwinds.refl _ _).loseLane l).pending 0 (by rw [show (0 : Fin 24) = causeIndex .presence from rfl,
        cause_raise _ _ (by decide) (by decide)])
    have hlane (m : LaneNo) : t.lane m = (s.lostUnit l).lane m := by simp [ht, State.lane]
    have hslot : t.slot l = (s.lostUnit l).slot l := slot_failAccess (s.lostUnit l) l (by rw [slot_lostUnit]; rfl)
    have hmge := hunwound.mge
    refine ⟨?_, ?_, ?_, ?_, ?_, ?_, ?_, fun ho hd => ?_, fun m hm => ?_, ?_, fun h a hp ha => ?_, fun hp => ?_, ?_, ?_, ?_, ?_⟩
    · exact congrArg Host.Outcome.next (if_pos (by simp [Slot.losing, hlink, hrun]))
    · rw [hslot, slot_lostUnit]
      rfl
    iterate 4
      rw [hlane, lane_lostUnit]
      split <;> first | rfl | assumption
    · exact pending_failAccess _ l 0 hpresence
    · exact ((Retains.refl _).failAccess l).detected 12 (loseLane_detected (by rw [lane_raise]; exact ho) (by rw [lane_raise]; exact hd))
    · rw [hlane, lane_lostUnit_of_ne hm]
    · exact abortedFor_of_core ((core_failAccess _ l).trans (s.core_lostUnit l))
    · exact ⟨(s.lostUnit l).modSlot l fun k => { k with parameterDue := false }, hmge, hunwound.replyQ,
        hunwound.maxPayload, failAccess_accessing (hmge ▸ hp) ha⟩
    · rw [ht, failAccess_other (hmge ▸ hp), hmge]
    · exact (by simp [ht] : t.policy = (s.lostUnit l).policy).trans hunwound.policy
    · exact (by simp [ht] : t.bank = (s.lostUnit l).bank).trans hunwound.bank
    · exact (by simp [ht] : t.pairs = (s.lostUnit l).pairs).trans hunwound.pairs
    · exact (by simp [ht] : t.now = (s.lostUnit l).now).trans hunwound.now
  case noLoss =>
    have hlosing : (s.slot l).losing = false := by
      rw [Slot.losing, Bool.and_eq_false_iff, decide_eq_false_iff_not, decide_eq_false_iff_not, not_le]
      exact hn
    exact congrArg Host.Outcome.next (if_neg (by simp [hlosing]))
  case reset =>
    intro t n x closed
    have hunwound := s.unwinds_resetLane l
    have hx : x = if n.state = .closed then { n.unconfirmed with mate := none }
        else Lane.cleared .closed { n.unconfirmed with mate := none } := s.lane_resetLane l
    have hcore := s.core_resetLane l
    have hslot (k : LaneNo) : t.slot k = _ := s.slot_resetLane l k
    refine ⟨?_, fun k hk => ?_, ?_, ?_, ?_, ?_, fun hn => ?_, ?_, ?_, ?_, ?_, ?_, ?_, fun m hm => ?_, abortedFor_of_core hcore,
      hunwound.replyQ, hunwound.reportQ, presence_resetLane,
      fun h => (unwinds_resetLane_idle h).others .presence (by decide) (by decide) (by decide), fun q hq hf => ?_,
      hunwound.mge, hunwound.policy, hunwound.bank, hunwound.pairs, hunwound.now⟩
    · rw [hslot, if_pos rfl]
      by_cases h : (s.lane l).state = .closed
      · rw [if_neg fun hn => hn.1 h, show n.state = .closed from h]
        rfl
      · rw [if_pos ⟨h, s.self_mem_slotsOf l⟩, if_neg (show ¬n.state = .closed from h)]
        rfl
    · rw [hslot, if_neg hk]
      by_cases hmem : k ∈ s.slotsOf l
      · by_cases h : (s.lane l).state = .closed
        · rw [if_neg fun hn => hn.1 h, if_pos hmem]
          exact (if_pos h).symm
        · rw [if_pos ⟨h, hmem⟩, if_pos hmem, Slot.endVerdict_eq]
          exact (if_neg h).symm
      · rw [if_neg fun hn => hmem hn.2, if_neg hmem]
    iterate 4
      rw [hx]
      split <;> first | rfl | assumption
    · rw [hx, if_neg hn]
      exact ⟨rfl, rfl, rfl, rfl, rfl, rfl⟩
    iterate 6
      rw [hx]
      split <;> rfl
    · rw [show t = (s.resetUnit l).abortLane l .withdrawn from rfl, lane_abortLane_of_ne hm, lane_resetUnit, if_neg hm]
    · rw [show t.peers = (s.abortOperation l .withdrawn).peers from congrArg Core.peers hcore]
      exact peers_abort_querying hq hf _
  case abort =>
    intro n
    refine ⟨fun ho hd => ?_, fun q hq hf => ?_, fun h => ?_⟩
    · simp only [State.abortOperation, show (s.lane l).state = .opened from ho]
      exact if_neg fun hg => hd ((granted_eq_exit_iff n).1 hg)
    · have hquery : s.peers.queryOf l = some q := hf
      simp only [State.abortOperation, show (s.lane l).state = .querying from hq, State.abortQuery, hquery]
      rfl
    · rcases h with h | h | h | ⟨h, hd⟩
      · exact abortOperation_none (by simp [Lane.operation, show (s.lane l).state = .idle from h]) o
      · exact abortOperation_none (by simp [Lane.operation, show (s.lane l).state = .refusing from h]) o
      · exact abortOperation_closed h
      · simp only [State.abortOperation, show (s.lane l).state = .opened from h]
        exact if_pos ((granted_eq_exit_iff n).2 hd)
  case steps =>
    refine ⟨fun l m hc hm hh => countMate_of_marked hc hm hh, fun l h => countMate_of_unmarked (not_isMarked_of_head h),
      fun l hm => ?_, fun l m hm => ⟨fun h2 => ?_, fun h2 => ?_⟩, fun l n m hl hc hn hm hh => ?_,
      fun h => congrArg Host.Outcome.next (testEnded_idle h), fun x hx hb => ⟨fun hc => ?_, fun hc => ?_⟩⟩
    · exact congrArg Host.Outcome.next (if_neg (by simp [Lane.mateDone, hm]))
    · exact congrArg Host.Outcome.next (if_pos (by simp [Lane.mateDone, hm, h2]))
    · exact congrArg Host.Outcome.next (if_neg (by simp [Lane.mateDone, hm, h2]))
    · have hreply := s.goodReply_active l n .nothing hl hn nofun
      have hheard : (s.heardReport l n).countMate l = _ := countMate_of_marked (s := s.heardReport l n) hc hm hh
      exact congrArg Host.Outcome.next (hreply.trans (by rw [State.handOn, hheard]; rfl))
    · exact congrArg Host.Outcome.next ((testEnded_eq hx hb).trans (if_pos hc))
    · exact congrArg Host.Outcome.next ((testEnded_eq hx hb).trans (if_neg (by omega)))

end Sys2Proof.Machine
end

section
/-! SUPPORT. The stop of the lane link (R136): each lane in turn, the slots, the access in flight, and what the stop rests on. -/

namespace Sys2Proof.Machine
namespace State

variable {s t u : State} {l m : LaneNo}

/-! ## One lane at the stop -/

theorem stopLane_active (h : (s.slot l).link = .active) : s.stopLane l = (s.raise .presence (some l.val)).loseLane l := if_pos h

theorem stopLane_idle (h : (s.slot l).link ≠ .active) : s.stopLane l = s := if_neg h

theorem unwinds_stopLane (s : State) (l : LaneNo) : Unwinds (.presence :: Unwinds.endCauses) s (s.stopLane l) :=
  Unwinds.ite (((Unwinds.refl _ s).raise (by decide)).trans
    (((Unwinds.refl _ _).loseLane l).mono (List.subset_cons_self _ _))) (Unwinds.refl _ s)

theorem lane_stopLane_of_ne (h : m ≠ l) : (s.stopLane l).lane m = s.lane m := by
  unfold State.stopLane
  split
  · rw [lane_loseLane_of_ne h, lane_raise]
  · rfl

/-- The lane of an Active slot is CLOSED without a mark. -/
theorem lane_stopLane_active (h : (s.slot l).link = .active) :
    ((s.stopLane l).lane l).state = .closed ∧ ((s.stopLane l).lane l).mate = none := by
  rw [stopLane_active h, lane_loseLane, lane_raise]
  split
  · next hc => exact ⟨hc, rfl⟩
  · exact ⟨rfl, rfl⟩

/-- The abort at one lane leaves every slot's link state, and what else the stop keeps of it. -/
theorem slot_stopLane (s : State) (l k : LaneNo) :
    ((s.stopLane l).slot k).link = (s.slot k).link ∧ ((s.stopLane l).slot k).stopped = (s.slot k).stopped := by
  unfold State.stopLane
  split
  · rw [slot_loseLane, slot_raise]
    split
    · rw [Slot.endVerdict_eq]
      exact ⟨rfl, rfl⟩
    · exact ⟨rfl, rfl⟩
  · exact ⟨rfl, rfl⟩

theorem core_stopLane_active (ht : t.core = s.core)
    (hl : (t.lane l).operation = (s.lane l).operation) (ha : (t.slot l).link = .active) :
    (t.stopLane l).core = (s.abortOperation l .laneLost).core := by
  rw [stopLane_active ha]
  exact core_loseLane ((core_raise _ _ _).trans ht) (by rw [lane_raise]; exact hl)

theorem presence_stopLane (h : (s.slot l).link = .active) : ((s.stopLane l).evu.causes.get 0).pending = true ∧
    ((s.stopLane l).evu.causes.get 0).detail = some l.val := by
  have hlost : (s.stopLane l).evu.causes.get 0 = (s.raise .presence (some l.val)).evu.causes.get (causeIndex .presence) := by
    rw [stopLane_active h]
    exact ((Unwinds.refl _ _).loseLane l).others .presence (by decide) (by decide) (by decide)
  rw [hlost, cause_raise _ _ (by decide) (by decide)]
  exact ⟨rfl, rfl⟩

theorem stopLane_detected (h : (s.slot l).link = .active) (ho : (s.lane l).state = .opened) (hd : (s.lane l).direction ≠ .exit) :
    ((s.stopLane l).evu.errors.get 12).detected = true := by
  rw [stopLane_active h]
  exact loseLane_detected (by rwa [lane_raise]) (by rwa [lane_raise])

/-! ## The lanes in turn -/

/-- The lanes of a list at the stop, in turn. -/
def stopLanes (s : State) (ls : List LaneNo) : State := ls.foldl (fun u l => u.stopLane l) s

theorem stopLanes_append (s : State) (front back : List LaneNo) : s.stopLanes (front ++ back) = (s.stopLanes front).stopLanes back :=
  List.foldl_append

theorem unwinds_stopLanes (ls : List LaneNo) (s : State) : Unwinds (.presence :: Unwinds.endCauses) s (s.stopLanes ls) := by
  induction ls generalizing s with
  | nil => exact .refl _ s
  | cons l ls ih => exact (s.unwinds_stopLane l).trans (ih _)

theorem retains_stopLanes (ls : List LaneNo) (s : State) : Retains s (s.stopLanes ls) :=
  (Retains.refl s).foldl (fun _ l hu => hu.stopLane l) ls

theorem lane_stopLanes_of_notMem {ls : List LaneNo} (h : l ∉ ls) (s : State) : (s.stopLanes ls).lane l = s.lane l := by
  induction ls generalizing s with
  | nil => rfl
  | cons m ls ih =>
    obtain ⟨hm, hls⟩ : l ≠ m ∧ l ∉ ls := by rwa [List.mem_cons, not_or] at h
    exact (ih hls _).trans (lane_stopLane_of_ne hm)

theorem slot_stopLanes (ls : List LaneNo) (s : State) (k : LaneNo) :
    ((s.stopLanes ls).slot k).link = (s.slot k).link ∧ ((s.stopLanes ls).slot k).stopped = (s.slot k).stopped := by
  induction ls generalizing s with
  | nil => exact ⟨rfl, rfl⟩
  | cons l ls ih =>
    obtain ⟨hlink, hstopped⟩ := ih (s.stopLane l)
    obtain ⟨hlink', hstopped'⟩ := s.slot_stopLane l k
    exact ⟨hlink.trans hlink', hstopped.trans hstopped'⟩

theorem stopLanes_idle {ls : List LaneNo} (h : ∀ l ∈ ls, (s.slot l).link ≠ .active) : s.stopLanes ls = s := by
  induction ls with
  | nil => rfl
  | cons l ls ih =>
    show (s.stopLane l).stopLanes ls = s
    rw [stopLane_idle (h l List.mem_cons_self)]
    exact ih fun m hm => h m (List.mem_cons_of_mem l hm)

/-- A lane is stopped as it is at the start, whatever the lanes before it do, and as it then stays. -/
theorem stopLanes_at {ls : List LaneNo} (hd : ls.Nodup) (hl : l ∈ ls) (s : State) : ∃ (u : State) (back : List LaneNo),
    s.stopLanes ls = (u.stopLane l).stopLanes back ∧ u.lane l = s.lane l ∧ (∀ k, (u.slot k).link = (s.slot k).link) ∧
      l ∉ back ∧ (∀ m ∈ back, m ∈ ls) ∧ (ls.Pairwise (· < ·) → ∀ m ∈ back, l < m) := by
  obtain ⟨front, back, rfl⟩ := List.append_of_mem hl
  obtain ⟨-, hd, hdisjoint⟩ := List.nodup_append.1 hd
  have hfront : l ∉ front := fun hm => hdisjoint l hm l List.mem_cons_self rfl
  refine ⟨s.stopLanes front, back, stopLanes_append s front (l :: back), lane_stopLanes_of_notMem hfront s,
    fun k => (slot_stopLanes front s k).1, (List.nodup_cons.1 hd).1, fun m hm => by simp [hm], fun hp m hm => ?_⟩
  exact List.rel_of_pairwise_cons (List.pairwise_append.1 hp).2.1 hm

theorem lane_stopLanes_active {ls : List LaneNo} (hd : ls.Nodup) (hl : l ∈ ls) (ha : (s.slot l).link = .active) :
    ((s.stopLanes ls).lane l).state = .closed ∧ ((s.stopLanes ls).lane l).mate = none := by
  obtain ⟨u, back, heq, -, hlink, hback, -⟩ := stopLanes_at hd hl s
  rw [heq, lane_stopLanes_of_notMem hback]
  exact lane_stopLane_active ((hlink l).trans ha)

theorem stopLanes_detected {ls : List LaneNo} (hd : ls.Nodup) (hl : l ∈ ls) (ha : (s.slot l).link = .active)
    (ho : (s.lane l).state = .opened) (hdir : (s.lane l).direction ≠ .exit) :
    ((s.stopLanes ls).evu.errors.get 12).detected = true := by
  obtain ⟨u, back, heq, hlane, hlink, -⟩ := stopLanes_at hd hl s
  rw [heq]
  exact (retains_stopLanes back _).detected 12 (stopLane_detected ((hlink l).trans ha) (by rwa [hlane]) (by rwa [hlane]))

theorem presence_stopLanes {ls : List LaneNo} (hd : ls.Nodup) (hl : l ∈ ls) (ha : (s.slot l).link = .active) :
    ((s.stopLanes ls).evu.causes.get 0).pending = true := by
  obtain ⟨u, back, heq, -, hlink, -⟩ := stopLanes_at hd hl s
  rw [heq]
  exact (unwinds_stopLanes back _).pending 0 (presence_stopLane ((hlink l).trans ha)).1

/-- The last lane whose slot was Active stands in the detail of PRESENCE (log entry 48). -/
theorem presence_stopLanes_last {ls : List LaneNo} (hd : ls.Nodup) (hp : ls.Pairwise (· < ·)) (hl : l ∈ ls)
    (ha : (s.slot l).link = .active) (hlast : ∀ m, l < m → (s.slot m).link ≠ .active) :
    ((s.stopLanes ls).evu.causes.get 0).detail = some l.val := by
  obtain ⟨u, back, heq, -, hlink, -, -, hafter⟩ := stopLanes_at hd hl s
  rw [heq, stopLanes_idle fun m hm => by
    rw [(slot_stopLane u l m).1, hlink]
    exact hlast m (hafter hp m hm)]
  exact (presence_stopLane ((hlink l).trans ha)).2

/-- The lanes with an Active slot are aborted in turn, and nothing else is done outside the lanes. -/
theorem core_stopLanes {ls : List LaneNo} (hd : ls.Nodup) (hc : t.core = s.core)
    (hl : ∀ l ∈ ls, (t.lane l).operation = (s.lane l).operation) : (t.stopLanes ls).core =
      ((ls.filter fun l => decide ((t.slot l).link = .active)).foldl (fun u l => u.abortOperation l .laneLost) s).core := by
  induction ls generalizing s t with
  | nil => exact hc
  | cons l ls ih =>
    obtain ⟨hn, hd⟩ := List.nodup_cons.1 hd
    have hlinks : (fun m => decide (((t.stopLane l).slot m).link = .active)) = fun m => decide ((t.slot m).link = .active) := by
      funext m
      rw [(slot_stopLane t l m).1]
    have hne {m : LaneNo} (hm : m ∈ ls) : m ≠ l := fun he => hn (he ▸ hm)
    by_cases ha : (t.slot l).link = .active
    · have hstep := ih (s := s.abortOperation l .laneLost) (t := t.stopLane l) hd
        (core_stopLane_active hc (hl l List.mem_cons_self) ha) fun m hm => by
          rw [lane_stopLane_of_ne (hne hm), lane_abortOperation_of_ne (hne hm)]
          exact hl m (List.mem_cons_of_mem l hm)
      rw [hlinks] at hstep
      rw [List.filter_cons_of_pos (by simpa using ha)]
      exact hstep
    · rw [List.filter_cons_of_neg (by simpa using ha)]
      show ((t.stopLane l).stopLanes ls).core = _
      rw [stopLane_idle ha]
      exact ih hd hc fun m hm => hl m (List.mem_cons_of_mem l hm)

end State
end Sys2Proof.Machine
end

section
/-! SUPPORT. The link stopped whole (R136), from what the stop rests on to what follows it. -/

namespace Sys2Proof.Machine
namespace State

variable {s t u : State} {l m : LaneNo}

/-! ## The access in flight (R94) -/

theorem failAnyAccess_accessing {h : ReplyHead} {a : Access} (hp : s.mge.phase = .accessing h a) :
    s.failAnyAccess = s.endAccess h a.lane none := by
  simp only [State.failAnyAccess, hp]

theorem failAnyAccess_other (hp : ∀ h a, s.mge.phase ≠ .accessing h a) : s.failAnyAccess = s := by
  unfold State.failAnyAccess
  split
  · next h a he => exact absurd he (hp h a)
  · rfl

theorem lane_failAnyAccess (s : State) (m : LaneNo) : s.failAnyAccess.lane m = s.lane m := by
  unfold State.failAnyAccess State.lane
  split <;> simp

theorem core_failAnyAccess (s : State) : s.failAnyAccess.core = s.core := by
  unfold State.failAnyAccess State.endAccess
  split
  · rw [core_sendReply, core_raise]
    rfl
  · rfl

theorem slot_failAnyAccess (k : LaneNo) (h : ∀ l, (s.slot l).parameterDue = false) : s.failAnyAccess.slot k = s.slot k := by
  have hdue : (s.modSlot k fun k => { k with parameterDue := false }).slot k = s.slot k := by
    rw [State.slot_modSlot, if_pos rfl, ← h k]
  unfold State.failAnyAccess State.endAccess
  split
  · next x a _ =>
    have hraise : ((((s.modSlot a.lane fun k => { k with parameterDue := false }).raise .laneAccessDone (some a.lane.val)).sendReply x
        (Reply.refuse .failed)).slot k) = (s.modSlot a.lane fun k => { k with parameterDue := false }).slot k := by
      simp only [State.slot, State.sendReply_frame, State.raise_frame]
    refine hraise.trans ?_
    by_cases he : k = a.lane
    · subst he
      exact hdue
    · rw [State.slot_modSlot, if_neg he]
  · rfl

/-- The end of the access raises LANE_ACCESS_DONE alone. -/
theorem presence_failAnyAccess (s : State) : s.failAnyAccess.evu.causes.get 0 = s.evu.causes.get 0 := by
  unfold State.failAnyAccess State.endAccess
  split
  · simp only [State.sendReply_frame]
    exact ((Unwinds.modSlot s _ _).raise (A := [.laneAccessDone]) (by decide)).others .presence (by decide) (by decide)
      (by decide)
  · rfl

theorem pending_failAnyAccess (s : State) (i : Fin 24) (h : (s.evu.causes.get i).pending = true) :
    (s.failAnyAccess.evu.causes.get i).pending = true := by
  unfold State.failAnyAccess State.endAccess
  split
  · simp only [State.sendReply_frame]
    exact ((Unwinds.modSlot s _ _).raise (A := [.laneAccessDone]) (by decide)).pending i h
  · exact h

/-- The access ends FAILED, as a reply placed in the queue as it stands. -/
theorem endAccess_done (h : ReplyHead) (hq : t.trunk.replyQ = s.trunk.replyQ) (hm : t.trunk.maxPayload = s.trunk.maxPayload) :
    let u := t.endAccess h l none
    (u.evu.causes.get 15).pending = true ∧ (u.evu.causes.get 15).detail = some l.val ∧
      u.mge.phase = (s.sendReply h (Reply.refuse .failed)).mge.phase ∧
      u.trunk.replyQ = (s.sendReply h (Reply.refuse .failed)).trunk.replyQ := by
  intro u
  have hcause : u.evu.causes.get 15 = ((t.modSlot l fun k => { k with parameterDue := false }).raise .laneAccessDone
      (some l.val)).evu.causes.get (causeIndex .laneAccessDone) := by
    simp only [u, State.endAccess, State.sendReply_frame]
    rfl
  have hplaced := placeParts_congr (s := s) (t := (t.modSlot l fun k => { k with parameterDue := false }).raise .laneAccessDone
    (some l.val)) (Config.replyQueueSize + 1) ⟨h, .refused, .failed, 0, []⟩ (by simpa using hq) (by simpa using hm)
  rw [hcause, cause_raise _ _ (by decide) (by decide)]
  exact ⟨rfl, rfl, hplaced⟩

/-! ## The whole stop -/

/-- The link at its stop, once the lanes have been aborted and before the access in flight ends. -/
def quieted (u : State) : State :=
  { u with
    lanes := updAll u.lanes Lane.stopped,
    link := { u.link with
      running := false, stopping := false, awaiting := false, trigger := false, slots := updAll u.link.slots Slot.stopped } }

theorem haltLink_eq (s : State) : s.haltLink = (s.stopLanes allLanes).quieted.failAnyAccess := by
  have hlanes : s.stopLanes allLanes = s.eachLane State.stopLane := rfl
  rw [hlanes]
  simp only [State.haltLink]
  generalize s.eachLane State.stopLane = u
  rfl

theorem state_stopped (n : Lane) : n.stopped.state = n.state := rfl

theorem mate_stopped (n : Lane) : n.stopped.mate = n.mate := rfl

theorem lane_quieted (u : State) (l : LaneNo) : u.quieted.lane l = (u.lane l).stopped := get_updAll _ _ _

theorem slot_quieted (u : State) (l : LaneNo) : u.quieted.slot l = (u.slot l).stopped := get_updAll _ _ _

theorem core_quieted (u : State) : u.quieted.core = u.core := rfl

theorem rest_quieted (u : State) : u.quieted.mge = u.mge ∧ u.quieted.trunk = u.trunk ∧ u.quieted.evu = u.evu ∧
    u.quieted.bcm = u.bcm ∧ u.quieted.policy = u.policy := ⟨rfl, rfl, rfl, rfl, rfl⟩

theorem lane_haltLink (s : State) (l : LaneNo) : s.haltLink.lane l = ((s.stopLanes allLanes).lane l).stopped := by
  rw [haltLink_eq, lane_failAnyAccess, lane_quieted]

theorem slot_haltLink (s : State) (l : LaneNo) : s.haltLink.slot l = (s.slot l).stopped := by
  rw [haltLink_eq, slot_failAnyAccess l fun k => by rw [slot_quieted]; rfl, slot_quieted, (slot_stopLanes allLanes s l).2]

theorem core_haltLink (s : State) : s.haltLink.core = (s.stopLanes allLanes).core := by
  rw [haltLink_eq, core_failAnyAccess, core_quieted]

theorem presence_haltLink (s : State) : s.haltLink.evu.causes.get 0 = (s.stopLanes allLanes).evu.causes.get 0 := by
  rw [haltLink_eq, presence_failAnyAccess, (rest_quieted _).2.2.1]

theorem haltLink_detected (s : State) (h : ((s.stopLanes allLanes).evu.errors.get 12).detected = true) :
    (s.haltLink.evu.errors.get 12).detected = true := by
  rw [haltLink_eq]
  exact ((Retains.refl _).failAnyAccess).detected 12 (by rwa [(rest_quieted _).2.2.1])

/-- What the stop of the link leaves (R136). -/
theorem linkStopped_haltLink (s : State) : s.linkStopped s.haltLink := by
  have hd : allLanes.Nodup := List.nodup_finRange 16
  have hsorted : allLanes.Pairwise (· < ·) := List.pairwise_lt_finRange 16
  have hmem (l : LaneNo) : l ∈ allLanes := List.mem_finRange l
  have hunwound := unwinds_stopLanes allLanes s
  have hcore := core_stopLanes (s := s) (t := s) hd rfl fun _ _ => rfl
  obtain ⟨hmge, htrunk, -⟩ := rest_quieted (s.stopLanes allLanes)
  refine ⟨fun l => ?_, fun l => ?_, abortedFor_of_core ((core_haltLink s).trans hcore),
    fun l ha => ⟨?_, ?_, ?_, fun hlast => ?_, fun ho hdir => haltLink_detected s (stopLanes_detected hd (hmem l) ha ho hdir)⟩,
    fun h a hp => ?_, fun hp => ?_⟩
  · rw [slot_haltLink]
    rfl
  · rw [lane_haltLink]
    exact ⟨rfl, rfl⟩
  · rw [lane_haltLink, state_stopped]
    exact (lane_stopLanes_active hd (hmem l) ha).1
  · rw [lane_haltLink, mate_stopped]
    exact (lane_stopLanes_active hd (hmem l) ha).2
  · rw [presence_haltLink s]
    exact presence_stopLanes (s := s) hd (hmem l) ha
  · rw [presence_haltLink s]
    exact presence_stopLanes_last (s := s) hd hsorted (hmem l) ha hlast
  · rw [haltLink_eq, failAnyAccess_accessing (h := h) (a := a) (by rw [hmge, hunwound.mge, hp])]
    exact endAccess_done h (by rw [htrunk, hunwound.replyQ]) (by rw [htrunk, hunwound.maxPayload])
  · rw [haltLink_eq, failAnyAccess_other fun h a => by rw [hmge, hunwound.mge]; exact hp h a, hmge, hunwound.mge, htrunk]
    exact ⟨rfl, hunwound.replyQ⟩

end State
end Sys2Proof.Machine
end

section
/-! SUPPORT. The stop of the link, with what the bank does before and after it: what of the state the stop reads, what may follow
it, and how it leaves the link where it releases no STANDBY. -/

namespace Sys2Proof.Machine
namespace State

variable {s t u : State} {l m : LaneNo}

/-- The stop finds in `u` what it finds in `s`. -/
structure StopAlike (s u : State) : Prop where
  stopped : ∀ l, (u.slot l).stopped = (s.slot l).stopped
  link : ∀ l, (u.slot l).link = (s.slot l).link
  operation : ∀ l, (u.lane l).operation = (s.lane l).operation
  core : u.core = s.core
  accessing : ∀ h a, s.mge.phase = .accessing h a → ∃ b, u.mge.phase = .accessing h b ∧ b.lane = a.lane
  idle : (∀ h a, s.mge.phase ≠ .accessing h a) → u.mge.phase = s.mge.phase
  replyQ : u.trunk.replyQ = s.trunk.replyQ

theorem opened_of_operation {n x : Lane} (h : x.operation = n.operation) (ho : n.state = .opened) (hd : n.direction ≠ .exit) :
    x.state = .opened ∧ x.direction ≠ .exit := by
  have hn : n.operation = some (n.state, n.granted, n.key, n.result, n.reservation) := if_pos (.inl ho)
  rw [hn, Lane.operation] at h
  split at h
  · obtain ⟨hs, hg, -⟩ : x.state = n.state ∧ x.granted = n.granted ∧ _ := by simpa using h
    exact ⟨hs.trans ho, fun hx => hd ((granted_eq_exit_iff n).1 (hg ▸ (granted_eq_exit_iff x).2 hx))⟩
  · cases h

theorem linkStopped_of_alike (h : StopAlike s u) (hu : u.linkStopped t) : s.linkStopped t := by
  obtain ⟨hslot, hlane, habort, hactive, haccess, hidle⟩ := hu
  have hlinks : (fun l => decide ((u.slot l).link = .active)) = fun l => decide ((s.slot l).link = .active) := by
    funext l
    rw [h.link]
  refine ⟨fun l => (hslot l).trans (h.stopped l), hlane, ?_, fun l ha => ?_, fun x a hp => ?_, fun hp => ?_⟩
  · obtain ⟨htable, hzones, hlog, hpeerQ, hpeers⟩ := habort
    have hcore := core_iff.1 (core_foldl_abort (ls := (List.finRange 16).filter fun l => decide ((s.slot l).link = .active))
      ((List.nodup_finRange 16).filter _) h.core (fun l _ => h.operation l) .laneLost)
    rw [hlinks] at htable hzones hlog hpeerQ hpeers
    obtain ⟨ctable, czones, clog, cpeerQ, -, cpeers, -⟩ := hcore
    exact ⟨htable.trans ctable, hzones.trans czones, hlog.trans clog, hpeerQ.trans cpeerQ, hpeers.trans cpeers⟩
  · obtain ⟨hclosed, hmate, hpending, hlast, hlost⟩ := hactive l ((h.link l).trans ha)
    refine ⟨hclosed, hmate, hpending, fun hm => hlast fun m hlt => by rw [h.link]; exact hm m hlt, fun ho hd => ?_⟩
    obtain ⟨ho, hd⟩ := opened_of_operation (h.operation l) ho hd
    exact hlost ho hd
  · obtain ⟨b, hb, hba⟩ := h.accessing x a hp
    obtain ⟨hphase, hreply⟩ := placeParts_congr (s := s) (t := u) (Config.replyQueueSize + 1) ⟨x, .refused, .failed, 0, []⟩
      h.replyQ (congrArg Core.maxPayload h.core)
    obtain ⟨hpending, hdetail, hp, hq⟩ := haccess x b hb
    exact ⟨hpending, hba ▸ hdetail, hp.trans hphase, hq.trans hreply⟩
  · have hphase := h.idle hp
    obtain ⟨hx, hy⟩ := hidle fun x a he => hp x a (hphase ▸ he)
    exact ⟨hx.trans hphase, hy.trans h.replyQ⟩

/-- What follows the stop and leaves what it names as it was. -/
structure StopKept (t u : State) : Prop where
  slots : u.link.slots = t.link.slots
  lanes : u.lanes = t.lanes
  table : u.table = t.table
  zones : u.zones = t.zones
  log : u.log = t.log
  peerQ : u.trunk.peerQ = t.trunk.peerQ
  peers : u.peers = t.peers
  replyQ : u.trunk.replyQ = t.trunk.replyQ
  phase : u.mge.phase = t.mge.phase
  presence : u.evu.causes.get 0 = t.evu.causes.get 0
  access : u.evu.causes.get 15 = t.evu.causes.get 15
  detected : (t.evu.errors.get 12).detected = true → (u.evu.errors.get 12).detected = true

theorem linkStopped_of_kept (h : s.linkStopped t) (k : StopKept t u) : s.linkStopped u := by
  obtain ⟨hslot, hlane, ⟨htable, hzones, hlog, hpeerQ, hpeers⟩, hactive, haccess, hidle⟩ := h
  have hs (l : LaneNo) : u.slot l = t.slot l := congrArg (Vector.get · l) k.slots
  have hl (l : LaneNo) : u.lane l = t.lane l := congrArg (Vector.get · l) k.lanes
  refine ⟨fun l => (hs l).trans (hslot l), fun l => by rw [hl]; exact hlane l,
    ⟨k.table.trans htable, k.zones.trans hzones, k.log.trans hlog, k.peerQ.trans hpeerQ, k.peers.trans hpeers⟩,
    fun l ha => ?_, fun x a hp => ?_, fun hp => ?_⟩
  · rw [hl, k.presence]
    obtain ⟨hclosed, hmate, hpending, hlast, hlost⟩ := hactive l ha
    exact ⟨hclosed, hmate, hpending, hlast, fun ho hd => k.detected (hlost ho hd)⟩
  · rw [k.access, k.phase, k.replyQ]
    exact haccess x a hp
  · rw [k.phase, k.replyQ]
    exact hidle hp

/-! ## Where no STANDBY is released (R158, R159) -/

theorem raise_calm (h : s.bcm.mode ≠ .standby ∨ s.bcm.entering = true) (c : Cause) (d : Option Nat) :
    s.raise c d = s.raiseQuiet c d := by
  refine if_neg ?_
  simp only [State.releasedBy, Bool.and_eq_true, decide_eq_true_eq, Bool.not_eq_true']
  rintro ⟨⟨⟨hm, he⟩, -⟩, -⟩
  rcases h with h | h
  · exact h hm
  · exact nomatch he.symm.trans h

theorem bcm_failAnyAccess (h : s.bcm.mode ≠ .standby ∨ s.bcm.entering = true) :
    s.failAnyAccess.bcm = s.bcm ∧ s.failAnyAccess.link = { s.link with slots := s.failAnyAccess.link.slots } := by
  unfold State.failAnyAccess State.endAccess
  split
  · next x a _ =>
    rw [raise_calm (s := s.modSlot a.lane fun k => { k with parameterDue := false }) h]
    simp [State.modSlot]
  · exact ⟨rfl, rfl⟩

/-- The aborts, the slots, and the access in flight (R136). -/
theorem haltLink_via (s : State) :
    ∃ w, Unwinds (.presence :: Unwinds.endCauses) s w ∧ s.haltLink = w.quieted.failAnyAccess :=
  ⟨_, unwinds_stopLanes allLanes s, haltLink_eq s⟩

/-- The stop leaves the mode, and of the link its place in the cycle, its settings and its test. -/
theorem bcm_haltLink (h : s.bcm.mode ≠ .standby ∨ s.bcm.entering = true) :
    s.haltLink.bcm = s.bcm ∧ s.haltLink.link = { s.link with
    running := false, stopping := false, awaiting := false, trigger := false, slots := s.haltLink.link.slots } := by
  obtain ⟨w, hunwound, hw⟩ := s.haltLink_via
  obtain ⟨hmode, hlink, -⟩ := hunwound.calm h
  have hbcm : w.quieted.bcm = s.bcm := by rw [(rest_quieted w).2.2.2.1, hunwound.bcm, hmode]
  obtain ⟨hb, hl⟩ := bcm_failAnyAccess (s := w.quieted) (by rw [hbcm]; exact h)
  rw [hw]
  refine ⟨hb.trans hbcm, hl.trans ?_⟩
  generalize w.quieted.failAnyAccess.link.slots = v
  simp only [quieted]
  rw [hlink]

@[simp] theorem failAnyAccess_frame (s : State) : s.failAnyAccess.now = s.now ∧ s.failAnyAccess.bank = s.bank ∧
    s.failAnyAccess.policy = s.policy ∧ s.failAnyAccess.pairs = s.pairs ∧ s.failAnyAccess.bcm.clock = s.bcm.clock ∧
    s.failAnyAccess.table = s.table ∧ s.failAnyAccess.zones = s.zones ∧ s.failAnyAccess.log = s.log := by
  unfold State.failAnyAccess
  split <;> simp

@[simp] theorem haltLink_frame (s : State) : s.haltLink.now = s.now ∧ s.haltLink.bank = s.bank ∧ s.haltLink.policy = s.policy ∧
    s.haltLink.pairs = s.pairs := by
  obtain ⟨w, hunwound, hw⟩ := s.haltLink_via
  obtain ⟨hnow, hbank, hpolicy, hpairs, -⟩ := failAnyAccess_frame w.quieted
  rw [hw]
  exact ⟨hnow.trans hunwound.now, hbank.trans hunwound.bank, hpolicy.trans hunwound.policy, hpairs.trans hunwound.pairs⟩

theorem pending_haltLink (s : State) (i : Fin 24) (h : (s.evu.causes.get i).pending = true) :
    (s.haltLink.evu.causes.get i).pending = true := by
  obtain ⟨w, hunwound, hw⟩ := s.haltLink_via
  rw [hw]
  exact pending_failAnyAccess w.quieted i (hunwound.pending i h)

theorem queue_failAnyAccess (s : State) : s.failAnyAccess.mge.queue = s.mge.queue := by
  unfold State.failAnyAccess State.endAccess State.sendReply
  split
  · rw [(placeParts_trunk _ _ _).2]
    simp
  · rfl

/-- The requests that wait stay in their queue (R136). -/
theorem queue_haltLink (s : State) : s.haltLink.mge.queue = s.mge.queue := by
  obtain ⟨w, hunwound, hw⟩ := s.haltLink_via
  rw [hw, queue_failAnyAccess]
  exact congrArg Mge.queue hunwound.mge

end State
end Sys2Proof.Machine
end

section
/-! A new lane cycle, and the end of a slot with the stop of the link (O23). -/

namespace Sys2Proof.Machine
namespace State

variable {s : State} {l : LaneNo}

/-! ## The cycle (R123, R133) -/

/-- Cycle parity alone changes as the parity alternates. -/
theorem flag_flipParity (s : State) (x : FlagSource) :
    s.flipParity.flag x = if x = .cycleParity then !s.link.parity else s.flag x := by
  have hflag : s.flipParity.flag = (s.modLink fun k => { k with parity := !k.parity }).flag := flag_flagging s _
  rw [hflag]
  cases x <;> rfl

theorem trigger_flipParity (s : State) : s.flipParity.link.trigger = true ↔ s.link.trigger = true ∨
    (s.link.settings.bankWord = true ∧ ∃ p : Fin 8, s.link.settings.select.get p = .cycleParity ∧
      ((s.link.parity = false ∧ s.link.settings.rising.getLsbD p.val = true) ∨
        (s.link.parity = true ∧ s.link.settings.falling.getLsbD p.val = true))) := by
  have htriggers : s.triggers s.flipParity := s.triggers_flagging rfl
  refine Iff.trans htriggers (or_congr_right (and_congr_right fun _ => exists_congr fun p => ?_))
  rw [flag_flipParity]
  by_cases hx : s.link.settings.select.get p = .cycleParity
  · rw [if_pos hx, hx]
    show (_ ∧ s.link.parity = false ∧ _) ∨ (_ ∧ s.link.parity = true ∧ _) ↔ _
    cases s.link.parity <;> simp
  · rw [if_neg hx]
    cases s.flag (s.link.settings.select.get p) <;> simp [hx]

theorem flipParity_eq (s : State) : s.flipParity = { s with link := { s.link with
    parity := !s.link.parity, trigger := s.flipParity.link.trigger } } := s.flagging_eq _

theorem startCycle_eq (hd : s.mayDrive = true) (hn : s.link.next = 16) : s.startCycle =
    ((s.reach (s.link.cycleStart + s.link.period)).modLink
      (Link.cycled (max s.now (s.link.cycleStart + s.link.period)))).flipParity := by
  simp [State.startCycle, hd, hn]

/-! ## The end of a slot (R94, R123, R134) -/

/-- The slot ended, before a link told to stop stops. -/
def slotEnded (s : State) (l : LaneNo) : State :=
  (s.modLink (Link.slotEnded l)).modMge fun m => { m with phase := m.phase.slotEnded l }

theorem slotEnded_eq (s : State) (l : LaneNo) : s.slotEnded l = { s with
    link := { s.link with
      awaiting := false, next := l.val + 1, gapHeader := false,
      cyclesRun := if l.val = 15 ∧ s.link.testing.isSome = true then s.link.cyclesRun + 1 else s.link.cyclesRun,
      slots := s.link.slots.set l.val { s.slot l with sent := none } l.isLt },
    mge := { s.mge with phase := match s.mge.phase with
      | .accessing h a => .accessing h (if a.lane = l then { a with slots := a.slots.map fun n => n + 1 } else a)
      | p => p } } := by
  have hphase : s.mge.phase.slotEnded l = match s.mge.phase with
      | .accessing h a => .accessing h (if a.lane = l then { a with slots := a.slots.map fun n => n + 1 } else a)
      | p => p := by
    generalize s.mge.phase = p
    cases p with
    | accessing h a =>
      rw [MgePhase.slotEnded]
      exact (apply_ite (MgePhase.accessing h) (a.lane = l) _ _).symm
    | _ => rfl
  rw [← hphase]
  rfl

theorem endSlot_running (h : s.link.stopping = false) : s.endSlot l = s.slotEnded l := by
  have hs : (s.slotEnded l).link.stopping = false := h
  exact if_neg (by rw [show ((s.modLink (Link.slotEnded l)).modMge fun m => { m with phase := m.phase.slotEnded l }) =
    s.slotEnded l from rfl, hs]; exact nofun)

theorem endSlot_stopping (h : s.link.stopping = true) : s.endSlot l =
    if runsLink s.bcm.mode then (s.slotEnded l).stopLink.startLink else (s.slotEnded l).stopLink := if_pos h

/-- The stop finds what it would have found before the slot ended. -/
theorem stopAlike_slotEnded (s : State) (l : LaneNo) : StopAlike s ((s.slotEnded l).setEntering true) where
  stopped k := by
    have hslot : ((s.slotEnded l).setEntering true).slot k = if k = l then { s.slot l with sent := none } else s.slot k :=
      get_upd _ _ _ _
    rw [hslot]
    split
    · next he => rw [he]; rfl
    · rfl
  link k := by
    have hslot : ((s.slotEnded l).setEntering true).slot k = if k = l then { s.slot l with sent := none } else s.slot k :=
      get_upd _ _ _ _
    rw [hslot]
    split
    · next he => rw [he]
    · rfl
  operation _ := rfl
  core := rfl
  accessing h a hp := by
    show ∃ b, (s.mge.phase.slotEnded l) = _ ∧ _
    rw [hp, MgePhase.slotEnded]
    split
    · exact ⟨_, rfl, rfl⟩
    · exact ⟨_, rfl, rfl⟩
  idle hp := by
    show s.mge.phase.slotEnded l = _
    unfold MgePhase.slotEnded
    split
    · next h a he => exact absurd he (hp h a)
    · rfl
  replyQ := rfl

theorem stopKept_setEntering (t : State) (b : Bool) : StopKept t (t.setEntering b) :=
  ⟨rfl, rfl, rfl, rfl, rfl, rfl, rfl, rfl, rfl, rfl, rfl, fun hx => hx⟩

theorem linkStopped_stopLink {u : State} (h : StopAlike s (u.setEntering true)) : s.linkStopped u.stopLink :=
  linkStopped_of_kept (linkStopped_of_alike h (linkStopped_haltLink _)) (stopKept_setEntering _ false)

/-- The stop leaves the link's place in the cycle, its settings and its test. -/
theorem stopLink_link (u : State) : u.stopLink.link = { u.link with
    running := false, stopping := false, awaiting := false, trigger := false, slots := u.stopLink.link.slots } := by
  have hlink := (bcm_haltLink (s := u.setEntering true) (.inr rfl)).2
  rw [State.stopLink]
  generalize (u.setEntering true).haltLink = w at hlink
  exact hlink

theorem stopKept_startLink (t : State) : StopKept t t.startLink where
  slots := by simp
  lanes := by simp
  table := by simp
  zones := by simp
  log := by simp
  peerQ := by simp
  peers := by simp
  replyQ := by simp
  phase := by simp
  presence := by simp
  access := by simp
  detected h := by simpa using h

theorem startLink_eq (h : s.link.running = false) (hs : s.link.stopping = false) : s.startLink = { s with
    link := { Link.started s.now s.link with trigger := s.startLink.link.trigger } } := by
  have hstart : s.startLink = s.flagging (State.modLink (Link.started s.now)) := if_neg (by rw [h, hs]; exact nofun)
  rw [hstart]
  exact s.flagging_eq _

end State

open State in
/-- Settles O23: the parity alone makes triggers as a cycle starts, and the stop finds after the slot what it found before it. -/
theorem laneCycleStarts : Obligations.LaneCycleStarts := by
  unfold Obligations.LaneCycleStarts
  refine ⟨fun s hd hn => ?cycle, fun s l => ?slot⟩
  case cycle =>
    have heq := startCycle_eq hd hn
    set now := max s.now (s.link.cycleStart + s.link.period) with hnow
    set r := (s.reach (s.link.cycleStart + s.link.period)).modLink (Link.cycled now) with hr
    have hflip := flipParity_eq r
    have hlink : s.startCycle.link = { r.link with parity := !s.link.parity, trigger := r.flipParity.link.trigger } := by
      rw [heq, hflip]
      rfl
    have hslot (l : LaneNo) : s.startCycle.slot l = (s.slot l).cycled := by
      rw [State.slot, hlink]
      exact get_updAll _ _ _
    have htrigger := trigger_flipParity r
    refine ⟨s.startCycle, rfl, ?_, ?_, fun l => ?_, ?_, ?_⟩
    · rw [heq, hflip]
      rfl
    · rw [heq, hflip]
      rfl
    · rw [hslot, Slot.cycled]
      split <;> rfl
    · rw [heq]
      exact htrigger
    · rw [heq, hflip]
      rfl
  case slot =>
    intro t counts cycles
    have hbegun : s.link.testing.isSome = true ↔ s.link.test.map (fun x => x.begun) = some true := by
      unfold Link.testing
      cases s.link.test with
      | none => simp
      | some x => cases hb : x.begun <;> simp [hb]
    refine ⟨fun hs => ⟨fun ⟨h15, x, hx, hb⟩ => ?_, fun hc => ?_, ?_⟩, fun hs => ?_⟩
    · exact if_pos ⟨h15, by rw [hx, Option.map_some, hb]⟩
    · refine if_neg fun ⟨h15, hx⟩ => hc ⟨h15, ?_⟩
      obtain ⟨x, hx, hb⟩ := Option.map_eq_some_iff.1 hx
      exact ⟨x, hx, hb⟩
    · have hcycles : (if l.val = 15 ∧ s.link.testing.isSome = true then s.link.cyclesRun + 1 else s.link.cyclesRun) = cycles :=
        if_congr (and_congr_right fun _ => hbegun) rfl rfl
      rw [show t = s.slotEnded l from endSlot_running hs, slotEnded_eq, hcycles] <;> rfl
    · have hstopped : s.linkStopped (s.slotEnded l).stopLink := linkStopped_stopLink (stopAlike_slotEnded s l)
      have hlink := stopLink_link (s.slotEnded l)
      have hnow : (s.slotEnded l).stopLink.now = s.now := by
        have hhalt := (haltLink_frame ((s.slotEnded l).setEntering true)).1
        rw [State.stopLink]
        generalize ((s.slotEnded l).setEntering true).haltLink = w at hhalt
        exact hhalt
      have ht : t = if runsLink s.bcm.mode then (s.slotEnded l).stopLink.startLink else (s.slotEnded l).stopLink :=
        endSlot_stopping hs
      generalize (s.slotEnded l).stopLink = u at hstopped hlink hnow ht
      have hrunning : u.link.running = false := by rw [hlink]
      have hstopping : u.link.stopping = false := by rw [hlink]
      have htrigger : u.link.trigger = false := by rw [hlink]
      have hawaiting : u.link.awaiting = false := by rw [hlink]
      have habsent (k : LaneNo) : (u.slot k).link = .absent := by rw [hstopped.1]
      rw [ht]
      by_cases hm : runsLink s.bcm.mode = true
      · have hstarted : u.startLink.link = { Link.started u.now u.link with trigger := u.startLink.link.trigger } := by
          rw [startLink_eq hrunning hstopping]
        rw [if_pos hm]
        refine ⟨by rw [hstarted]; exact hstopping, by rw [hstarted]; rfl, fun k => ?_,
          linkStopped_of_kept hstopped (stopKept_startLink u), fun h => ?_, fun _ _ => ?_⟩
        · rw [show u.startLink.slot k = u.slot k by simp [State.slot]]
          exact habsent k
        · rcases h with h | h <;> exact nomatch h ▸ hm
        · rw [hstarted, ← hnow]
          exact ⟨rfl, rfl, rfl, rfl⟩
      · rw [if_neg hm]
        refine ⟨hstopping, hawaiting, habsent, hstopped, fun _ => ⟨hrunning, htrigger⟩, fun h1 h2 => absurd ?_ hm⟩
        cases hmode : s.bcm.mode with
        | standby => exact absurd hmode h1
        | deep => exact absurd hmode h2
        | _ => rfl

end Sys2Proof.Machine
end

section
/-! SUPPORT. Pairs settled while the bank is not OPEN (R88): a lane that is CLOSED stays so, and one that has adopted is as it was. -/

namespace Sys2Proof.Machine
namespace State

variable {s t : State} {l m : LaneNo} {k : Fin 8}

theorem lanesOnly_closeLane (s : State) (l : LaneNo) : LanesOnly s (s.closeLane l) := by
  by_cases h : (s.lane l).state = .idle ∨ (s.lane l).state = .refusing
  · rw [closeLane_idle h]
    exact (LanesOnly.adopt s l).trans (.enterClosed _ l)
  · rw [closeLane_busy (fun hi => h (.inl hi)) fun hr => h (.inr hr)]
    exact .refl s

theorem lanesOnly_readoptIdle (s : State) (l : LaneNo) : LanesOnly s (s.readoptIdle l) :=
  iteInduction (fun _ => .rest s l) fun _ => .refl s

/-- Beside its lanes and their slots a pair that settles changes its setting alone (R88). -/
theorem settlePair_frame' (s : State) (k : Fin 8) : s.settlePair k = { s with
    lanes := (s.settlePair k).lanes, pairs := (s.settlePair k).pairs,
    link := { s.link with slots := (s.settlePair k).link.slots } } := by
  by_cases h : s.Settles k
  · have honly : LanesOnly (s.pairTaken k) (s.settlePair k) := by
      cases hr : (s.pairs.get k).requested with
      | true =>
        rw [settlePair_combine h hr]
        exact lanesOnly_closeLane _ _
      | false =>
        rw [settlePair_separate h hr]
        exact ((LanesOnly.modLane _ _ _).trans (.tryIdle _ _)).trans (lanesOnly_readoptIdle _ _)
    rw [honly.frame]
    rfl
  · rw [settlePair_of_not h]

theorem settlePairs_eq (s : State) : s.settlePairs = { s with
    lanes := s.settlePairs.lanes, pairs := s.settlePairs.pairs, link := { s.link with slots := s.settlePairs.link.slots } } := by
  have hfold (ks : List (Fin 8)) (s : State) : ks.foldl (fun t k => t.settlePair k) s = { s with
      lanes := (ks.foldl (fun t k => t.settlePair k) s).lanes, pairs := (ks.foldl (fun t k => t.settlePair k) s).pairs,
      link := { s.link with slots := (ks.foldl (fun t k => t.settlePair k) s).link.slots } } := by
    induction ks generalizing s with
    | nil => rfl
    | cons k ks ih => rw [List.foldl_cons, ih, settlePair_frame']
  unfold State.settlePairs
  generalize allPairs = ks
  exact hfold ks s

/-! ## Lanes and slots -/

/-- In a bank that is not OPEN no lane may be IDLE (R78). -/
theorem not_mayIdle (h : s.bcm.mode ≠ .opened) (l : LaneNo) : ¬s.mayIdle l = true := by
  rw [mayIdle_iff]
  exact fun hi => h hi.2.2.2.2

theorem rest_unopened (h : s.bcm.mode ≠ .opened) (l : LaneNo) : s.rest l = (s.adopt l).enterClosed l :=
  rest_closed (not_mayIdle (s := s.adopt l) h l)

theorem tryIdle_unopened (h : s.bcm.mode ≠ .opened) (hc : (s.lane l).state = .closed) : s.tryIdle l = s.adopt l :=
  tryIdle_adopts hc (not_mayIdle (s := s.adopt l) h l)

/-- A lane that is CLOSED stays CLOSED as the pairs of a bank that is not OPEN settle. -/
theorem closed_settlePairs (h : s.bcm.mode ≠ .opened) (hc : (s.lane m).state = .closed) :
    ((s.settlePairs).lane m).state = .closed := by
  rw [(s.pairAlike_settlePairs (pairOf m)).lane m rfl]
  generalize pairOf m = k
  have hclosed {v : State} {l : LaneNo} (hv : (v.lane m).state = .closed) : ((v.closeLane l).lane m).state = .closed := by
    by_cases hq : (v.lane l).state = .idle ∨ (v.lane l).state = .refusing
    · rw [closeLane_idle hq, State.lane_enterClosed]
      split
      · rfl
      · rw [State.lane_adopt]
        split
        · next he => rw [← he]; exact hv
        · exact hv
    · rwa [closeLane_busy (fun hi => hq (.inl hi)) fun hr => hq (.inr hr)]
  by_cases hs : s.Settles k
  · cases hr : (s.pairs.get k).requested with
    | true =>
      rw [settlePair_combine hs hr]
      exact hclosed hc
    | false =>
      rw [settlePair_separate hs hr]
      set v := (s.pairTaken k).modLane (lowerLane k) fun n => { n with mate := none } with hv
      have hvm : (v.lane m).state = .closed := by
        rw [hv, State.lane_modLane]
        split
        · next he => rw [← he]; exact hc
        · exact hc
      have hmode : v.bcm.mode ≠ .opened := h
      have htry : ((v.tryIdle (upperLane k)).lane m).state = .closed := by
        by_cases hup : (v.lane (upperLane k)).state = .closed
        · rw [tryIdle_unopened hmode hup, State.lane_adopt]
          split
          · next he => rw [← he]; exact hvm
          · exact hvm
        · rwa [tryIdle_busy hup]
      unfold State.readoptIdle
      split
      · have hmode' : (v.tryIdle (upperLane k)).bcm.mode ≠ .opened := by rw [(LanesOnly.tryIdle v _).bcm]; exact hmode
        rw [rest_unopened hmode', State.lane_enterClosed]
        split
        · rfl
        · rw [State.lane_adopt]
          split
          · next he => rw [← he]; exact htry
          · exact htry
      · exact htry
  · rwa [settlePair_of_not hs]

/-- A lane whose operation goes on keeps its pair as it is (R88). -/
theorem lane_settlePairs_busy (hi : (s.lane m).state ≠ .idle) (hc : (s.lane m).state ≠ .closed) :
    (s.settlePairs).lane m = s.lane m := by
  rw [(s.pairAlike_settlePairs (pairOf m)).lane m rfl, settlePair_of_not]
  rintro ⟨-, hlow, hup⟩
  have hm : m = lowerLane (pairOf m) ∨ m = upperLane (pairOf m) := by
    rcases Nat.mod_two_eq_zero_or_one m.val with h | h
    · exact .inl (Fin.ext (by simp only [lowerLane, pairOf]; omega))
    · exact .inr (Fin.ext (by simp only [upperLane, pairOf]; omega))
  have hquiet : s.Quiet m := by
    rcases hm with hm | hm
    · rw [hm]; exact hlow
    · rw [hm]; exact hup
  exact hquiet.elim hi hc

/-- The lane is CLOSED without a mark, with what waits in force. -/
def Parked (s : State) (l : LaneNo) : Prop :=
  (s.lane l).state = .closed ∧ (s.lane l).mate = none ∧ Lane.adopted s.policy (s.lane l) = s.lane l

theorem adopt_parked (h : s.Parked l) : s.adopt l = s := by
  rw [State.adopt, State.modLane, upd_same _ _ _ h.2.2]

/-- Where every lane is parked the settings come into force and nothing else changes (R88, R96). -/
theorem settlePair_parked (h : s.bcm.mode ≠ .opened) (hp : ∀ l, s.Parked l) (k : Fin 8) :
    s.settlePair k = s ∨ s.settlePair k = s.pairTaken k := by
  by_cases hs : s.Settles k
  · have hp' (l : LaneNo) : (s.pairTaken k).Parked l := hp l
    right
    cases hr : (s.pairs.get k).requested with
    | true =>
      have hc : ((s.pairTaken k).lane (upperLane k)).state = .closed := (hp' (upperLane k)).1
      rw [settlePair_combine hs hr, closeLane_busy (by rw [hc]; exact nofun) (by rw [hc]; exact nofun)]
    | false =>
      have hmate : ((s.pairTaken k).modLane (lowerLane k) fun n => { n with mate := none }) = s.pairTaken k := by
        have hsame : ({ (s.pairTaken k).lane (lowerLane k) with mate := none } : Lane) = (s.pairTaken k).lane (lowerLane k) := by
          rw [← (hp' (lowerLane k)).2.1]
        rw [State.modLane, upd_same _ _ _ hsame]
      rw [settlePair_separate hs hr, hmate, tryIdle_unopened (s := s.pairTaken k) h (hp' (upperLane k)).1,
        adopt_parked (hp' (upperLane k)), State.readoptIdle, if_neg]
      rw [(hp' (lowerLane k)).1]
      exact nofun
  · exact .inl (settlePair_of_not hs)

theorem settlePairs_parked (h : s.bcm.mode ≠ .opened) (hp : ∀ l, s.Parked l) :
    (∀ m, (s.settlePairs).lane m = s.lane m) ∧ (∀ m, (s.settlePairs).slot m = s.slot m) ∧
      ∀ k, ((s.settlePairs).pairs.get k).inForce = (s.pairs.get k).requested := by
  refine ⟨fun m => ?_, fun m => ?_, fun k => ?_⟩
  · rw [(s.pairAlike_settlePairs (pairOf m)).lane m rfl]
    rcases settlePair_parked h hp (pairOf m) with hk | hk <;> rw [hk]
    rfl
  · rw [(s.pairAlike_settlePairs (pairOf m)).slot m rfl]
    rcases settlePair_parked h hp (pairOf m) with hk | hk <;> rw [hk]
    rfl
  · rw [(s.pairAlike_settlePairs k).pair, pair_settlePair (.inr (hp _).1) (.inr (hp _).1), pair_pairTaken]

end State
end Sys2Proof.Machine
end

section
/-! SUPPORT. The aborts of a Bank Reset (R96, R137): each lane in turn, its slot's verdict with it, and the adoption of all lanes. -/

namespace Sys2Proof.Machine
namespace State

variable {s t : State} {l m : LaneNo}

/-! ## The lanes in turn -/

/-- The verdict dropped and the sequencer aborted, lane by lane. -/
def resetLanes (s : State) (ls : List LaneNo) : State :=
  ls.foldl (fun u l => (u.modSlot l Slot.verdictDropped).abortLane l .withdrawn) s

/-- A lane as a Bank Reset aborts it. -/
def Withdrawn (n : Lane) : Lane :=
  if n.state = .closed then { n with mate := none } else Lane.cleared .closed { n with mate := none }

theorem state_withdrawn (n : Lane) : (Withdrawn n).state = .closed := by
  unfold Withdrawn
  split
  · next h => exact h
  · rfl

theorem lane_dropAbort (s : State) (l : LaneNo) :
    ((s.modSlot l Slot.verdictDropped).abortLane l .withdrawn).lane l = Withdrawn (s.lane l) := lane_abortLane _ l _

theorem lane_dropAbort_of_ne (h : m ≠ l) : ((s.modSlot l Slot.verdictDropped).abortLane l .withdrawn).lane m = s.lane m :=
  lane_abortLane_of_ne h _

theorem unwinds_dropAbort (s : State) (l : LaneNo) :
    Unwinds Unwinds.endCauses s ((s.modSlot l Slot.verdictDropped).abortLane l .withdrawn) :=
  (Unwinds.modSlot s l _).abortLane l _

theorem unwinds_resetLanes (ls : List LaneNo) (s : State) : Unwinds Unwinds.endCauses s (s.resetLanes ls) := by
  induction ls generalizing s with
  | nil => exact .refl _ s
  | cons l ls ih => exact (s.unwinds_dropAbort l).trans (ih _)

theorem lane_resetLanes_of_notMem {ls : List LaneNo} (h : l ∉ ls) (s : State) : (s.resetLanes ls).lane l = s.lane l := by
  induction ls generalizing s with
  | nil => rfl
  | cons m ls ih =>
    obtain ⟨hm, hls⟩ : l ≠ m ∧ l ∉ ls := by rwa [List.mem_cons, not_or] at h
    exact (ih hls _).trans (lane_dropAbort_of_ne hm)

theorem lane_resetLanes {ls : List LaneNo} (hd : ls.Nodup) (hl : l ∈ ls) (s : State) :
    (s.resetLanes ls).lane l = Withdrawn (s.lane l) := by
  induction ls generalizing s with
  | nil => cases hl
  | cons m ls ih =>
    obtain ⟨hm, hd⟩ := List.nodup_cons.1 hd
    by_cases he : l = m
    · subst he
      exact (lane_resetLanes_of_notMem hm _).trans (s.lane_dropAbort l)
    · exact (ih hd ((List.mem_cons.1 hl).resolve_left he) _).trans (congrArg Withdrawn (lane_dropAbort_of_ne he))

theorem core_resetLanes {ls : List LaneNo} (hd : ls.Nodup) (hc : t.core = s.core)
    (hl : ∀ l ∈ ls, (t.lane l).operation = (s.lane l).operation) :
    (t.resetLanes ls).core = (ls.foldl (fun u l => u.abortOperation l .withdrawn) s).core := by
  induction ls generalizing s t with
  | nil => exact hc
  | cons l ls ih =>
    obtain ⟨hn, hd⟩ := List.nodup_cons.1 hd
    have hstep : ((t.modSlot l Slot.verdictDropped).abortLane l .withdrawn).core = (s.abortOperation l .withdrawn).core := by
      rw [core_abortLane]
      exact core_abortOperation (t := t.modSlot l Slot.verdictDropped) hc (hl l List.mem_cons_self) _
    refine ih hd hstep fun m hm => ?_
    have hne : m ≠ l := fun he => hn (he ▸ hm)
    rw [lane_dropAbort_of_ne hne, lane_abortOperation_of_ne hne]
    exact hl m (List.mem_cons_of_mem l hm)

/-! ## Their slots -/

/-- What a Bank Reset leaves of the slot that it visits (R137). -/
theorem slot_dropAbort (s : State) (l k : LaneNo) : ((s.modSlot l Slot.verdictDropped).abortLane l .withdrawn).slot k =
    let x := if k = l then (s.slot l).verdictDropped else s.slot k
    if (s.lane l).state ≠ .closed ∧ k ∈ s.slotsOf l then Slot.queueLamp .closed x.endVerdict else x := by
  rw [slot_abortLane, State.slot_modSlot]
  rfl

theorem verdictDropped_idem (k : Slot) : k.verdictDropped.verdictDropped = k.verdictDropped := by
  unfold Slot.verdictDropped
  rcases k.outstanding with _ | c
  · rfl
  · cases c <;> rfl

/-- The lamp of a slot after the aborts of the lanes of `ls`: Closed where one of them shows it there. -/
def resetLamp (s : State) (ls : List LaneNo) (k : LaneNo) : Option Display :=
  if ∃ l ∈ ls, k ∈ s.slotsOf l ∧ (s.lane l).state ≠ .closed then some .closed else (s.slot k).lamp

theorem resetLamp_all (s : State) (k : LaneNo) : s.resetLamp allLanes k =
    if ∃ l, k ∈ s.slotsOf l ∧ (s.lane l).state ≠ .closed then some .closed else (s.slot k).lamp :=
  if_congr (exists_congr fun l => and_iff_right (List.mem_finRange l)) rfl rfl

/-- Verdicts apart, only the lamp of a slot changes. -/
theorem verdictDropped_resetLanes {ls : List LaneNo} (hd : ls.Nodup) (s : State) (k : LaneNo) :
    ((s.resetLanes ls).slot k).verdictDropped = { (s.slot k).verdictDropped with lamp := s.resetLamp ls k } := by
  induction ls generalizing s with
  | nil => simp [resetLanes, resetLamp, Slot.verdictDropped]
  | cons l ls ih =>
    obtain ⟨hn, hd⟩ := List.nodup_cons.1 hd
    set u := (s.modSlot l Slot.verdictDropped).abortLane l .withdrawn with hu
    have hstep : (u.slot k).verdictDropped = { (s.slot k).verdictDropped with
        lamp := if (s.lane l).state ≠ .closed ∧ k ∈ s.slotsOf l then some .closed else (s.slot k).lamp } := by
      have hx : (if k = l then (s.slot l).verdictDropped else s.slot k).verdictDropped = (s.slot k).verdictDropped := by
        split
        · next he => rw [he, verdictDropped_idem]
        · rfl
      rw [hu, slot_dropAbort]
      dsimp only
      split
      · have hlamp (x : Slot) : (Slot.queueLamp .closed x.endVerdict).verdictDropped =
            { x.verdictDropped with lamp := some .closed } := by
          rw [Slot.endVerdict_eq]
          rfl
        rw [hlamp, hx]
      · rw [hx]
        rfl
    have hlamp : u.resetLamp ls k = s.resetLamp (l :: ls) k := by
      have hslots (m : LaneNo) : u.slotsOf m = s.slotsOf m := slotsOf_congr (s.unwinds_dropAbort l).pairs m
      have hlater : (∃ m ∈ ls, k ∈ u.slotsOf m ∧ (u.lane m).state ≠ .closed) ↔
          ∃ m ∈ ls, k ∈ s.slotsOf m ∧ (s.lane m).state ≠ .closed := by
        refine exists_congr fun m => and_congr_right fun hm => ?_
        have hne : m ≠ l := fun he => hn (he ▸ hm)
        rw [hslots, hu, lane_dropAbort_of_ne hne]
      have hfirst : (u.slot k).lamp = if (s.lane l).state ≠ .closed ∧ k ∈ s.slotsOf l then some .closed else (s.slot k).lamp :=
        congrArg Slot.lamp hstep
      simp only [resetLamp, hlater, hfirst, List.mem_cons, exists_eq_or_imp]
      by_cases ha : ∃ m ∈ ls, k ∈ s.slotsOf m ∧ (s.lane m).state ≠ .closed
      · rw [if_pos ha, if_pos (.inr ha)]
      · rw [if_neg ha]
        exact if_congr (by rw [or_iff_left ha, and_comm]) rfl rfl
    show ((u.resetLanes ls).slot k).verdictDropped = _
    rw [ih hd, hstep, hlamp]

/-- No verdict is left in the slot of a lane that was visited. -/
theorem dropped_resetLanes {ls : List LaneNo} (k : LaneNo) (s : State)
    (h : k ∈ ls ∨ (s.slot k).verdictDropped = s.slot k) :
    ((s.resetLanes ls).slot k).verdictDropped = (s.resetLanes ls).slot k := by
  induction ls generalizing s with
  | nil => exact h.resolve_left List.not_mem_nil
  | cons l ls ih =>
    refine ih _ ?_
    by_cases hk : k ∈ ls
    · exact .inl hk
    · right
      have hx : (if k = l then (s.slot l).verdictDropped else s.slot k).verdictDropped =
          if k = l then (s.slot l).verdictDropped else s.slot k := by
        split
        · exact verdictDropped_idem _
        · next he => exact h.resolve_left fun hm => (List.mem_cons.1 hm).elim he hk
      rw [slot_dropAbort]
      dsimp only
      generalize (if k = l then (s.slot l).verdictDropped else s.slot k) = x at hx
      split
      · have hqueued :
            (Slot.queueLamp .closed x.endVerdict).verdictDropped = Slot.queueLamp .closed x.verdictDropped.endVerdict := by
          rw [Slot.endVerdict_eq, Slot.endVerdict_eq]
          rfl
        rw [hqueued, hx]
      · exact hx

/-! ## Adoption, the mode, and the whole reset (R77, R96, R163) -/

theorem adoptAll_frame (s : State) : s.eachLane State.adopt = { s with lanes := (s.eachLane State.adopt).lanes } := by
  have hfold (ls : List LaneNo) (s : State) : ls.foldl (fun t l => t.adopt l) s =
      { s with lanes := (ls.foldl (fun t l => t.adopt l) s).lanes } := by
    induction ls generalizing s with
    | nil => rfl
    | cons l ls ih => rw [List.foldl_cons, ih]; rfl
  exact hfold allLanes s

theorem laneLocal_adopt : LaneLocal fun l s => s.adopt l where
  lanesOnly k s := .adopt s k
  others k l s hne := by rw [State.lane_adopt, if_neg hne]
  alike l s t h := by rw [State.lane_adopt, State.lane_adopt, h.lane, h.policy]

theorem lane_adoptAll (s : State) (l : LaneNo) : (s.eachLane State.adopt).lane l = Lane.adopted s.policy (s.lane l) :=
  (laneLocal_adopt.lane_eachLane s l).trans (by rw [State.lane_adopt, if_pos rfl])

theorem abortAll_eq (s : State) : s.abortAll = (s.resetLanes allLanes).eachLane State.adopt := rfl

/-! ## Causes raised in passing (R180) -/

theorem raise_pending (s : State) (c : Cause) (d : Option Nat) :
    ((s.raise c d).evu.causes.get (causeIndex c)).pending = true := by
  have hquiet : ((s.raiseQuiet c d).evu.causes.get (causeIndex c)).pending = true := by
    rw [causes_raiseQuiet, get_upd, if_pos rfl]
    rfl
  unfold State.raise
  split
  · rw [causes_releaseStandby, get_upd]
    split
    · rfl
    · rw [get_upd]
      split
      · rfl
      · exact hquiet
  · exact hquiet

theorem pending_raise (c : Cause) (d : Option Nat) {i : Fin 24} (h : (s.evu.causes.get i).pending = true) :
    ((s.raise c d).evu.causes.get i).pending = true :=
  ((Unwinds.refl [c] s).raise List.mem_cons_self).pending i h

theorem raise_awake (h : s.bcm.mode ≠ .standby) (c : Cause) (d : Option Nat) :
    (s.raise c d).bcm = s.bcm ∧ (s.raise c d).link = s.link := (s.raisedFrom_raise c d).awake h

/-! ## The mode of the reset (R163) -/

/-- Beside events, the mode, the request for a dormant one and the link's cycle a reset of the mode changes nothing. -/
theorem resetMode_frame (s : State) : s.resetMode.core = s.core ∧ s.resetMode.lanes = s.lanes ∧
    s.resetMode.link.slots = s.link.slots ∧ s.resetMode.pairs = s.pairs ∧ s.resetMode.policy = s.policy ∧
    s.resetMode.bank = s.bank ∧ s.resetMode.now = s.now ∧ s.resetMode.bcm.clock = s.bcm.clock := by
  unfold State.resetMode State.leaveStandby
  dsimp only
  split <;> simp [core]

theorem resetMode_bcm (s : State) : s.resetMode.bcm.mode = .service ∧ s.resetMode.bcm.requested = none := by
  unfold State.resetMode State.leaveStandby
  dsimp only
  split
  · next h => exact ⟨h, rfl⟩
  · have hmode : ((((s.modBcm fun b => { b with requested := none }).setMode .service).startLink).raise .wake none).bcm.mode =
        .service := by
      rw [(raise_awake (by simp) _ _).1]
      simp
    rw [(raise_awake (by rw [hmode]; exact nofun) _ _).1]
    exact ⟨hmode, by simp⟩
  · rw [(raise_awake (by simp) _ _).1]
    exact ⟨by simp, by simp⟩

theorem resetMode_pending (s : State) {i : Fin 24} (h : (s.evu.causes.get i).pending = true) :
    (s.resetMode.evu.causes.get i).pending = true := by
  unfold State.resetMode State.leaveStandby
  dsimp only
  split
  · exact h
  · exact pending_raise _ _ (pending_raise _ _ (by simpa using h))
  · exact pending_raise _ _ (by simpa using h)

theorem resetMode_events (s : State) : (s.bcm.mode ≠ .service → (s.resetMode.evu.causes.get 18).pending = true) ∧
    (s.bcm.mode = .standby → (s.resetMode.evu.causes.get 23).pending = true) := by
  unfold State.resetMode State.leaveStandby
  dsimp only
  split
  · next h => exact ⟨fun hn => absurd h hn, fun hs => nomatch h.symm.trans hs⟩
  · exact ⟨fun _ => raise_pending _ .modeChange none, fun _ => pending_raise _ _ (raise_pending _ .wake none)⟩
  · next hn => exact ⟨fun _ => raise_pending _ .modeChange none, fun hs => absurd hs hn⟩

/-- Outside STANDBY the link goes on, with the triggers that the change of mode makes. -/
theorem resetMode_link (h : s.bcm.mode ≠ .standby) : s.resetMode.link = { s.link with trigger := s.resetMode.link.trigger } ∧
    (s.link.trigger = true → s.resetMode.link.trigger = true) := by
  unfold State.resetMode
  dsimp only
  split
  · exact ⟨rfl, fun hx => hx⟩
  · next hs => exact absurd hs h
  · have hset := setMode_eq (s.modBcm fun b => { b with requested := none }) .service
    have htrigger := triggers_setMode (s.modBcm fun b => { b with requested := none }) .service
    rw [(raise_awake (by simp) _ _).2]
    exact ⟨congrArg State.link hset, fun hx => htrigger.2 (.inl hx)⟩

end State
end Sys2Proof.Machine
end

section
/-! Set Bank Mode and Bank Reset (O53). -/

namespace Sys2Proof.Machine
namespace State

variable {s t : State} {l m : LaneNo}

/-- Every lane aborted, adopted and parked before the mode and the pairs are reset (R96). -/
theorem lane_abortAll (s : State) (l : LaneNo) : s.abortAll.lane l = Lane.adopted s.policy (Withdrawn (s.lane l)) := by
  have hd : allLanes.Nodup := List.nodup_finRange 16
  have hl : l ∈ allLanes := List.mem_finRange l
  rw [abortAll_eq, lane_adoptAll, lane_resetLanes hd hl, (unwinds_resetLanes allLanes s).policy]

theorem slot_abortAll (s : State) (k : LaneNo) :
    s.abortAll.slot k = { (s.slot k).verdictDropped with lamp := s.resetLamp allLanes k } := by
  have hd : allLanes.Nodup := List.nodup_finRange 16
  have hk : k ∈ allLanes := List.mem_finRange k
  have hadopt (w : State) : (w.eachLane State.adopt).slot k = w.slot k := by
    rw [State.slot, adoptAll_frame]
    rfl
  rw [abortAll_eq, hadopt, ← dropped_resetLanes k s (.inl hk), verdictDropped_resetLanes hd]

theorem core_abortAll (s : State) :
    s.abortAll.core = (allLanes.foldl (fun u l => u.abortOperation l .withdrawn) s).core := by
  have hd : allLanes.Nodup := List.nodup_finRange 16
  have hadopt (w : State) : (w.eachLane State.adopt).core = w.core := core_lanesOnly (laneLocal_adopt.lanesOnly_eachLane w)
  rw [abortAll_eq, hadopt, core_resetLanes (s := s) (t := s) hd rfl fun _ _ => rfl]

theorem unwinds_abortAll (s : State) : Unwinds Unwinds.endCauses s s.abortAll :=
  (unwinds_resetLanes allLanes s).trans (Unwinds.lanesOnly (laneLocal_adopt.lanesOnly_eachLane _))

theorem parked_reset (s : State) (l : LaneNo) : s.abortAll.resetMode.Parked l := by
  obtain ⟨-, hlanes, -, -, hpolicy, -⟩ := s.abortAll.resetMode_frame
  have hlane : s.abortAll.resetMode.lane l = Lane.adopted s.policy (Withdrawn (s.lane l)) := by
    rw [State.lane, hlanes]
    exact s.lane_abortAll l
  rw [Parked, hlane, hpolicy, s.unwinds_abortAll.policy]
  unfold Withdrawn
  split
  · next h => exact ⟨h, rfl, rfl⟩
  · exact ⟨rfl, rfl, rfl⟩

theorem wakePending_iff (s : State) :
    s.wakePending = true ↔ ∃ c, (s.evu.causes.get c).pending = true ∧ s.evu.level c < s.evu.wakeThreshold := by
  simp [State.wakePending, Evu.below]

/-! ## The table of R156 -/

theorem requestMode_same {target : BankMode} (h : target ≠ .deep) (hm : s.bcm.mode = target) :
    s.requestMode target = (s, Reply.ok []) := by
  unfold State.requestMode
  rw [hm]
  cases target with
  | deep => exact absurd rfl h
  | service | opened | closing | standby => rfl

theorem requestMode_opened_service (h : s.bcm.mode = .service) : s.requestMode .opened = s.requestOpen [] := by
  unfold State.requestMode
  rw [h]

theorem requestMode_opened_standby (h : s.bcm.mode = .standby) : s.requestMode .opened = s.requestOpen [.wake] := by
  unfold State.requestMode
  rw [h]

theorem requestMode_opened (h : s.bcm.mode = .service ∨ s.bcm.mode = .standby) :
    ∃ cs, s.requestMode .opened = s.requestOpen cs :=
  h.elim (fun h => ⟨_, requestMode_opened_service h⟩) fun h => ⟨_, requestMode_opened_standby h⟩

theorem requestMode_opened_closing (h : s.bcm.mode = .closing) :
    s.requestMode .opened = ((s.enterOpen []).settle, Reply.ok []) := by
  unfold State.requestMode
  rw [h]

theorem requestMode_closing (h : s.bcm.mode = .opened) : s.requestMode .closing = (s.enterClosing [], Reply.ok []) := by
  unfold State.requestMode
  rw [h]

theorem requestMode_service (h : s.bcm.mode = .standby) : s.requestMode .service = (s.leaveStandby, Reply.ok []) := by
  unfold State.requestMode
  rw [h]

theorem requestMode_dormant {x : RestMode} (hx : x ≠ .service)
    (h : s.bcm.mode = .service ∨ (s.bcm.mode = .standby ∧ x = .deep)) :
    s.requestMode x.mode = s.requestDormant x := by
  unfold State.requestMode
  rcases h with h | ⟨h, rfl⟩ <;> rw [h]
  · cases x with
    | service => exact absurd rfl hx
    | standby | deep => rfl
  · rfl

theorem requestMode_recorded {x : RestMode} (hx : x ≠ .service) (h : s.bcm.mode = .closing) :
    s.requestMode x.mode = s.recordDormant x := by
  unfold State.requestMode
  rw [h]
  cases x with
  | service => exact absurd rfl hx
  | standby | deep => rfl

theorem requestMode_wrong {target : BankMode} (h : (target ≠ .closing ∧ target ≠ .opened ∧ s.bcm.mode = .opened) ∨
    (target = .service ∧ s.bcm.mode = .closing) ∨ (target = .closing ∧ (s.bcm.mode = .service ∨ s.bcm.mode = .standby))) :
    s.requestMode target = (s, Reply.refuse .wrongMode) := by
  unfold State.requestMode
  rcases h with ⟨hc, ho, h⟩ | ⟨rfl, h⟩ | ⟨rfl, h | h⟩ <;> rw [h]
  cases target with
  | closing => exact absurd rfl hc
  | opened => exact absurd rfl ho
  | service | standby | deep => rfl

theorem requestOpen_unassigned (h : s.bank = none) (cs : List Cause) : s.requestOpen cs = (s, Reply.refuse .notAssigned) := if_pos h

theorem requestOpen_unset (h : s.bank.isSome = true) (hc : s.bcm.clock = none) (cs : List Cause) :
    s.requestOpen cs = (s, Reply.refuse .clockUnset) :=
  (if_neg (Option.isSome_iff_ne_none.1 h)).trans (if_pos hc)

theorem requestOpen_ready (h : s.bank.isSome = true) (hc : s.bcm.clock.isSome = true) (cs : List Cause) :
    s.requestOpen cs = ((s.enterOpen cs).settle, Reply.ok []) := by
  rw [State.requestOpen, if_neg (Option.isSome_iff_ne_none.1 h), if_neg (Option.isSome_iff_ne_none.1 hc)]

/-! ## The whole reset -/

theorem doBankReset_eq (s : State) : s.doBankReset = s.abortAll.resetMode.settlePairs := rfl

/-- Beside the lanes, pairs and slots the reset leaves all as its mode leaves it (R96). -/
theorem doBankReset_frame (s : State) : ∃ ls ps ks, s.doBankReset = { s.abortAll.resetMode with
    lanes := ls, pairs := ps, link := { s.abortAll.resetMode.link with slots := ks } } :=
  ⟨_, _, _, s.doBankReset_eq.trans (settlePairs_eq _)⟩

theorem doBankReset_unopened (s : State) : s.abortAll.resetMode.bcm.mode ≠ .opened := by
  rw [(resetMode_bcm _).1]
  exact nofun

theorem lane_doBankReset (s : State) (l : LaneNo) : s.doBankReset.lane l = Lane.adopted s.policy (Withdrawn (s.lane l)) := by
  obtain ⟨-, hlanes, -⟩ := s.abortAll.resetMode_frame
  rw [doBankReset_eq, (settlePairs_parked s.doBankReset_unopened s.parked_reset).1, State.lane, hlanes]
  exact s.lane_abortAll l

theorem slot_doBankReset (s : State) (k : LaneNo) :
    s.doBankReset.slot k = { (s.slot k).verdictDropped with lamp := s.resetLamp allLanes k } := by
  obtain ⟨-, -, hslots, -⟩ := s.abortAll.resetMode_frame
  rw [doBankReset_eq, (settlePairs_parked s.doBankReset_unopened s.parked_reset).2.1, State.slot, hslots]
  exact s.slot_abortAll k

theorem inForce_doBankReset (s : State) (k : Fin 8) : (s.doBankReset.pairs.get k).inForce = (s.pairs.get k).requested := by
  obtain ⟨-, -, -, hpairs, -⟩ := s.abortAll.resetMode_frame
  rw [doBankReset_eq, (settlePairs_parked s.doBankReset_unopened s.parked_reset).2.2, hpairs, s.unwinds_abortAll.pairs]

theorem core_doBankReset (s : State) :
    s.doBankReset.core = (allLanes.foldl (fun u l => u.abortOperation l .withdrawn) s).core := by
  have hreset : s.doBankReset.core = s.abortAll.resetMode.core := by
    obtain ⟨ls, ps, ks, hframe⟩ := s.doBankReset_frame
    rw [hframe]
    generalize s.abortAll.resetMode = w
    rfl
  rw [hreset, (resetMode_frame _).1, core_abortAll]

/-- MODE_CHANGE where the mode was not SERVICE, and WAKE where it was STANDBY (R163). -/
theorem events_doBankReset (s : State) : (s.bcm.mode ≠ .service → (s.doBankReset.evu.causes.get 18).pending = true) ∧
    (s.bcm.mode = .standby → (s.doBankReset.evu.causes.get 23).pending = true) := by
  obtain ⟨ls, ps, ks, hframe⟩ := s.doBankReset_frame
  have hevu : s.doBankReset.evu = s.abortAll.resetMode.evu := by rw [hframe]
  obtain ⟨hchange, hwake⟩ := s.abortAll.resetMode_events
  rw [hevu]
  rcases s.unwinds_abortAll.woken with hmode | ⟨-, -, h18, h23⟩
  · rw [hmode] at hchange hwake
    exact ⟨hchange, hwake⟩
  · exact ⟨fun _ => resetMode_pending _ h18, fun _ => resetMode_pending _ h23⟩

/-- Outside STANDBY the link goes on with its settings, triggers and test (R137). -/
theorem link_doBankReset (h : s.bcm.mode ≠ .standby) :
    s.doBankReset.link = { s.link with slots := s.doBankReset.link.slots, trigger := s.doBankReset.link.trigger } ∧
      (s.link.trigger = true → s.doBankReset.link.trigger = true) := by
  obtain ⟨hmode, hlink, htrigger⟩ := s.unwinds_abortAll.calm (.inl h)
  obtain ⟨hlink', htrigger'⟩ := resetMode_link (s := s.abortAll) (by rwa [hmode])
  obtain ⟨ls, ps, ks, hframe⟩ := s.doBankReset_frame
  rw [hframe]
  dsimp only
  exact ⟨by rw [hlink', hlink], fun hx => htrigger' (htrigger hx)⟩

end State

theorem modeOf_modeCode (m : BankMode) : modeOf (byte (modeCode m)).toNat = some m := by cases m <;> rfl

theorem modeOf_eq_none {n : Nat} (h : 4 < n) : modeOf n = none := by
  unfold modeOf
  split <;> first | omega | rfl

variable {s : State} {r : Request} {extra fields : List Byte}

theorem exec_setBankMode {n : Byte} (h : s.asked r 6 (n :: extra)) (hm : s.bcm.mode ≠ .deep) :
    exec .setBankMode s = .next (r.answered 6 (doSetBankMode n.toNat s.beginRequest).2 (doSetBankMode n.toNat s.beginRequest).1) :=
  congrArg Host.Outcome.next (State.serve_asked h (Reader.nat_cons n extra) (Taken.active_holds hm))

theorem doBankResetRequest_eq (x : Unit) : doBankResetRequest x = fun s => (s.doBankReset, Reply.ok []) := rfl

theorem exec_bankReset (h : s.asked r 7 extra) (hm : s.bcm.mode ≠ .deep) :
    exec .bankReset s = .next (r.answered 7 (Reply.ok []) s.beginRequest.doBankReset) := by
  have hserve := State.serve_asked (f := doBankResetRequest) (x := ((), extra)) (rd := Reader.noFields) h rfl
    (Taken.active_holds hm)
  rw [doBankResetRequest_eq] at hserve
  show execBankReset s = _
  rw [execBankReset, hserve]

theorem doSetBankMode_code (m : BankMode) (s : State) : doSetBankMode (byte (modeCode m)).toNat s = s.requestMode m := by
  rw [doSetBankMode, modeOf_modeCode]

/-- The lamp that a Bank Reset leaves, and the verdicts gone, in the words of R137. -/
theorem Slot.verdictDropped_eq (k : Slot) (x : Option Display) : { k.verdictDropped with lamp := x } = { k with
    verdict := none, undelivered := false, lamp := x,
    outstanding := (match k.outstanding with | some (.verdict _) => none | o => o) } := by
  rfl

/-- A lane as the reset leaves it, field by field (R77, R96). -/
theorem adopted_withdrawn (p : Policy) (n : Lane) :
    let ended : Lane := if n.state = .closed then n else { n with
      key := none, result := none, reservation := none, query := none, passTimer := none, displayTimer := none }
    Lane.adopted p (State.Withdrawn n) = { ended with
      state := .closed, mate := none,
      inForce := if n.choice.val < p.np then some { index := n.choice, profile := p.profiles.get n.choice } else none,
      profileMissing := decide (p.np ≤ n.choice.val), override := n.control.override, power := n.control.power } := by
  unfold State.Withdrawn
  dsimp only
  split
  · next h => rw [← h]; rfl
  · rfl

/-- Settles O53: the table by the mode and the target, and the reset by its aborts, its mode and its pairs. -/
theorem bankModeByTable : Obligations.BankModeByTable := by
  unfold Obligations.BankModeByTable
  intro s r extra t ok refused m pending
  refine ⟨fun target hm h => ?table, fun n hm hn h => ?bad, fun hm h => ?reset⟩
  case table =>
    have hexec {u : State} {x : Reply} (hq : t.requestMode target = (u, x)) : exec .setBankMode s = .next (r.answered 6 x u) := by
      rw [exec_setBankMode h hm, doSetBankMode_code, hq]
    refine ⟨fun he => hexec ?same, fun he hs => ⟨fun hb => hexec ?unassigned, fun hb hc => hexec ?unset,
        fun hb hc => ⟨fun hv => hexec ?opens, fun hv => hexec ?wakes⟩⟩,
      fun he hc => hexec ?reopens, fun he ho => hexec ?closes, fun x he hx => ⟨fun hd => ⟨fun hp => hexec ?pending,
        fun hp => hexec ?dormant⟩, fun hc => hexec ?recorded, fun ho => hexec ?opened⟩, fun he hs => hexec ?leaves,
      fun he hs => hexec ?busy, fun he hs => hexec ?unopened⟩
    case same => exact State.requestMode_same (s := t) (fun hd => hm (he.trans hd)) he
    case unassigned =>
      obtain ⟨cs, hcs⟩ := State.requestMode_opened (s := t) hs
      rw [he, hcs, State.requestOpen_unassigned (s := t) hb]
    case unset =>
      obtain ⟨cs, hcs⟩ := State.requestMode_opened (s := t) hs
      rw [he, hcs, State.requestOpen_unset (s := t) hb hc]
    case opens => rw [he, State.requestMode_opened_service (s := t) hv, State.requestOpen_ready (s := t) hb hc]
    case wakes => rw [he, State.requestMode_opened_standby (s := t) hv, State.requestOpen_ready (s := t) hb hc]
    case reopens => rw [he, State.requestMode_opened_closing (s := t) hc]
    case closes => rw [he, State.requestMode_closing (s := t) ho]
    case pending =>
      rw [he, State.requestMode_dormant (s := t) hx hd]
      exact if_pos (t.wakePending_iff.2 hp)
    case dormant =>
      rw [he, State.requestMode_dormant (s := t) hx hd]
      exact if_neg fun hw => hp (t.wakePending_iff.1 hw)
    case recorded =>
      rw [he, State.requestMode_recorded (s := t) hx hc]
      rfl
    case opened =>
      refine State.requestMode_wrong (.inl ?_)
      subst he
      cases x with
      | service => exact absurd rfl hx
      | standby | deep => exact ⟨nofun, nofun, ho⟩
    case leaves => rw [he, State.requestMode_service (s := t) hs]
    case busy =>
      subst he
      exact State.requestMode_wrong (hs.imp (fun ho => ⟨nofun, nofun, ho⟩) fun hc => .inl ⟨rfl, hc⟩)
    case unopened => exact State.requestMode_wrong (.inr (.inr ⟨he, hs⟩))
  case bad =>
    show exec .setBankMode s = _
    rw [exec_setBankMode h hm, doSetBankMode, modeOf_eq_none hn]
  case reset =>
    obtain ⟨hmode, hrequested⟩ := State.resetMode_bcm s.beginRequest.abortAll
    obtain ⟨hchange, hwake⟩ := s.beginRequest.events_doBankReset
    obtain ⟨-, -, -, -, hpolicy, hbank, hnow, hclock⟩ := s.beginRequest.abortAll.resetMode_frame
    have hunwound := s.beginRequest.unwinds_abortAll
    have hexec := exec_bankReset h hm
    have hlane := s.beginRequest.lane_doBankReset
    have hslot := s.beginRequest.slot_doBankReset
    have hpair := s.beginRequest.inForce_doBankReset
    have hcore := s.beginRequest.core_doBankReset
    have hlink := State.link_doBankReset (s := s.beginRequest)
    obtain ⟨ls, ps, ks, hframe⟩ := s.beginRequest.doBankReset_frame
    generalize s.beginRequest.doBankReset = u at *
    generalize s.beginRequest.abortAll.resetMode = w at *
    have hstart : s.beginRequest.core = s.core := rfl
    refine ⟨u, hexec, by rw [hframe]; exact hmode, by rw [hframe]; exact hrequested, fun l => ?_, hpair, hchange, hwake,
      State.abortedFor_of_core (hcore.trans (State.core_foldl_abort (List.nodup_finRange 16) hstart (fun _ _ => rfl) _)),
      fun k => ?_, fun l => (hlane l).trans (adopted_withdrawn s.policy (s.lane l)), hlink, ?_, ?_, ?_, ?_⟩
    · rw [hlane l]
      exact State.state_withdrawn (s.lane l)
    · have hlamp : s.beginRequest.resetLamp allLanes k = s.resetLamp allLanes k := rfl
      rw [hslot, Slot.verdictDropped_eq, hlamp, State.resetLamp_all]
      rfl
    · rw [hframe]
      exact hpolicy.trans hunwound.policy
    · rw [hframe]
      exact hbank.trans hunwound.bank
    · rw [hframe]
      refine hclock.trans ?_
      rw [hunwound.bcm]
      rfl
    · rw [hframe]
      exact hnow.trans hunwound.now

end Sys2Proof.Machine
end

section
/-! SUPPORT. The parts of a change of bank mode (R156 to R158): causes raised in turn, the link test's end, and a pass
over the lanes. -/

namespace Sys2Proof.Machine
namespace State

variable {s t u : State} {l m : LaneNo}

/-! ## Causes raised where no STANDBY is released (R159) -/

/-- No cause releases the bank: it is not in STANDBY, or it enters a dormant mode now. -/
def Calm (s : State) : Prop := s.bcm.mode ≠ .standby ∨ s.bcm.entering = true

theorem raise_calm_eq (h : s.Calm) (c : Cause) (d : Option Nat) : s.raise c d = { s with evu := (s.raise c d).evu } := by
  rw [raise_calm h]
  exact State.ext' (by simp) (by simp) (by simp) (by simp) (by simp) (by simp) (by simp) (by simp) (by simp) (by simp)
    (by simp) (by simp) (by simp) (by simp) rfl (by simp)

/-- Causes raised in turn without detail, as a change of mode does. -/
def raises (s : State) (cs : List Cause) : State := cs.foldl (fun u c => u.raise c none) s

theorem pending_raises (cs : List Cause) {i : Fin 24} (h : (s.evu.causes.get i).pending = true) :
    ((s.raises cs).evu.causes.get i).pending = true := by
  induction cs generalizing s with
  | nil => exact h
  | cons c cs ih => exact ih (pending_raise c none h)

theorem raises_pending {cs : List Cause} {c : Cause} (h : c ∈ cs) (s : State) :
    ((s.raises cs).evu.causes.get (causeIndex c)).pending = true := by
  induction cs generalizing s with
  | nil => cases h
  | cons e cs ih =>
    rcases List.mem_cons.1 h with rfl | hc
    · exact pending_raises cs (raise_pending s c none)
    · exact ih hc _

theorem raises_eq (h : s.Calm) (cs : List Cause) : s.raises cs = { s with evu := (s.raises cs).evu } := by
  induction cs generalizing s with
  | nil => rfl
  | cons c cs ih =>
    have hstep := raise_calm_eq h c none
    show (s.raise c none).raises cs = { s with evu := ((s.raise c none).raises cs).evu }
    generalize s.raise c none = w at hstep
    rw [ih (s := w) (by rw [hstep]; exact h), hstep]

/-! ## The link test's end (R135) -/

theorem endTest_eq (h : s.Calm) : s.endTest = { s with link := { s.link with test := none }, evu := s.endTest.evu } := by
  unfold State.endTest
  split
  · have hcalm : (s.modLink fun k => { k with test := none }).Calm := h
    rw [raise_calm_eq hcalm]
    rfl
  · next hn =>
    have hlink : ({ s.link with test := none } : Link) = s.link := by rw [← hn]
    rw [hlink]

theorem pending_endTest {i : Fin 24} (h : (s.evu.causes.get i).pending = true) :
    (s.endTest.evu.causes.get i).pending = true := by
  unfold State.endTest
  split
  · exact pending_raise _ _ h
  · exact h

theorem endTest_pending (h : s.link.test ≠ none) : (s.endTest.evu.causes.get 22).pending = true := by
  unfold State.endTest
  split
  · exact raise_pending _ .testDone none
  · next hn => exact absurd hn h

theorem lanes_endTest (s : State) : s.endTest.lanes = s.lanes := by
  unfold State.endTest
  split <;> simp

theorem slots_endTest (s : State) : s.endTest.link.slots = s.link.slots := by
  unfold State.endTest
  split <;> simp

/-! ## The lanes that are offered IDLE, and those that close (R78) -/

theorem AlikeAt.mayIdle (h : AlikeAt l s t) : t.mayIdle l = s.mayIdle l := by
  have hopened : decide (t.bcm.mode = .opened) = decide (s.bcm.mode = .opened) := decide_eq_decide.2 h.opened
  have hcombined : t.combined l = s.combined l := by simp [State.combined, h.pairs]
  rw [State.mayIdle, State.mayIdle, h.lane, h.link, hcombined]
  exact congrArg (_ && ·) hopened

theorem laneLocal_offerIdle : LaneLocal State.offerIdle where
  lanesOnly k s := iteInduction (fun _ => .tryIdle s k) fun _ => .refl s
  others k l s hne := by
    unfold State.offerIdle
    split
    · exact lane_tryIdle_of_ne hne
    · rfl
  alike l s t h := by
    unfold State.offerIdle
    rw [h.mayIdle]
    split
    · exact h.tryIdle
    · exact h.lane

theorem offerIdle_busy (h : (s.lane l).state ≠ .closed) : s.offerIdle l = s := by
  unfold State.offerIdle
  rw [tryIdle_busy h, ite_self]

/-- A lane as the bank mode closes it: one that is IDLE or REFUSING adopts and is CLOSED (R78). -/
theorem lane_closeLane (s : State) (l m : LaneNo) : (s.closeLane l).lane m =
    if m = l ∧ ((s.lane l).state = .idle ∨ (s.lane l).state = .refusing) then
      Lane.cleared .closed (Lane.adopted s.policy (s.lane l)) else s.lane m := by
  by_cases h : (s.lane l).state = .idle ∨ (s.lane l).state = .refusing
  · rw [closeLane_idle h, State.lane_enterClosed, State.lane_adopt, State.lane_adopt, if_pos rfl]
    by_cases he : m = l
    · rw [if_pos he, if_pos ⟨he, h⟩]
    · rw [if_neg he, if_neg he, if_neg fun g => he g.1]
  · rw [closeLane_busy (fun hi => h (.inl hi)) fun hr => h (.inr hr), if_neg fun g => h g.2]

theorem laneLocal_closeLane : LaneLocal State.closeLane where
  lanesOnly k s := s.lanesOnly_closeLane k
  others k l s hne := by rw [lane_closeLane, if_neg fun g => hne g.1]
  alike l s t h := by rw [lane_closeLane, lane_closeLane, h.lane, h.policy]

theorem lane_closeAll (s : State) (l : LaneNo) : (s.eachLane State.closeLane).lane l =
    if (s.lane l).state = .idle ∨ (s.lane l).state = .refusing then
      Lane.cleared .closed (Lane.adopted s.policy (s.lane l)) else s.lane l := by
  rw [laneLocal_closeLane.lane_eachLane, lane_closeLane]
  exact if_congr (and_iff_right rfl) rfl rfl

/-- No lane that closes has an operation to abort. -/
theorem operation_closed (s : State) (l : LaneNo) : (if (s.lane l).state = .idle ∨ (s.lane l).state = .refusing then
    Lane.cleared .closed (Lane.adopted s.policy (s.lane l)) else s.lane l).operation = (s.lane l).operation := by
  split
  · next h =>
    have hn : ¬((s.lane l).state = .opened ∨ (s.lane l).state = .querying) := by
      rcases h with h | h <;> simp [h]
    exact (if_neg (by simp [Lane.cleared])).trans (if_neg hn).symm
  · rfl

/-- A lane that closes leaves in every slot what the stop of the link keeps (R136). -/
theorem stopped_closeLane (s : State) (l k : LaneNo) : ((s.closeLane l).slot k).stopped = (s.slot k).stopped := by
  by_cases h : (s.lane l).state = .idle ∨ (s.lane l).state = .refusing
  · rw [closeLane_idle h, State.slot_enterClosed]
    split
    · rw [Slot.endVerdict_eq]
      rfl
    · rfl
  · rw [closeLane_busy (fun hi => h (.inl hi)) fun hr => h (.inr hr)]

theorem stopped_closeAll (s : State) (k : LaneNo) : ((s.eachLane State.closeLane).slot k).stopped = (s.slot k).stopped := by
  have hfold (ls : List LaneNo) (s : State) : ((ls.foldl (fun u l => u.closeLane l) s).slot k).stopped = (s.slot k).stopped := by
    induction ls generalizing s with
    | nil => rfl
    | cons l ls ih => exact (ih _).trans (s.stopped_closeLane l k)
  exact hfold allLanes s

/-! ## Flags on the way (R133) -/

theorem triggers_lanesOnly (h : s.triggers t) (hu : LanesOnly t u) : s.triggers u := by
  rw [hu.frame]
  exact h.congr rfl rfl rfl (flag_congr rfl rfl rfl rfl rfl rfl rfl)

theorem flag_setMode (s : State) (b : BankMode) {x : FlagSource} (ho : x ≠ .bankOpen) (hc : x ≠ .closing) :
    (s.setMode b).flag x = s.flag x := by
  rw [setMode_eq]
  cases x with
  | bankOpen => exact absurd rfl ho
  | closing => exact absurd rfl hc
  | zero | one | surge | degraded | anyZoneFull | logFull | cycleParity => rfl

/-- The mode makes its triggers and the start of the link its own (R136, R155). -/
theorem triggers_startLink_setMode {b : BankMode} (hl : u.link = (s.setMode b).link) (hf : u.flag = (s.setMode b).flag) :
    s.triggers u.startLink := by
  have hmode : s.triggers u := (s.triggers_setMode b).congr rfl rfl (congrArg Link.trigger hl) hf
  refine hmode.trans (triggers_startLink u) (by simp [hl]) fun x => ?_
  by_cases hx : x = .cycleParity
  · subst hx
    exact .inl ((congrFun hf _).trans (s.flag_setMode b (x := .cycleParity) (by decide) (by decide)))
  · exact .inr (flag_startLink u hx)

theorem running_startLink (h : s.link.stopping = false) : s.startLink.link.running = true := by
  cases hr : s.link.running with
  | false => exact (startLink_running hr h).1
  | true =>
    rw [State.startLink, hr]
    exact hr

end State
end Sys2Proof.Machine
end

section
/-! SUPPORT. The parts of a dormant entry (R136, R158) and the ways in which CLOSING ends (R157). -/

namespace Sys2Proof.Machine
namespace State

variable {s t u v : State} {l m : LaneNo} {x : RestMode}

/-- A dormant entry up to the lanes that it closes. -/
def dormantLanes (s : State) (x : RestMode) : State := ((s.setEntering true).setMode x.mode).eachLane State.closeLane

/-- A dormant entry up to the stop of the link. -/
def dormantStart (s : State) (x : RestMode) : State := (s.dormantLanes x).endTest

/-- A dormant entry after the stop of the link. -/
def dormantEnd (v : State) (x : RestMode) : State :=
  (if x = .deep then (v.raise .modeChange none).sinkDeep else v.raise .modeChange none).setEntering false

/-- The stop of the link in a dormant entry: at once, or with the slot in progress (R136). -/
def dormantStop (u : State) : State :=
  if u.link.running then (if u.link.awaiting then u.modLink fun k => { k with stopping := true } else u.haltLink) else u

theorem enterDormant_eq (s : State) (x : RestMode) : s.enterDormant x = (s.dormantStart x).dormantStop.dormantEnd x := by
  unfold State.enterDormant dormantEnd dormantStop dormantStart dormantLanes
  dsimp only

/-! ## Up to the stop -/

theorem lanesOnly_dormantLanes (s : State) (x : RestMode) :
    LanesOnly ((s.setEntering true).setMode x.mode) (s.dormantLanes x) :=
  laneLocal_closeLane.lanesOnly_eachLane _

theorem calm_dormantLanes (s : State) (x : RestMode) : (s.dormantLanes x).Calm :=
  .inr (by rw [(s.lanesOnly_dormantLanes x).bcm]; simp [State.setEntering])

theorem lane_dormantLanes (s : State) (x : RestMode) (l : LaneNo) : (s.dormantLanes x).lane l =
    if (s.lane l).state = .idle ∨ (s.lane l).state = .refusing then
      Lane.cleared .closed (Lane.adopted s.policy (s.lane l)) else s.lane l := by
  have hlane : ((s.setEntering true).setMode x.mode).lane l = s.lane l := by simp [State.lane, State.setEntering]
  have hpolicy : ((s.setEntering true).setMode x.mode).policy = s.policy := by simp [State.setEntering]
  rw [dormantLanes, lane_closeAll, hlane, hpolicy]

theorem dormantStart_eq (s : State) (x : RestMode) : ∃ ls ks r e, s.dormantStart x = { s with
    lanes := ls, evu := e, bcm := { s.bcm with entering := true, mode := x.mode },
    link := { s.link with test := none, trigger := r, slots := ks } } := by
  rw [dormantStart, endTest_eq (s.calm_dormantLanes x), (s.lanesOnly_dormantLanes x).frame, setMode_eq]
  exact ⟨_, _, _, _, rfl⟩

theorem calm_dormantStart (s : State) (x : RestMode) : (s.dormantStart x).Calm := by
  obtain ⟨ls, ks, r, e, heq⟩ := s.dormantStart_eq x
  exact .inr (by rw [heq])

theorem lane_dormantStart (s : State) (x : RestMode) (l : LaneNo) : (s.dormantStart x).lane l = (s.dormantLanes x).lane l := by
  rw [dormantStart, State.lane, lanes_endTest, State.lane]

theorem slot_dormantStart (s : State) (x : RestMode) (k : LaneNo) : (s.dormantStart x).slot k = (s.dormantLanes x).slot k := by
  rw [dormantStart, State.slot, slots_endTest, State.slot]

/-- What the entry closes (R78). -/
theorem closed_dormantStart (h : (s.lane l).state = .idle ∨ (s.lane l).state = .refusing ∨ (s.lane l).state = .closed)
    (x : RestMode) : ((s.dormantStart x).lane l).state = .closed := by
  rw [lane_dormantStart, lane_dormantLanes]
  split
  · rfl
  · next hn =>
    rcases h with h | h | h
    · exact absurd (.inl h) hn
    · exact absurd (.inr h) hn
    · exact h

/-- No cause that is pending is lost on the way to the stop, and a test makes TEST_DONE. -/
theorem pending_dormantStart (s : State) (x : RestMode) :
    (∀ i, (s.evu.causes.get i).pending = true → ((s.dormantStart x).evu.causes.get i).pending = true) ∧
      (s.link.test ≠ none → ((s.dormantStart x).evu.causes.get 22).pending = true) := by
  have hlanes := s.lanesOnly_dormantLanes x
  rw [dormantStart]
  generalize s.dormantLanes x = w at hlanes
  refine ⟨fun i hi => pending_endTest ?_, fun ht => endTest_pending ?_⟩
  · rw [hlanes.evu]
    simpa [State.setEntering] using hi
  · rw [hlanes.frame]
    simpa [State.setEntering] using ht

/-- The stop finds all that it rests on as it was before the entry (R136). -/
theorem stopAlike_dormantStart (s : State) (x : RestMode) : StopAlike s (s.dormantStart x) := by
  obtain ⟨ls, ks, r, e, heq⟩ := s.dormantStart_eq x
  have hslot (k : LaneNo) : ((s.setEntering true).setMode x.mode).slot k = s.slot k := by simp [State.slot, State.setEntering]
  refine ⟨fun l => ?_, fun l => ?_, fun l => ?_, ?_, fun h a hp => ⟨a, ?_, rfl⟩, fun _ => ?_, ?_⟩
  · rw [slot_dormantStart, dormantLanes, stopped_closeAll, hslot]
  · rw [slot_dormantStart, (s.lanesOnly_dormantLanes x).links, hslot]
  · rw [lane_dormantStart, lane_dormantLanes]
    exact operation_closed s l
  · rw [heq]
    rfl
  · rw [heq, ← hp]
  · rw [heq]
  · rw [heq]

/-- On the way to the stop the mode alone makes triggers (R133). -/
theorem triggers_dormantStart (s : State) (x : RestMode) : s.triggers (s.dormantStart x) := by
  have hmode : s.triggers ((s.setEntering true).setMode x.mode) :=
    ((s.setEntering true).triggers_setMode x.mode).congr rfl (flag_congr rfl rfl rfl rfl rfl rfl rfl) rfl rfl
  have hall := triggers_lanesOnly hmode (s.lanesOnly_dormantLanes x)
  rw [dormantStart, endTest_eq (s.calm_dormantLanes x)]
  generalize s.dormantLanes x = w at hall
  exact hall.congr rfl rfl rfl (flag_congr rfl rfl rfl rfl rfl rfl rfl)

/-! ## The stop -/

theorem dormantStop_still (h : u.link.running = false) : u.dormantStop = u := if_neg (by rw [h]; exact nofun)

theorem dormantStop_halts (h : u.link.running = true) (ha : u.link.awaiting = false) : u.dormantStop = u.haltLink := by
  rw [dormantStop, if_pos h, if_neg (by rw [ha]; exact nofun)]

theorem dormantStop_waits (h : u.link.running = true) (ha : u.link.awaiting = true) :
    u.dormantStop = u.modLink fun k => { k with stopping := true } := by
  rw [dormantStop, if_pos h, if_pos ha]

theorem lane_stopLanes_idle {ls : List LaneNo} (h : (s.slot l).link ≠ .active) : (s.stopLanes ls).lane l = s.lane l := by
  induction ls generalizing s with
  | nil => rfl
  | cons m ls ih =>
    refine (ih (s := s.stopLane m) (by rwa [(slot_stopLane s m l).1])).trans ?_
    by_cases he : l = m
    · subst he
      rw [stopLane_idle h]
    · exact lane_stopLane_of_ne he

/-- A lane that is CLOSED stays CLOSED as the link stops (R93, R136). -/
theorem closed_haltLink (h : (s.lane l).state = .closed) : (s.haltLink.lane l).state = .closed := by
  rw [lane_haltLink, state_stopped]
  by_cases ha : (s.slot l).link = .active
  · exact (lane_stopLanes_active (List.nodup_finRange 16) (List.mem_finRange l) ha).1
  · rw [lane_stopLanes_idle ha, h]

/-- Whichever way the link stops, the mode, the link test, the causes, the lanes that are CLOSED and the requests stand. -/
theorem dormantStop_keeps (h : u.Calm) : u.dormantStop.bcm = u.bcm ∧ u.dormantStop.link.test = u.link.test ∧
    (∀ i, (u.evu.causes.get i).pending = true → (u.dormantStop.evu.causes.get i).pending = true) ∧
    (∀ l, (u.lane l).state = .closed → (u.dormantStop.lane l).state = .closed) ∧
    u.dormantStop.mge.queue = u.mge.queue := by
  cases hr : u.link.running with
  | false =>
    rw [dormantStop_still hr]
    exact ⟨rfl, rfl, fun _ hi => hi, fun _ hl => hl, rfl⟩
  | true =>
    cases ha : u.link.awaiting with
    | true =>
      rw [dormantStop_waits hr ha]
      exact ⟨rfl, rfl, fun _ hi => hi, fun _ hl => hl, rfl⟩
    | false =>
      obtain ⟨hbcm, hlink⟩ := bcm_haltLink h
      rw [dormantStop_halts hr ha]
      exact ⟨hbcm, by rw [hlink], fun i => u.pending_haltLink i, fun l => closed_haltLink, u.queue_haltLink⟩

/-! ## After the stop -/

theorem dormantEnd_eq (h : v.Calm) (x : RestMode) : v.dormantEnd x = { v with
    evu := (v.raise .modeChange none).evu,
    mge := { v.mge with queue := if x = .deep then [] else v.mge.queue },
    bcm := { v.bcm with entering := false, clock := if x = .deep then none else v.bcm.clock } } := by
  unfold dormantEnd
  rw [raise_calm_eq h]
  split <;> rfl

theorem stopKept_dormantEnd (h : v.Calm) (x : RestMode) : StopKept v (v.dormantEnd x) := by
  have hothers (c : Cause) (hc : c ∉ [Cause.modeChange]) (hw : c ≠ .wake) :=
    ((Unwinds.refl [Cause.modeChange] v).raise (c := .modeChange) (d := none) (by decide)).others c hc hw
      fun he => hc (he ▸ List.mem_cons_self)
  have hdetected := ((Retains.refl v).raise .modeChange none).detected 12
  rw [dormantEnd_eq h]
  exact ⟨rfl, rfl, rfl, rfl, rfl, rfl, rfl, rfl, rfl, hothers .presence (by decide) (by decide),
    hothers .laneAccessDone (by decide) (by decide), hdetected⟩

end State
end Sys2Proof.Machine
end

section
/-! SUPPORT. A change of bank mode whole: the dormant entry (R158), OPEN (R156) and CLOSING with its end (R157). -/

namespace Sys2Proof.Machine
namespace State

variable {s t u v : State} {l m : LaneNo} {x : RestMode} {cs : List Cause}

/-! ## A dormant entry -/

/-- The stop of a dormant entry keeps what the statements name, and the end of the entry starts from a calm state. -/
theorem enterDormant_via (s : State) (x : RestMode) : ∃ v : State, v = (s.dormantStart x).dormantStop ∧ v.Calm ∧
    s.enterDormant x = { v with
      evu := (v.raise .modeChange none).evu,
      mge := { v.mge with queue := if x = .deep then [] else v.mge.queue },
      bcm := { v.bcm with entering := false, clock := if x = .deep then none else v.bcm.clock } } := by
  have hcalm := s.calm_dormantStart x
  have hkeep : (s.dormantStart x).dormantStop.Calm := by
    rw [Calm, (dormantStop_keeps hcalm).1]
    exact hcalm
  exact ⟨_, rfl, hkeep, (s.enterDormant_eq x).trans (dormantEnd_eq hkeep x)⟩

theorem pending_enterDormant (x : RestMode) {i : Fin 24} (h : (s.evu.causes.get i).pending = true) :
    ((s.enterDormant x).evu.causes.get i).pending = true := by
  obtain ⟨v, hv, -, heq⟩ := s.enterDormant_via x
  rw [heq]
  refine pending_raise _ _ ?_
  rw [hv]
  exact (dormantStop_keeps (s.calm_dormantStart x)).2.2.1 i ((s.pending_dormantStart x).1 i h)

theorem closed_enterDormant (x : RestMode)
    (h : (s.lane l).state = .idle ∨ (s.lane l).state = .refusing ∨ (s.lane l).state = .closed) :
    ((s.enterDormant x).lane l).state = .closed := by
  obtain ⟨v, hv, -, heq⟩ := s.enterDormant_via x
  have hlane : (s.enterDormant x).lane l = v.lane l := by
    rw [heq]
    rfl
  rw [hlane, hv]
  exact (dormantStop_keeps (s.calm_dormantStart x)).2.2.2.1 l (closed_dormantStart h x)

theorem bcm_enterDormant (s : State) (x : RestMode) : (s.enterDormant x).bcm = { s.bcm with
    mode := x.mode, entering := false, clock := if x = .deep then none else s.bcm.clock } := by
  obtain ⟨ls, ks, r, e, hstart⟩ := s.dormantStart_eq x
  obtain ⟨v, hv, -, heq⟩ := s.enterDormant_via x
  have hbcm : v.bcm = { s.bcm with entering := true, mode := x.mode } := by
    rw [hv, (dormantStop_keeps (s.calm_dormantStart x)).1, hstart]
  rw [heq, hbcm]

/-! ## OPEN -/

theorem startLink_only (s : State) : s.startLink = { s with link := s.startLink.link } := by
  unfold State.startLink
  split
  · rfl
  · rw [flagging_eq]
    rfl

/-- An entry to OPEN up to the lanes that are offered IDLE. -/
def openStart (s : State) (cs : List Cause) : State :=
  (((s.setMode .opened).modBcm fun b => { b with requested := none }).startLink.endTest).raises (cs ++ [.modeChange])

theorem enterOpen_eq (s : State) (cs : List Cause) : s.enterOpen cs = (s.openStart cs).eachLane State.offerIdle := by
  unfold State.enterOpen openStart raises
  dsimp only

theorem openStart_eq (s : State) (cs : List Cause) : ∃ e, s.openStart cs = { s with
    evu := e, bcm := { s.bcm with mode := .opened, requested := none },
    link := { ((s.setMode .opened).modBcm fun b => { b with requested := none }).startLink.link with test := none } } := by
  set p := ((s.setMode .opened).modBcm fun b => { b with requested := none }).startLink with hp
  have hbcm : p.bcm.mode = .opened := by simp [hp]
  have hcalm : p.Calm := .inl (by rw [hbcm]; exact nofun)
  have htest := endTest_eq hcalm
  have hcalm' : p.endTest.Calm := by rw [htest]; exact hcalm
  have honly : p = { s with bcm := { s.bcm with mode := .opened, requested := none }, link := p.link } := by
    rw [hp, startLink_only, setMode_eq]
    rfl
  refine ⟨(p.endTest.raises (cs ++ [.modeChange])).evu, ?_⟩
  rw [openStart, ← hp, raises_eq hcalm', htest, honly]

theorem pending_openStart {c : Cause} (h : c ∈ cs ++ [.modeChange]) (s : State) :
    ((s.openStart cs).evu.causes.get (causeIndex c)).pending = true := raises_pending h _

theorem alike_openStart (s : State) (cs : List Cause) (l : LaneNo) :
    AlikeAt l { s with bcm := { s.bcm with mode := .opened } } (s.openStart cs) := by
  obtain ⟨e, heq⟩ := s.openStart_eq cs
  have hslots : (s.openStart cs).link.slots = s.link.slots := by
    rw [heq]
    simp
  refine ⟨?_, ?_, ?_, ?_, ?_⟩
  · rw [heq]
    rfl
  · rw [heq]
  · rw [heq]
  · rw [State.slot, hslots]
    rfl
  · rw [heq]

theorem triggers_openStart (s : State) (cs : List Cause) : s.triggers (s.openStart cs) := by
  obtain ⟨e, heq⟩ := s.openStart_eq cs
  have hmode : s.triggers ((s.setMode .opened).modBcm fun b => { b with requested := none }).startLink :=
    triggers_startLink_setMode (b := .opened) rfl (flag_congr rfl rfl rfl rfl rfl rfl rfl)
  rw [heq]
  refine hmode.congr rfl rfl rfl ?_
  rw [startLink_only ((s.setMode .opened).modBcm fun b => { b with requested := none })]
  exact flag_congr (by simp) (by simp) (by simp) (by simp) (by simp) (by simp) rfl

/-! ## The end of CLOSING (R157) -/

theorem settlePairs_settled (h : s.pairsSettled) : s.settlePairs = s := by
  have hfold (ks : List (Fin 8)) : ks.foldl (fun t k => t.settlePair k) s = s := by
    induction ks with
    | nil => rfl
    | cons k ks ih => rw [List.foldl_cons, settlePair_of_not fun hk => hk.1 (h k), ih]
  exact hfold allPairs

theorem allClosed_iff (s : State) : s.allClosed = true ↔ ∀ l, (s.lane l).state = .closed := by
  simp [State.allClosed, allLanes]

theorem settleClosing_open (h : s.bcm.mode ≠ .closing ∨ ∃ l, (s.lane l).state ≠ .closed) : s.settleClosing = s := by
  refine if_neg fun hc => ?_
  rcases h with h | ⟨l, h⟩
  · exact h hc.1
  · exact h ((allClosed_iff s).1 hc.2 l)

theorem closingTarget_service {r : Option RestMode} {a : RestMode} : closingTarget r a = .service ↔
    ¬(r = some .deep ∨ a = .deep) ∧ ¬(r = some .standby ∨ a = .standby) := by
  rcases r with _ | r
  · cases a <;> simp [closingTarget]
  · cases r <;> cases a <;> simp [closingTarget, RestMode.depth]

theorem closingTarget_deep {r : Option RestMode} {a : RestMode} : closingTarget r a = .deep ↔ r = some .deep ∨ a = .deep := by
  rcases r with _ | r
  · cases a <;> simp [closingTarget]
  · cases r <;> cases a <;> simp [closingTarget, RestMode.depth]

/-- CLOSING that ends, its requested mode taken. -/
def closingOver (s : State) : State := { s with bcm := { s.bcm with requested := none } }

theorem settleClosing_over (hm : s.bcm.mode = .closing) (hc : ∀ l, (s.lane l).state = .closed) : s.settleClosing =
    if closingTarget s.bcm.requested s.bcm.schedule.afterClose = .service ∨ s.wakePending = true then
      (s.closingOver.setMode .service).raise .modeChange none
    else s.closingOver.enterDormant (closingTarget s.bcm.requested s.bcm.schedule.afterClose) := by
  rw [State.settleClosing, if_pos ⟨hm, (allClosed_iff s).2 hc⟩]
  rfl

/-- CLOSING that ends in SERVICE (R157). -/
theorem service_closingOver (s : State) : (s.closingOver.setMode .service).raise .modeChange none =
    { s.closingOver.setMode .service with evu := ((s.closingOver.setMode .service).raise .modeChange none).evu } :=
  raise_calm_eq (.inl (by simp)) _ _

/-- Whether or not CLOSING ends, pending causes stay, lanes that are CLOSED too, and a bank that is still CLOSING is as it was. -/
theorem settleClosing_keeps (s : State) :
    (∀ i, (s.evu.causes.get i).pending = true → (s.settleClosing.evu.causes.get i).pending = true) ∧
    (∀ l, (s.lane l).state = .closed → (s.settleClosing.lane l).state = .closed) ∧
    (s.settleClosing.bcm.mode = .closing → s.settleClosing = s) := by
  by_cases hm : s.bcm.mode = .closing
  · by_cases hc : ∀ l, (s.lane l).state = .closed
    · rw [settleClosing_over hm hc]
      split
      · refine ⟨fun i hi => pending_raise _ _ (by simpa [closingOver] using hi), fun l hl => ?_, fun hn => ?_⟩
        · simpa [closingOver, State.lane] using hl
        · rw [service_closingOver] at hn
          simp at hn
      · refine ⟨fun i hi => pending_enterDormant _ hi, fun l hl => closed_enterDormant _ (.inr (.inr hl)), fun hn => ?_⟩
        rw [bcm_enterDormant] at hn
        revert hn
        cases closingTarget s.bcm.requested s.bcm.schedule.afterClose <;> exact nofun
    · rw [settleClosing_open (.inr (not_forall.1 hc))]
      exact ⟨fun _ hi => hi, fun _ hl => hl, fun _ => rfl⟩
  · rw [settleClosing_open (.inl hm)]
    exact ⟨fun _ hi => hi, fun _ hl => hl, fun _ => rfl⟩

/-! ## CLOSING -/

/-- An entry to CLOSING up to the causes that it raises. -/
def closingRaised (s : State) (cs : List Cause) : State :=
  ((s.setMode .closing).modBcm fun b => { b with requested := none }).raises (cs ++ [.modeChange])

/-- An entry to CLOSING up to the end that it may have at once. -/
def closingStart (s : State) (cs : List Cause) : State := ((s.closingRaised cs).eachLane State.closeLane).settlePairs

theorem enterClosing_eq (s : State) (cs : List Cause) : s.enterClosing cs = (s.closingStart cs).settleClosing := by
  unfold State.enterClosing State.settle closingStart closingRaised raises
  dsimp only

theorem closingRaised_eq (s : State) (cs : List Cause) : ∃ e, s.closingRaised cs = { s with
    evu := e, bcm := { s.bcm with mode := .closing, requested := none },
    link := { s.link with trigger := (s.setMode .closing).link.trigger } } := by
  have hcalm : ((s.setMode .closing).modBcm fun b => { b with requested := none }).Calm := .inl (by simp)
  refine ⟨(s.closingRaised cs).evu, ?_⟩
  rw [closingRaised, raises_eq hcalm]
  generalize (((s.setMode .closing).modBcm fun b => { b with requested := none }).raises (cs ++ [.modeChange])).evu = e
  rw [setMode_eq]
  rfl

theorem closingStart_only (s : State) (cs : List Cause) : ∃ ls ps ks, s.closingStart cs = { s.closingRaised cs with
    lanes := ls, pairs := ps, link := { (s.closingRaised cs).link with slots := ks } } := by
  rw [closingStart, settlePairs_eq, (laneLocal_closeLane.lanesOnly_eachLane (s.closingRaised cs)).frame]
  exact ⟨_, _, _, rfl⟩

theorem pending_closingStart {c : Cause} (h : c ∈ cs ++ [.modeChange]) (s : State) :
    ((s.closingStart cs).evu.causes.get (causeIndex c)).pending = true := by
  obtain ⟨ls, ps, ks, heq⟩ := s.closingStart_only cs
  rw [heq]
  exact raises_pending h _

theorem mode_closingStart (s : State) (cs : List Cause) : (s.closingStart cs).bcm.mode = .closing := by
  obtain ⟨ls, ps, ks, heq⟩ := s.closingStart_only cs
  obtain ⟨e, hraised⟩ := s.closingRaised_eq cs
  rw [heq, hraised]

theorem triggers_closingStart (s : State) (cs : List Cause) : s.triggers (s.closingStart cs) := by
  obtain ⟨ls, ps, ks, heq⟩ := s.closingStart_only cs
  obtain ⟨e, hraised⟩ := s.closingRaised_eq cs
  rw [heq, hraised]
  refine (s.triggers_setMode .closing).congr rfl rfl rfl ?_
  rw [setMode_eq]
  exact flag_congr rfl rfl rfl rfl rfl rfl rfl

/-- The lanes before the pairs settle, IDLE and REFUSING ones closed (R78). -/
theorem lane_closingLanes (s : State) (cs : List Cause) (l : LaneNo) :
    ((s.closingRaised cs).eachLane State.closeLane).lane l =
      if (s.lane l).state = .idle ∨ (s.lane l).state = .refusing then
        Lane.cleared .closed (Lane.adopted s.policy (s.lane l)) else s.lane l := by
  obtain ⟨e, hraised⟩ := s.closingRaised_eq cs
  have hlane : (s.closingRaised cs).lane l = s.lane l := by
    rw [hraised]
    rfl
  have hpolicy : (s.closingRaised cs).policy = s.policy := by rw [hraised]
  rw [lane_closeAll, hlane, hpolicy]

theorem closed_closingStart (h : (s.lane l).state = .idle ∨ (s.lane l).state = .refusing) (cs : List Cause) :
    ((s.closingStart cs).lane l).state = .closed := by
  obtain ⟨e, hraised⟩ := s.closingRaised_eq cs
  refine closed_settlePairs ?_ ?_
  · rw [(laneLocal_closeLane.lanesOnly_eachLane (s.closingRaised cs)).bcm, hraised]
    exact nofun
  · rw [lane_closingLanes, if_pos h]
    rfl

/-- An operation goes on in CLOSING (R157). -/
theorem busy_closingStart (h : (s.lane l).state = .opened ∨ (s.lane l).state = .querying) (cs : List Cause) :
    (s.closingStart cs).lane l = s.lane l := by
  have hn : ¬((s.lane l).state = .idle ∨ (s.lane l).state = .refusing) := by rcases h with h | h <;> simp [h]
  have hlane : ((s.closingRaised cs).eachLane State.closeLane).lane l = s.lane l := by rw [lane_closingLanes, if_neg hn]
  rw [closingStart, lane_settlePairs_busy, hlane]
  · rw [hlane]
    exact fun hi => hn (.inl hi)
  · rw [hlane]
    rcases h with h | h <;> simp [h]

end State
end Sys2Proof.Machine
end

section
/-! Changes of the bank mode (O54). -/

namespace Sys2Proof.Machine

open State in
/-- Settles O54: each change of mode by its parts, its causes, its lanes and the stop of the link. -/
theorem modeChangesTakeEffect : Obligations.ModeChangesTakeEffect := by
  unfold Obligations.ModeChangesTakeEffect
  intro s
  refine ⟨fun cs hs => ?opened, fun hm cs => ?closing, fun hp => ⟨fun ho => ?goesOn, fun hm hc => ?ends⟩, fun x hx => ?dormant,
    fun hm => ?left⟩
  case opened =>
    obtain ⟨e, heq⟩ := s.openStart_eq cs
    have hlanes := laneLocal_offerIdle.lanesOnly_eachLane (s.openStart cs)
    have hlane (l : LaneNo) : (s.enterOpen cs).lane l = ((s.openStart cs).offerIdle l).lane l := by
      rw [enterOpen_eq, laneLocal_offerIdle.lane_eachLane]
    have htriggers := triggers_lanesOnly (s.triggers_openStart cs) hlanes
    have hpending {c : Cause} (h : c ∈ cs ++ [.modeChange]) := s.pending_openStart h
    have halike := s.alike_openStart cs
    rw [← enterOpen_eq] at hlanes htriggers
    refine ⟨?_, ?_, ?_, ?_, fun c hc => ?_, fun l => ?_, fun l hl => ?_, htriggers, ?_, ?_, ?_⟩
    · rw [hlanes.bcm, heq]
    · rw [hlanes.frame, heq]
      dsimp only
      exact running_startLink (by simpa using hs)
    · rw [hlanes.frame, heq]
    · rw [hlanes.evu]
      exact hpending (c := .modeChange) (by simp)
    · rw [hlanes.evu]
      exact hpending (by simp [hc])
    · rw [hlane]
      exact laneLocal_offerIdle.alike l _ _ (halike l)
    · have hsame : (s.openStart cs).lane l = s.lane l := (halike l).lane
      rw [hlane, offerIdle_busy (by rwa [hsame]), hsame]
    all_goals rw [hlanes.frame, heq]
  case closing =>
    obtain ⟨hpending, hclosed, hstill⟩ := (s.closingStart cs).settleClosing_keeps
    rw [← enterClosing_eq] at hpending hclosed hstill
    refine ⟨fun l hl => ?_, fun l hl => hclosed l (closed_closingStart hl cs), fun hmode => ?_, ?_, fun c hc => ?_⟩
    · have hlane := busy_closingStart hl cs
      have hbusy : ((s.closingStart cs).lane l).state ≠ .closed := by
        rw [hlane]
        rcases hl with hl | hl <;> rw [hl] <;> exact nofun
      have hsame : s.enterClosing cs = s.closingStart cs := by
        rw [enterClosing_eq, settleClosing_open (.inr ⟨l, hbusy⟩)]
      rw [hsame, hlane]
      exact ⟨s.mode_closingStart cs, rfl⟩
    · rw [hstill hmode]
      exact s.triggers_closingStart cs
    · exact hpending 18 (pending_closingStart (c := .modeChange) (by simp) s)
    · exact hpending _ (pending_closingStart (by simp [hc]) s)
  case goesOn => rw [State.settle, settlePairs_settled hp, settleClosing_open ho]
  case ends =>
    have hsettle : s.settle = s.settleClosing := by rw [State.settle, settlePairs_settled hp]
    rw [hsettle, settleClosing_over hm hc]
    refine ⟨fun hw => ?service, fun hw hd => ?deep, fun hw hd => ?standby⟩
    case service =>
      have hcond : closingTarget s.bcm.requested s.bcm.schedule.afterClose = .service ∨ s.wakePending = true :=
        hw.elim (fun hw => .inr (s.wakePending_iff.2 hw))
          fun ⟨hd, hs⟩ => .inl (closingTarget_service.2 ⟨hd, fun h => hs ⟨hd, h⟩⟩)
      have hpending := raise_pending (s.closingOver.setMode .service) .modeChange none
      rw [if_pos hcond]
      refine ⟨?_, hpending, ?_, ?_⟩ <;> rw [service_closingOver]
      · simp [closingOver]
      · simp [closingOver]
      · exact (s.closingOver.triggers_setMode .service).congr rfl (flag_congr rfl rfl rfl rfl rfl rfl rfl) rfl
          (flag_congr rfl rfl rfl rfl rfl rfl rfl)
    case deep =>
      have htarget := closingTarget_deep.2 hd
      rw [htarget, if_neg (not_or.2 ⟨nofun, fun h => hw (s.wakePending_iff.1 h)⟩)]
      rfl
    case standby =>
      obtain ⟨hdeep, hstandby⟩ := hd
      have htarget : closingTarget s.bcm.requested s.bcm.schedule.afterClose = .standby := by
        cases ht : closingTarget s.bcm.requested s.bcm.schedule.afterClose with
        | service => exact absurd hstandby (closingTarget_service.1 ht).2
        | standby => rfl
        | deep => exact absurd (closingTarget_deep.1 ht) hdeep
      rw [htarget, if_neg (not_or.2 ⟨nofun, fun h => hw (s.wakePending_iff.1 h)⟩)]
      rfl
  case dormant =>
    obtain ⟨ls, ks, r, e, hstart⟩ := s.dormantStart_eq x
    have hcalm := s.calm_dormantStart x
    have halike := s.stopAlike_dormantStart x
    have htriggers := s.triggers_dormantStart x
    have hbcm := s.bcm_enterDormant x
    obtain ⟨hkept, htested⟩ := s.pending_dormantStart x
    obtain ⟨-, htest, hpending, -, hqueue⟩ := dormantStop_keeps hcalm
    obtain ⟨v, hv, hvcalm, heq⟩ := s.enterDormant_via x
    have hstop : StopKept v (s.enterDormant x) := by
      rw [enterDormant_eq, ← hv]
      exact stopKept_dormantEnd hvcalm x
    have hclosed {l : LaneNo} (hl : (s.lane l).state = .idle ∨ (s.lane l).state = .refusing) :=
      s.closed_enterDormant x (l := l) (hl.imp id .inl)
    rw [← hv] at htest hpending hqueue
    generalize s.enterDormant x = t at *
    generalize s.dormantStart x = u at *
    have hrunning : u.link.running = s.link.running := by rw [hstart]
    have hawaiting : u.link.awaiting = s.link.awaiting := by rw [hstart]
    refine ⟨by rw [hbcm], ?_, fun l hl => hclosed hl, fun hr ha => ?_, ?_, fun ht => ?_, fun hr ha => ?_,
      fun hx => ?_, fun hx => ?_⟩
    · rw [heq]
      exact raise_pending v .modeChange none
    · have hhalt : v = u.haltLink := hv.trans (dormantStop_halts (hrunning.trans hr) (hawaiting.trans ha))
      have hstopped : s.linkStopped t := linkStopped_of_kept (linkStopped_of_alike halike (hhalt ▸ linkStopped_haltLink u)) hstop
      have hlink : t.link = u.haltLink.link := by rw [heq, hhalt]
      refine ⟨?_, ?_, fun l => ?_, hstopped⟩
      · rw [hlink, (bcm_haltLink hcalm).2]
      · rw [hlink, (bcm_haltLink hcalm).2]
      · rw [hstopped.1 l]
    · rw [heq]
      exact htest.trans (by rw [hstart])
    · rw [heq]
      exact pending_raise _ _ (hpending 22 (htested ht))
    · have hwait := hv.trans (dormantStop_waits (hrunning.trans hr) (hawaiting.trans ha))
      rw [heq, hwait]
      exact ⟨hrunning.trans hr, rfl, htriggers.congr rfl rfl rfl (flag_congr rfl rfl rfl rfl rfl rfl rfl)⟩
    · exact ⟨by rw [hbcm, if_pos hx], by rw [heq]; exact if_pos hx⟩
    · have hd : x ≠ .deep := by rw [hx]; exact nofun
      refine ⟨by rw [hbcm, if_neg hd], ?_⟩
      rw [heq]
      exact (if_neg hd).trans (hqueue.trans (by rw [hstart]))
  case left =>
    have hcalm : ((s.setMode .service).startLink).Calm := .inl (by simp)
    have hraises : s.leaveStandby = ((s.setMode .service).startLink).raises [.wake, .modeChange] := rfl
    have heq := raises_eq hcalm [.wake, .modeChange]
    have hpending {c : Cause} (h : c ∈ [Cause.wake, .modeChange]) := raises_pending h ((s.setMode .service).startLink)
    rw [hraises]
    refine ⟨?_, hpending (c := .modeChange) (by decide), hpending (c := .wake) (by decide), ?_, fun hs => ?_⟩ <;> rw [heq]
    · simp
    · exact triggers_startLink_setMode (b := .service) rfl rfl
    · exact running_startLink (by simpa using hs)

end Sys2Proof.Machine
end
